-- ==== Sys2Proof/Word.lean ====
section
/-! DEFINITION. The word types of the model and their plainest arithmetic (R6, 00_scope.md: multi-byte integers are
little-endian; byte strings of external standards keep their first byte at the lowest address). -/

namespace Sys2Proof

/-- One byte. -/
abbrev Byte := BitVec 8

/-- A byte string, first byte at the lowest address. -/
abbrev Bytes := List Byte

end Sys2Proof
end

