-- ==== Sys2Proof/Syntax.lean ====
section
/-! DEFINITION. The commands and events of the OX1600: one constructor of `Instr` per row of spec/opcode_table.json,
with the operands the outside world (a host, a card, a badge, a rail, a sensor, an engine's own completion) supplies. -/

namespace Sys2Proof

/-- A host function (R98, 05): its port (false A, true B) and its VF number, 0 for PF0. -/
structure FnId where
  port : Bool
  vf : Nat
  deriving DecidableEq, Repr

/-- How a read of host memory ended (R109, 05). -/
inductive ReadResult where
  | data (bytes : Bytes)
  | unsupported   -- Unsupported Request or Completer Abort
  | poisoned      -- poisoned data
  deriving DecidableEq, Repr

/-- Which read of a command a completion answers (R21, R130): the input list, the output list, or the payload. -/
inductive ReadKind where
  | inList
  | outList
  | payload
  deriving DecidableEq, Repr

/-- How a copy of a key record's lines reads during a fill: whole, failing its vault MAC (R310), or passing it and failing
its wrapping tag (R285). -/
inductive LineEnd where
  | ok
  | macFail
  | tagFail
  deriving DecidableEq, Repr

/-- The generations a reply between units carries (R24, R200): its responder's, and the requester's that it echoes. -/
structure ReplyGen where
  responder : Nat
  echoed : Nat
  deriving DecidableEq, Repr

/-- What a descriptor read brings: the generation of its function that it echoes (R24), and its result. -/
structure FetchReply where
  gen : Nat
  result : ReadResult
  deriving DecidableEq, Repr

/-- The attempt that a reply answers (R181): a retire-buffer entry and its instance. -/
structure Attempt where
  entry : Nat
  inst : Nat
  deriving DecidableEq, Repr

/-- What a fabric load brings (R414): its generations, its tag and its data. -/
structure LoadReply where
  gens : ReplyGen
  tag : BitVec 32
  data : Bytes
  deriving DecidableEq, Repr

/-- Where a detected fault lies (R201): a basin or keeper pair, and the entry that it was serving. -/
structure FaultAt where
  unit : Nat
  entry : Option Nat
  deriving DecidableEq, Repr

/-- What the word of an uncorrectable SRAM error holds (R202, R449): nothing the rules name, a key-cache entry, or part of the Refuge stack that a
push finds. -/
inductive SramWord where
  | plain
  | key (handle : BitVec 64)
  | refuge
  deriving DecidableEq, Repr

/-- A basin element as BSN_FAULT_LOG_i.ELEMENT codes it (09): 0-7 cipher jet, 8-9 hash jet, 10 Cascade, 11 SRAM,
12 fabric port, 13 keeper pair, 14 sequencer, 15 none. -/
abbrev Element := Nat

/-- Where a self-timed stage lies (R55, R56): in a basin, or in another unit of the compute die. -/
inductive Unit where
  | basin (n : Nat)
  | cistern
  | vault
  | fountainhead
  | sluice
  | wellhead (port : Bool)
  | spring
  | grotto
  deriving DecidableEq, Repr

/-- Operands of the keeper two- and three-register operations (R427, R429, 18): a 16-bit RR form, or an RRR form with its
width code (0 is 128, 1 is 64, 2 is 32 bits). -/
inductive AluForm where
  | rr (rd rs : Nat)
  | rrr (width rd rs rt : Nat)
  deriving DecidableEq, Repr

/-- Operands of the keeper immediate operations (R427, R428): imm7 of the RI form, imm16 of RI16, imm14 of RRI. -/
inductive ImmForm where
  | ri (rd imm7 : Nat)
  | ri16 (rd imm16 : Nat)
  | rri (rd rs imm14 : Nat)
  deriving DecidableEq, Repr

/-- Operands of the keeper loads and stores (R427, R428): the RR form through SG1 with its func, or the MEM form. -/
inductive MemForm where
  | rr (size rd rs : Nat)
  | mem (rd seg base size disp10 : Nat)
  deriving DecidableEq, Repr

/-- Operands of the keeper conditional jumps (R427, R428). -/
inductive JmpForm where
  | short (cond3 disp8 : Nat)
  | long (cond disp20 : Nat)
  deriving DecidableEq, Repr

/-- Fields of a BLK instruction (R428, R433). -/
structure BlkForm where
  segS : Nat
  segD : Nat
  pS : Nat
  pD : Nat
  pV : Nat
  dir : Bool
  /-- the interrupt source of the pair that becomes pending while it runs, and during which element, from 0 (R434) -/ irq : Option (Nat × Nat) := none
  deriving DecidableEq, Repr

/-- The operand fields of a Cascade command word (CAS_CMD, 11): n = nw + 1 words, context, slots D A B C, L, MODE and the
owning retire-buffer entry. -/
structure CasOps where
  nw : Nat
  ctx : Nat
  d : Nat
  a : Nat
  b : Nat
  c : Nat
  l : Nat
  mode : Nat
  entry : Nat
  deriving DecidableEq, Repr

/-- A frame a card sends (R526, R527, 24). -/
inductive CardFrame where
  | short (opcode : Nat) (status : BitVec 32)
  | long (opcode : Nat) (status : BitVec 32) (extra : Bytes)
  | badCrc
  deriving DecidableEq, Repr

/-- A frame a badge sends while a COLLECT runs (R540, R544, 25): its layer-4 activation, an APDU response with its
status word, or a frame that fails CRC or parity. -/
inductive BadgeFrame where
  | activated (rate : Nat)
  | apdu (body : Bytes) (sw : Nat)
  | bad
  deriving DecidableEq, Repr

/-- How a tag command addresses the tag (R546, R548). -/
inductive TagMode where
  | nonAddressed
  | addressed (uid : BitVec 64)
  | selected
  deriving DecidableEq, Repr

/-- The mode and power of one ISO/IEC 15693 request (R546, R554): addressing, whether it asks for the high data rate on
one subcarrier, and whether the stored field energy covers a write and the response. -/
structure TagReq where
  mode : TagMode
  highRate : Bool
  energy : Bool
  deriving DecidableEq, Repr

/-- How an AVSBus transaction ended (R67, 03). -/
inductive AvsEnd where
  | ok (mv : Nat)
  | crcError
  | noResponse
  deriving DecidableEq, Repr

/-- The commands and events, one per row of spec/opcode_table.json. -/
inductive Instr where
  -- host queues and Sluice
  | submissionTailDoorbell (f : FnId) (q : Nat) (v : BitVec 32)
  | completionHeadDoorbell (f : FnId) (q : Nat) (v : BitVec 32)
  | descriptorFetch (f : FnId) (q : Nat)
  | admission (f : FnId) (q : Nat) (r : FetchReply)
  | wakeComplete (b : Nat)
  | parkBasin (b : Nat)
  | sluCtrlWrite (f : FnId) (v : BitVec 32)
  | dispatch (b : Nat) (cascade : Bool)
  | segmentBoundary (b : Nat)
  | hostReadCompletion (a : Attempt) (gen : Nat) (k : ReadKind) (r : ReadResult)
  | keyFillComplete (a : Attempt) (g : ReplyGen) (handle : BitVec 64) (ends : LineEnd × LineEnd)
  | fillBufferGrant (e : Nat) (handle : BitVec 64)
  | workBufferGrant (e : Nat)
  | stripeComplete (a : Attempt) (gen stripe : Nat)
  | verdict (e : Nat)
  | nonceReservationPersisted (handle : BitVec 64)
  | retirement (e : Nat)
  | postCompletion (f : FnId) (q : Nat)
  | msixCoalesceTimeout (f : FnId) (q : Nat)
  | msixVectorUnmask (f : FnId) (vector : Option Nat)
  | retentionExpiry (f : FnId) (q : Nat) (tag : BitVec 64)
  | queueEnable (f : FnId) (q : Nat) (v : BitVec 32)
  | queueDisable (f : FnId) (q : Nat) (v : BitVec 32)
  -- host commands: execution of the admitted command in retire-buffer entry e
  | nop (e : Nat)
  | batchArm (e : Nat)
  | launchCancel (e : Nat)
  | pinTranslate (e : Nat)
  | pinVerify (e : Nat)
  | macGenerate (e : Nat)
  | macVerify (e : Nat)
  | arqcVerify (e : Nat)
  | cvvCompute (e : Nat)
  | cvvVerify (e : Nat)
  | aeadSeal (e : Nat)
  | aeadOpen (e : Nat)
  | tokenEncode (e : Nat)
  | tokenDecode (e : Nat)
  | digest (e : Nat)
  | hmac (e : Nat)
  | random (e : Nat)
  | randomNotSeededDeadline (e : Nat)
  | sign (e : Nat)
  | verify (e : Nat)
  | pairedVerify (e : Nat)
  | kemEncaps (e : Nat)
  | kemDecaps (e : Nat)
  | ecdh (e : Nat)
  | keypairGenerate (e : Nat)
  | attest (e : Nat)
  | keyImport (e : Nat)
  | keyExport (e : Nat)
  | keyGenerate (e : Nat)
  | keyDerive (e : Nat)
  | keyState (e : Nat)
  | keyDestroy (e : Nat)
  | layoutLoad (e : Nat)
  | layoutStage (e : Nat)
  | layoutDiscard (e : Nat)
  | firmwareStage (e : Nat)
  | launchSchedule (e : Nat)
  | quorumOpen (e : Nat)
  | quorumCollect (e : Nat)
  | quorumAbort (e : Nat)
  | quorumCommit (e : Nat)
  | gaugeRead (e : Nat)
  | passportRecordWrite (e : Nat)
  | eraseNotes (e : Nat)
  | passportIncrement (e : Nat)
  | setPassword (e : Nat)
  | debugInstall (e : Nat)
  | debugRemove (e : Nat)
  | entropyRaw (e : Nat)
  | rawRunEnd (samples : Bytes) (rct apt : Nat)
  | vaultRestore (e : Nat)
  -- launches, epochs, drains
  | launchInstant
  | layoutSlotCommit
  | epochDrained
  | launchSequenceDrained
  | swapDrained
  | basinDrainTimeout (b : Nat)
  -- pace and voltage loop
  | paceWindow (cycles256 : List (Option Nat))
  | loopPeriod
  | avsReadBack
  | avsCeilWrite (f : FnId) (v : BitVec 32)
  | stall (u : Unit) (el : Element) (e : Option Nat)
  | railCollision (u : Unit) (el : Element) (e : Option Nat)
  -- Timebase
  | refLost
  | refRestored
  | syncPairWrite
  | tbsStep (f : FnId) (v : BitVec 64)
  | counterStep
  | tbsSet (f : FnId) (v : BitVec 64)
  | counterSet
  | tbsSlew (f : FnId) (v : BitVec 64)
  | slewEnd
  | ppsEdge
  | holdover
  | ppsOutRise
  | ppsOutFall
  -- ports and functions
  | linkDown (port : Bool)
  | linkUp (port : Bool) (rate width : Nat)
  | perstAssert (port : Bool)
  | holdExpired (f : FnId) (q : Nat)
  | reattach (f : FnId) (v : BitVec 32)
  | functionLevelReset (f : FnId)
  | flrComplete (f : FnId)
  | vfEnableSet (port : Bool) (numVfs : Nat)
  | vfEnableClear (port : Bool)
  | powerStateChange (f : FnId) (d3hot : Bool)
  | ideCheckFailure (port : Bool)
  | ideKmMessage (port : Bool) (msg : Bytes)
  | spdmMessage (port : Bool) (msg : Bytes)
  | wideRegisterRead (f : FnId) (off : Nat) (size : Nat)
  | registerWrite (f : FnId) (off : Nat) (size : Nat) (v : BitVec 64) (arrived : BitVec 64)
  -- detected faults and basins
  | checkingPipeMismatch (b jet e : Nat)
  | hashParityFailure (b jet e : Nat)
  | fabricTagFailure (sender receiver : Unit) (e : Option Nat)
  | sramUncorrectable (x : FaultAt) (word : SramWord)
  | sramCorrection (b : Nat)
  | keeperLockstepMismatch (x : FaultAt)
  | restartVerifyDone (ok : Bool)
  | sequencerControlFault (x : FaultAt)
  | faultRetestDone (b : Nat) (pass : Bool)
  | admissionSelfTestDone (b : Nat) (pass : Bool)
  | spareSelfTest (pass : Bool)
  | rollingUpdate (f : FnId)
  | updateBasinDone (b : Nat) (pass : Bool)
  -- keeper jobs on the jets
  | jetJob (b : Nat) (job : BitVec 256)
  | jobDone (b : Nat)
  -- Cascade
  | modset (b : Nat) (o : CasOps)
  | madd (b : Nat) (o : CasOps)
  | msub (b : Nat) (o : CasOps)
  | mmul (b : Nat) (o : CasOps)
  | mred (b : Nat) (o : CasOps)
  | minv (b : Nat) (o : CasOps)
  | mexp (b : Nat) (o : CasOps)
  | imul (b : Nat) (o : CasOps)
  | iadd (b : Nat) (o : CasOps)
  | move (b : Nat) (o : CasOps)
  | cswap (b : Nat) (o : CasOps)
  | csel (b : Nat) (o : CasOps)
  | loadkey (b : Nat) (o : CasOps)
  | rand (b : Nat) (o : CasOps)
  | wipe (b : Nat) (o : CasOps)
  | check (b : Nat) (o : CasOps)
  | declass (b : Nat) (o : CasOps)
  | kstore (b : Nat) (o : CasOps)
  | ntt (b : Nat) (o : CasOps)
  | intt (b : Nat) (o : CasOps)
  | pmul (b : Nat) (o : CasOps)
  | padd (b : Nat) (o : CasOps)
  | psub (b : Nat) (o : CasOps)
  | sample (b : Nat) (o : CasOps)
  | round (b : Nat) (o : CasOps)
  | norm (b : Nat) (o : CasOps)
  | pack (b : Nat) (o : CasOps)
  | unpack (b : Nat) (o : CasOps)
  | seqOpen (b : Nat) (o : CasOps)
  | seqClose (b : Nat) (o : CasOps)
  | cascadeCommandDone (b : Nat)
  | casWindowRead (b : Nat)
  | casWindowWrite (b : Nat) (v : BitVec 128)
  -- vault
  | dieRetrain (d : Nat) (ok : Bool)
  | dieLost (d : Nat)
  | rewrapGo (f : FnId)
  | rewrapThreshold (d : Nat)
  | rewrapDone
  | mirrorEntryWrite
  | mirrorAck (f : FnId) (v : BitVec 64)
  | mirrorAckReadback (entry : Bytes)
  | mirrorCtrlWrite (f : FnId) (v : BitVec 32)
  | reloadTail (f : FnId) (v : BitVec 32)
  | reloadEntry (entry : Bytes)
  | reloadEnd (f : FnId)
  | reloadRestart (f : FnId)
  -- Weir
  | weiKselWrite (pair : Nat) (v : BitVec 32)
  | weirRekey
  | tagKeyRetire
  | debugAccess (addr : BitVec 40) (write : Bool) (lenM1 : Nat) (data : Bytes)
  | debugAccessResponse
  -- keeper instructions, executed by pair p (0-7 basin, 8 Fountainhead)
  | mov (p rd rs : Nat)
  | add (p : Nat) (o : AluForm)
  | sub (p : Nat) (o : AluForm)
  | adc (p : Nat) (o : AluForm)
  | sbb (p : Nat) (o : AluForm)
  | and (p : Nat) (o : AluForm)
  | or (p : Nat) (o : AluForm)
  | xor (p : Nat) (o : AluForm)
  | andn (p : Nat) (o : AluForm)
  | tst (p rd rs : Nat)
  | cmp (p : Nat) (o : AluForm)
  | shl (p : Nat) (o : AluForm)
  | shr (p : Nat) (o : AluForm)
  | sar (p : Nat) (o : AluForm)
  | ror (p : Nat) (o : AluForm)
  | not (p rd rs : Nat)
  | neg (p rd rs : Nat)
  | mul (p : Nat) (o : AluForm)
  | mulh (p : Nat) (o : AluForm)
  | bswap (p : Nat) (o : AluForm)
  | clz (p : Nat) (o : AluForm)
  | popc (p : Nat) (o : AluForm)
  | movi (p : Nat) (o : ImmForm)
  | movhi (p rd imm16 : Nat)
  | andi (p rd imm16 : Nat)
  | ori (p rd imm16 : Nat)
  | addi (p : Nat) (o : ImmForm)
  | cmpi (p : Nat) (o : ImmForm)
  | extf (p rd rs imm14 : Nat)
  | insf (p rd rs imm14 : Nat)
  | ld (p : Nat) (o : MemForm)
  | fabricLoadReturn (p : Nat) (r : LoadReply)
  | st (p : Nat) (o : MemForm)
  | jcc (p : Nat) (o : JmpForm)
  | call (p disp20 : Nat)
  | jr (p rs : Nat)
  | callr (p rs : Nat)
  | ret (p : Nat)
  | ldl (p rd disp20 : Nat)
  | push (p reg : Nat)
  | pop (p reg : Nat)
  | keeperNop (p : Nat)
  | btst (p bit : Nat)
  | bset (p bit arrived : Nat)
  | bclr (p bit : Nat)
  | bnot (p bit : Nat)
  | btas (p bit : Nat)
  | brd (p rd bit : Nat)
  | bwr (p rd bit arrived : Nat)
  | bcopy (p : Nat) (o : BlkForm)
  | bfill (p : Nat) (o : BlkForm)
  | bcmp (p : Nat) (o : BlkForm)
  | bseek (p : Nat) (o : BlkForm)
  | bxor (p : Nat) (o : BlkForm)
  | bzero (p : Nat) (o : BlkForm)
  | movsg (p sr rs : Nat)
  | movgs (p rd sr : Nat)
  | movsr (p sr rs : Nat)
  | movrs (p rd sr : Nat)
  | callg (p imm12 : Nat)
  | retg (p : Nat)
  | rnd (p rd : Nat)
  | fence (p : Nat)
  | fenceComplete (p : Nat)
  | wait (p : Nat)
  | waitWake (p : Nat)
  | undefinedInstruction (p : Nat)
  | interruptEntry (p : Nat)
  | watchdogExpiry (p : Nat)
  | watchdogKick (p : Nat)
  | timerFire (p k : Nat)
  -- Spring
  | sourceBlock (srcB : Bool) (bias lag1 lag2 lag3 : Int)
  | sourceWindow (srcB : Bool) (rctRun aptCount : Nat) (blocks : List Bytes)
  | sourceSettleEnd (srcB : Bool)
  | sourceRejoin (srcB : Bool)
  | drbgInstantiated (n : Nat)
  | drbgReseed (n : Nat)
  | reseedRequest (f : FnId) (v : BitVec 32)
  -- Fountainhead
  | leaveMaint (f : FnId)
  | fwSwitch (f : FnId)
  | sessionExpiry
  | debugCertCheck
  -- Grotto
  | tamperSourceAssert (src : Nat)
  | corroborationTimeout
  | sealComplete
  | eraseWarmReset
  | batterySample (active : BitVec 16)
  | mainPowerLoss
  | stickyClear (f : FnId) (v : BitVec 32) (arrived : BitVec 16)
  | fuseOff (f : FnId) (v : BitVec 32)
  -- Gauge
  | accumulatorCommit
  | temperatureSample (temp : Int) (vbatMv : Nat)
  | hourEnd
  -- card bus
  | cardInserted (n : Nat)
  | cardRemoved (n : Nat)
  | cardBringUp (n : Nat)
  | bringUpRetry (n : Nat)
  | cardResponse (n : Nat) (fr : CardFrame)
  | cardResponseTimeout (n : Nat)
  | receipt (n : Nat) (status : BitVec 32) (crcError : Bool)
  | dataBlock (n : Nat) (block : Bytes) (crcOk : Bool)
  | busyHoldRelease (n : Nat)
  | busyHoldTimeout (n : Nat)
  -- contactless reader
  | ping (amplitude : Nat)
  | enumerationCycle (uids : List (BitVec 80))
  | externalFieldDetected
  | readerResume
  | badgeResponse (fr : BadgeFrame)
  | badgeTimeout
  -- passport tag
  | fieldOn
  | fieldLost
  | inventory (r : TagReq) (mask : BitVec 64) (maskLen : Nat) (slot : Option Nat)
  | stayQuiet (r : TagReq)
  | select (r : TagReq)
  | resetToReady (r : TagReq)
  | getSystemInformation (r : TagReq)
  | readSingleBlock (r : TagReq) (block : Nat)
  | readMultipleBlocks (r : TagReq) (first count : Nat)
  | getDirectory (r : TagReq)
  | readRecord (r : TagReq) (rec off len : Nat)
  | auth (r : TagReq) (pw : Nat) (password : Bytes)
  | appendNote (r : TagReq) (rec : Nat) (text : Bytes)
  | increment (r : TagReq) (rec amount : Nat)
  | unsupportedTagCommand (r : TagReq) (code : Nat)
  | stagedBlockCommit
  | forcedCommit
  | wireBusyRetry
  -- power and reset
  | powerOnReset (rail : Nat) (x16 : Bool)
  | boot
  | warmDeviceReset (code : BitVec 32)
  | completionTimeout (f : FnId) (q : Nat) (e : Option Nat)
  | tbRefReturn
  | tamperSourceDeassert (src : Nat)
  | cascadeWipeDone (b : Nat)
  | basinDiagnosisDone (b : Nat) (pass : Bool)
  | perstDeassert (port : Bool)
  | vbatRetentionLoss
  | holdupRecharged
  | avsTransactionEnd (r : AvsEnd)
  | poolRefill (n len : Nat)
  | doeDiscovery (port : Bool) (index : Nat)
  deriving DecidableEq, Repr

end Sys2Proof
end

