-- ==== Sys2Proof/Config.lean ====
section
/-! DEFINITION. What the spec takes from outside it: the primitives of external standards, and the free values. Each is an
opaque constant, so a claim about the model holds whatever they are. -/

namespace Sys2Proof.Config

/-! ## Free values -/

/-- The n-th value the spec leaves open, as w bits (log entry 1). -/
opaque freeValue (w : Nat) : Nat → BitVec w

/-- The n-th open choice between two outcomes (log entry 1). -/
opaque freeBool : Nat → Bool

/-- The n-th open byte string of a given length, before it is cut or padded to that length (log entry 1). -/
opaque freeRaw : Nat → Nat → Bytes

/-- The n-th open byte string, of exactly `len` bytes. -/
def freeBytes (n len : Nat) : Bytes := ((freeRaw n len) ++ List.replicate len 0).take len

/-- What a 16-bit pace field shows of a pace that does not fit it, which R57 and the BSN_PACE_n table leave open (log entry 131). -/
opaque widePace : Nat → BitVec 16

/-- The window pace of a ring that completed no cycle, which R57 leaves open (log entry 131). -/
opaque stoppedPace : Nat

/-- Whether an output data write to an address carries the relaxed-ordering attribute, which R20 leaves open (log entry 127). -/
opaque relaxedWrite : Nat → Bool

/-! ## Block ciphers and format-preserving encryption (FIPS 197, SP 800-67, SP 800-38G) -/

/-- Encryption of one block; the key's length selects AES-128, AES-192 or AES-256. -/
opaque aesEnc : Bytes → Bytes → Bytes

/-- Decryption of one block. -/
opaque aesDec : Bytes → Bytes → Bytes

/-- Encryption of one 8-byte block under a 16- or 24-byte key. -/
opaque tdesEnc : Bytes → Bytes → Bytes

/-- Decryption of one 8-byte block. -/
opaque tdesDec : Bytes → Bytes → Bytes

/-- Single DES, as Retail MAC uses it. -/
opaque desEnc : Bytes → Bytes → Bytes

/-- Single DES decryption. -/
opaque desDec : Bytes → Bytes → Bytes

/-- FF1: key, tweak, radix, numeral string, direction (true encrypts). -/
opaque ff1 : Bytes → Bytes → Nat → List Nat → Bool → List Nat

/-! ## Hashes (FIPS 180-4, FIPS 202, FIPS 198) -/

/-- The hash that `alg` names, as its chapter codes it, with an output length for the extendable ones. -/
opaque hash : Nat → Nat → Bytes → Bytes

/-- HMAC with the hash that `alg` names. -/
opaque hmac : Nat → Bytes → Bytes → Bytes

/-- SHA-384. -/
opaque sha384 : Bytes → Bytes

/-- SHA-256. -/
opaque sha256 : Bytes → Bytes

/-- HMAC-SHA-384. -/
opaque hmacSha384 : Bytes → Bytes → Bytes

/-- CRC-32 of IEEE 802.3. -/
opaque crc32 : Bytes → Nat

/-- The CRC-16 of a passport note entry, whose parameters the spec does not state (R553, log entry 1). -/
opaque crc16 : Bytes → Nat

/-! ## Key blocks (ANSI X9.143) -/

/-- Key block opening: version letter, KBPK, whole block to the key bytes and their components; none when its
authentication fails. -/
opaque keyBlockOpen : Nat → Bytes → Bytes → Option Bytes

/-- Key block writing: version letter, KBPK, header, key bytes, random padding to the whole block. -/
opaque keyBlockSeal : Nat → Bytes → Bytes → Bytes → Bytes → Bytes

/-! ## Derivations -/

/-- SP 800-108 counter mode with CMAC-AES-256: key, label, context, output bytes (R282). -/
opaque kdf : Bytes → Bytes → Bytes → Nat → Bytes

/-- ANSI X9.24-3 working key: BDK, KSN, the usage indicator, key length in bytes. -/
opaque dukptAes : Bytes → Bytes → Nat → Nat → Bytes

/-- ANSI X9.24-1 working key: BDK, KSN, variant. -/
opaque dukptTdes : Bytes → Bytes → Nat → Bytes

/-- ANSI X9.24-3 initial key: BDK, initial key ID. -/
opaque dukptAesInitial : Bytes → Bytes → Bytes

/-- ANSI X9.24-1 IPEK: BDK, KSN. -/
opaque dukptTdesInitial : Bytes → Bytes → Bytes

/-! ## CTR_DRBG (SP 800-90A) -/

/-- Instantiation: entropy input, nonce, personalisation string to a state. -/
opaque drbgInstantiate : Bytes → Bytes → Bytes → Bytes

/-- Reseed: state, entropy input, additional input to a state. -/
opaque drbgReseed : Bytes → Bytes → Bytes → Bytes

/-- Generate n bytes: state to output and next state. -/
opaque drbgGenerate : Bytes → Nat → Bytes × Bytes

/-- One CBC-MAC output of the conditioner: state, block to next state (the output is its first 16 bytes, R464). -/
opaque condition : Bytes → Bytes → Bytes

/-! ## The configuration space -/

/-- What the spec gives no value for: 0 the vendor and device IDs, 1 the revision (log entry 138). -/
opaque pciId : Nat → BitVec 32

/-! ## Public-key schemes -/

/-- Sign: ALG, private components, mode, context, message or digest, randomness to signature. -/
opaque sign : Nat → List (Nat × Bytes) → Nat → Bytes → Bytes → Bytes → Bytes

/-- Verify: ALG, public components, mode, context, message or digest, signature. -/
opaque verify : Nat → List (Nat × Bytes) → Nat → Bytes → Bytes → Bytes → Bool

/-- The Brynlum CA paired public key, whose digest the boot ROM holds (R482). -/
opaque caKey : Bytes

/-- The Brynlum firmware-signing paired public key, whose digest the boot ROM holds (R482). -/
opaque fwSigner : Bytes

/-- Key pair: ALG, options, randomness to components. -/
opaque keypair : Nat → Nat → Bytes → List (Nat × Bytes)

/-- ML-KEM-768 encapsulation: encapsulation key, randomness to ciphertext and shared secret. -/
opaque mlkemEncaps : Bytes → Bytes → Bytes × Bytes

/-- ML-KEM-768 decapsulation: components, ciphertext to shared secret. -/
opaque mlkemDecaps : List (Nat × Bytes) → Bytes → Bytes

/-- Diffie-Hellman: ALG, private components, peer point to the shared coordinate; none for an invalid point. -/
opaque ecdh : Nat → List (Nat × Bytes) → Bytes → Option Bytes

/-- The NTT, inverse NTT and pointwise product of a lattice ring (11): ring, coefficients, second operand. -/
opaque ntt : Nat → List Nat → List Nat

/-- Inverse of `ntt`. -/
opaque intt : Nat → List Nat → List Nat

/-- Product in the transformed domain. -/
opaque ringMul : Nat → List Nat → List Nat → List Nat

/-- SAMPLE (R254, FIPS 203, FIPS 204): kind and seed to the coefficients, none where the blocks run out, and the blocks squeezed. -/
opaque sample : Nat → Bytes → Option (List Nat) × Nat

end Sys2Proof.Config
end

