-- ==== Sys2Proof/Machine/State.lean ====
section
/-! DEFINITION. The state of the OX1600 as plain data: every register, queue, buffer, counter, mode and pin the spec
gives the block, unit by unit, and the queue of waiting commands. Each field's doc gives its width, the file and rule
of spec/ that names it, and its reset value (the field's default). Instants are Nat counts of ns; keyed lists (`Tab`)
hold only the entries that differ from their default. -/

namespace Sys2Proof.Machine

/-- A keyed list: absent keys stand for the unit's reset value. Keys rise strictly. -/
abbrev Tab (α : Type) := List (Nat × α)

/-- Byte memory in canonical form: addresses strictly rising, no cell equal to 0, what an unlisted address reads as. -/
abbrev Memory := List Host.Cell

/-- An event register with its count register (R8, R9, 00): flags, and an 8-bit count per flag at byte i. -/
structure Events where
  /-- 8 flags; R8 00; reset 0 -/ flags : BitVec 8 := 0
  /-- 8 counts of 8 bits; R9 00; reset 0 -/ counts : BitVec 64 := 0
  deriving DecidableEq, Repr

/-- OP_STATE (R105, R481). -/
inductive OpState where
  | booting | serving | maintenance | sealed | restoreOnly | halted
  deriving DecidableEq, Repr

/-! ## What the device sends out (the model's own record of its outputs) -/

/-- The AVSBus commands of the subset (R64): Voltage write with its commit bit, Voltage read, Status read. -/
inductive AvsCmd where
  | voltageWrite (mv : Nat) (commit : Bool)
  | voltageRead
  | statusRead
  deriving DecidableEq, Repr

/-- One output of the device: a posted write or message on a port, a read it issues, an AVSBus transaction, a card-bus
or field frame. -/
inductive Out where
  | hostRead (port : Bool) (fn : FnId) (addr : Nat) (len : Nat)
  /-- a posted write, for a queue's command or for none, and its relaxed-ordering attribute (R20) -/
  | hostWrite (port : Bool) (fn : FnId) (q : Option Nat) (addr : Nat) (relaxed : Bool) (bytes : Bytes)
  /-- a completion entry written at an address of the queue's completion ring, with its relaxed-ordering attribute (R20, R120) -/
  | completion (fn : FnId) (q addr : Nat) (relaxed : Bool) (bytes : Bytes)
  /-- an MSI-X message of a vector: the data of its table entry, written at the entry's address (R96, R107) -/
  | msix (fn : FnId) (vector : Nat) (addr : BitVec 64) (data : BitVec 32)
  | readReply (fn : FnId) (off : Nat) (value : BitVec 64)
  | unsupportedRequest (fn : FnId) (off : Nat)
  | aer (port : Bool)
  | doe (port : Bool) (msg : Bytes)
  /-- an AVSBus transaction on a rail select, and whether its frame carries the CRC (R64) -/
  | avs (rail : Nat) (c : AvsCmd) (crc : Bool)
  | cardCommand (slot opcode : Nat) (params : Bytes)
  | cardBlock (slot : Nat) (block : Bytes)
  | badgeApdu (ins p1 p2 : Nat) (body : Bytes)
  | tagReply (errorCode : Option Nat) (body : Bytes)
  | casRead (basin : Nat) (value : BitVec 128)
  | debugReply (data : Option Bytes)
  deriving DecidableEq, Repr

/-! ## The Layout (02) -/

/-- A PARTITIONS entry (02). -/
structure Partition where
  part : Nat
  hasA : Bool
  hasB : Bool
  vfA : Nat
  vfB : Nat
  qp : Nat
  pool : BitVec 8
  keySlots : Nat
  workMib : Nat
  sessionKeys : Nat
  keyBase : Nat
  deriving DecidableEq, Repr

/-- A QUEUES entry (02); class 0 GUARANTEED, 1 STANDARD, 2 BULK. -/
structure QueueCfg where
  part : Nat
  port : Bool
  index : Nat
  cls : Nat
  log2Depth : Nat
  share : Nat
  cmdQuota : Nat
  kibQuota : Nat
  deriving DecidableEq, Repr

/-- A RULES entry (02, R31). -/
structure Rule where
  part : Nat
  allowed : Bool
  classes : BitVec 3
  opcode : Nat
  maxKib : Nat
  limit : Nat
  deriving DecidableEq, Repr

/-- A TRANSLATION entry (02, R31). -/
structure TransPair where
  inFmt : Nat
  outFmt : Nat
  dukptIn : Bool
  deriving DecidableEq, Repr

/-- A KEY_CLASSES entry (R280, 12). -/
structure KeyClass where
  cls : Nat
  persistentOk : Bool
  sessionOk : Bool
  tdes2Ok : Bool
  algs : BitVec 32
  usageMask : BitVec 64
  partners : BitVec 64
  deriving DecidableEq, Repr

/-- A Weir slot entry (R406, 17). -/
structure WeirSlot where
  rdMask : BitVec 16
  wrMask : BitVec 16
  maxR : Nat
  maxW : Nat
  deriving DecidableEq, Repr

/-- A Weir region entry (R407, 17). -/
structure WeirRegion where
  base : Nat
  log2Size : Nat
  rd : Bool
  wr : Bool
  maxRing : Nat
  deriving DecidableEq, Repr

/-- One Weir table set (R405, 17): 128 slot entries, 16 regions for each initiator 0x00 to 0x08. -/
structure WeirSet where
  slots : List WeirSlot := []
  regions : List (List WeirRegion) := []
  deriving DecidableEq, Repr

/-- A QUORUM entry (R588, 02). -/
structure QuorumId where
  id : BitVec 128
  badge : Bool
  deriving DecidableEq, Repr

/-- A FIRMWARE entry (R588, 02); kind 0 keeper, 1 Fountainhead. -/
structure FwEntry where
  kind : Nat
  version : Nat
  digest : Bytes
  deriving DecidableEq, Repr

/-- A parsed Layout image (02). -/
structure Layout where
  serial : Nat := 0
  bind : Bytes := []
  ownerDigest : Bytes := []
  portMode : Nat := 0
  partitions : List Partition := []
  queues : List QueueCfg := []
  shared : BitVec 8 := 0
  spare : Nat := 0xFF
  owners : List Nat := []
  keyUnits : Nat := 0
  weirA : WeirSet := {}
  weirB : WeirSet := {}
  rules : List Rule := []
  translation : List TransPair := []
  keyClasses : List KeyClass := []
  tamper : List Nat := []
  quorumM : Nat := 0
  quorum : List QuorumId := []
  firmware : List FwEntry := []
  passportView : Option (BitVec 64) := none
  floorPs : Nat := 0
  ceilMv : Nat := 0
  ppsOffset : Nat := 0
  ownerKey : Bytes := []
  digest : Bytes := []
  deriving DecidableEq, Repr

/-- LAY_STATUS.STAGE (R36, 02). -/
inductive LayStage where
  | empty | loading | verified | approved | staged | scheduled
  deriving DecidableEq, Repr

/-- Layout control (02). -/
structure LayState where
  /-- 4 bits; R36 02; reset EMPTY -/ stage : LayStage := .empty
  /-- image; R49 02; reset none (LAY_STATUS.ACTIVE 0) -/ active : Option Layout := none
  /-- 1 bit; R50 02; reset 0. Layout lock -/ lock : Bool := false
  /-- 1 bit; R36 02; reset 0. LAY_STATUS.DRAINED -/ drained : Bool := false
  /-- 1 bit; R36 02; reset 0. LAY_STATUS.SLOT, the MRAM slot of the active image -/ slot : Bool := false
  /-- 5 flags; 02; reset 0. LAY_EVENT and LAY_EVENT_COUNT -/ event : Events := {}
  /-- 8 bits; R34 02; reset 0. LAY_REJECT.CAUSE -/ rejCause : Nat := 0
  /-- 16 bits; R34 02; reset 0. LAY_REJECT.SECTION -/ rejSection : Nat := 0
  /-- 32 bits; R34 02; reset 0. LAY_REJECT.ENTRY -/ rejEntry : Nat := 0
  /-- 64 bits; 02; reset 0. LAY_ACTIVE_SERIAL -/ activeSerial : Nat := 0
  /-- 64 bits; 02; reset 0. LAY_STAGED_SERIAL -/ stagedSerial : Nat := 0
  /-- 32 bits; R187 08; reset 0. LAY_EPOCH -/ epoch : Nat := 0
  /-- 32 bits; R193 08; reset 0. LAY_DRAINED_EPOCH -/ drainedEpoch : Nat := 0
  /-- 64 bits; R36 02; reset 0. LAY_LAUNCH_AT -/ launchAt : Nat := 0
  /-- up to 2 MiB; R36, R590 02; reset empty. Bytes of the image in the loading slot -/ loading : Bytes := []
  /-- image; R36 02; reset none. The verified or staged image -/ image : Option Layout := none
  /-- image; R36 step 5 02; reset none. The staged bank of every unit -/ staged : Option Layout := none
  /-- 64 bits; R37 02; reset none. Active serial at the approval of the loading image -/ approvedAt : Option Nat := none
  /-- 1 bit; R36 step 8 02; reset 0. The active-slot pointer awaits its MRAM commit -/ slotCommit : Bool := false
  /-- 1 bit; R322 13; reset 0. A launched image not yet drained -/ draining : Bool := false
  deriving DecidableEq, Repr

/-! ## Timebase and launch table (04) -/

/-- Launch kinds (R85, 04). -/
inductive LaunchKind where
  | layout | weirSwap | keyActivate | keyRetire | batchRelease | basinRetire | basinAdmit
  deriving DecidableEq, Repr

/-- Launch entry states (R84, 04). -/
inductive LaunchState where
  | free | armed | fired | missed | failed | cancelled
  deriving DecidableEq, Repr

/-- A launch entry (R84, 04). -/
structure LaunchEntry where
  /-- 64 bits; R84 04; reset 0 -/ instant : Nat := 0
  /-- 8 bits; R85 04; reset 0 (none) -/ kind : Option LaunchKind := none
  /-- 3 bits; R84 04; reset FREE -/ state : LaunchState := .free
  /-- 8 bits; R84 04; reset 0 -/ origin : Nat := 0
  /-- 8 bits; R84 04; reset 0 -/ cause : Nat := 0
  /-- 32 bits; R84 04; reset 0 -/ seq : Nat := 0
  /-- 64 bits; R84 04; reset 0 -/ arg : Nat := 0
  /-- 64 bits; R84 04; reset 0 -/ firedAt : Nat := 0
  /-- owner function of a BATCH_RELEASE entry; R90, R133; reset PF0 of port A -/ owner : FnId := ⟨false, 0⟩
  deriving DecidableEq, Repr

/-- TBS_STATUS.SYNC (R81, R82, 04). -/
inductive PpsSync where
  | free | acquiring | locked | holdover
  deriving DecidableEq, Repr

/-- The Timebase (04). -/
structure TbsState where
  /-- 64 bits; R71, R74 04; reset 0 (start value R76 with the battery domain not retained) -/ now : Nat := 0
  /-- 32-bit fraction; R71 04; reset 0 -/ frac : Nat := 0
  /-- 2 bits; R81 04; reset 0 FREE -/ sync : PpsSync := .free
  /-- 1 bit; R72 04; reset 0. REF_OK -/ refOk : Bool := false
  /-- 1 bit; R76 04; reset 0. CONTINUITY -/ continuity : Bool := false
  /-- 8 flags; 04; reset 0. TBS_EVENT and TBS_EVENT_COUNT -/ event : Events := {}
  /-- signed 32 bits, ppb; R71 04; reset 0. TBS_TRIM -/ trim : Int := 0
  /-- signed 32 bits; R81 04; reset 0. TBS_PPS_ERR -/ ppsErr : Int := 0
  /-- 30 bits; R32, R81 04; reset 0. TBS_PPS_OFFSET -/ ppsOffset : Nat := 0
  /-- 1 bit; 04; reset 0. TBS_CTRL.PPS_EN -/ ppsEn : Bool := false
  /-- 1 bit; 04; reset 0. TBS_CTRL.PPS_OUT_EN -/ ppsOutEn : Bool := false
  /-- pin; R83 04; reset low. TB_PPS_OUT -/ ppsOut : Bool := false
  /-- ns counted since TB_PPS_OUT rose; R83 04; reset 0 -/ ppsHigh : Nat := 0
  /-- integrator; R81 04; reset 0 -/ integ : Int := 0
  /-- count; R81 04; reset 0 -/ good : Nat := 0
  /-- ns that the counter has run since power-up, its steps and sets apart: what the elapsed times of R72, R81 and R82 are measured by (log
  entry 33); reset 0 -/ ran : Nat := 0
  /-- `ran` at the last accepted edge; R81 04; reset none -/ lastEdge : Option Nat := none
  /-- trims of the last 64 s, by `ran`; R82 04; reset empty -/ trimHistory : List (Nat × Int) := []
  /-- ns; R77 04; reset none. A step awaiting the next broadcast -/ stepReq : Option Nat := none
  /-- value; R79 04; reset none. A set awaiting the next broadcast -/ setReq : Option Nat := none
  /-- 2^-32 ns still to gain, signed; R80 04; reset 0 -/ slewLeft : Int := 0
  /-- 1 bit; R80 04; reset 0. SLEWING -/ slewing : Bool := false
  /-- trim before the slew; R80 04; reset 0 -/ slewSaved : Int := 0
  /-- ppb; R72 04; reset none. The trim to take when the reference has returned -/ heldTrim : Option Int := none
  /-- multiples of 2^30 ns passed at the last sync pair; R75 04; reset 0 -/ syncMark : Nat := 0
  /-- `ran` at the last TB_REF return; R72 04; reset 0 -/ refBack : Nat := 0
  /-- 1 bit; R72 04; reset 0. Trim and PPS suspended -/ refSuspended : Bool := false
  /-- 16 bits; R76 04; reset 0 DESIGN CHOICE (held in MRAM). TBS_ERA -/ era : Nat := 0
  /-- 64 entries of 32 bytes; R84 04; reset all FREE -/ launch : Tab LaunchEntry := []
  /-- 32 bits; R84 04; reset 0. Next arming sequence number -/ nextSeq : Nat := 0
  deriving DecidableEq, Repr

/-! ## Wellhead: functions and queues (05, 06) -/

/-- A completion built at retirement and not yet posted (R136, 06), and its retained copy (R144). -/
structure Completion where
  result : Bytes := []
  retire : Nat := 0
  status : Nat := 0
  late : Bool := false
  replayed : Bool := false
  yielded : Bool := false
  duplicate : Bool := false
  basin : Option Nat := none
  epoch : Nat := 0
  slot : Nat := 0
  tag : BitVec 64 := 0
  queueWait : Nat := 0
  service : Nat := 0
  /-- it entered the tag window, so its posting can free the tag (R143) -/ windowed : Bool := false
  /-- deadline instant, 0 for none, of a completion whose LATE is judged when it retires (R134) -/ deadlineAt : Nat := 0
  /-- cancellation instant of a command abandoned while held (R129, R167) -/ abandonedFrom : Option Nat := none
  /-- it waits for commands still using an old key state (R192): their entry numbers and orders of admission -/
  waitsFor : List (Nat × Nat) := []
  deriving DecidableEq, Repr

/-- One fetched descriptor of a queue, in submission order (R141, 06). -/
inductive QItem where
  | cmd (entry : Nat)                         -- an admitted command
  | held (slot : Nat) (desc : Bytes) (dlAdd : Nat)  -- a held command of the queue's batch (R132), with what steps added to its deadline (R78)
  | refused (c : Completion)                  -- refused at admission, or abandoned while held
  | dup (slot : Nat) (tag : BitVec 64) (own : Nat)        -- to be answered with a copy once the earlier command has retired (R145)
  | copy (c : Completion)                     -- answered with this copy of an earlier completion (R145)
  deriving DecidableEq, Repr

/-- The state of a tag in a tag window (R143 to R145, 06). -/
inductive TagState where
  | live (slot : Nat)                         -- its command, of this submission slot, has no posted completion
  | retained (c : Completion) (until_ : Nat)
  | expired
  deriving DecidableEq, Repr

/-- A bucket of R162 in units of 1/10^6 (so that refill is exact), with its last refill instant. -/
structure Bucket where
  bal : Int := 0
  last : Nat := 0
  deriving DecidableEq, Repr

/-- A held write with the epoch and the launch sequence of its command (R114, R193). -/
structure HeldWrite where
  epoch : Nat
  seq : Nat
  out : Out
  /-- issued once already, before the link was lost (R114, R193) -/ issued : Bool := false
  deriving DecidableEq, Repr

/-- A queue pair (06) with its Sluice balances (07). -/
structure Queue where
  /-- 64 bits; 06; reset 0. WEL_Q_SQ_BASE -/ sqBase : BitVec 64 := 0
  /-- 64 bits; 06; reset 0. WEL_Q_CQ_BASE -/ cqBase : BitVec 64 := 0
  /-- 1 bit; R121 06; reset 0. ENABLE -/ enabled : Bool := false
  /-- 6 bits; R142 06; reset 0. VECTOR -/ vector : Nat := 0
  /-- 8 bits; R142 06; reset 0. COAL_COUNT -/ coalCount : Nat := 0
  /-- 10 bits; R142 06; reset 0. COAL_TIME_US -/ coalTime : Nat := 0
  /-- 5 bits; 06; reset from the Layout (6 for PF0 queue 0 without one, R51). LOG2_DEPTH in force -/ log2Depth : Nat := 6
  /-- 3 bits; R125 06; reset 0. ERROR_CAUSE, non-zero in ERROR -/ errorCause : Nat := 0
  /-- 16 bits; R121 06; reset 0 -/ sqHead : Nat := 0
  /-- 16 bits; R121 06; reset 0 -/ sqTail : Nat := 0
  /-- 16 bits; R121 06; reset 0 -/ cqHead : Nat := 0
  /-- 16 bits; R121 06; reset 0 -/ cqTail : Nat := 0
  /-- 1 bit; R137 06; reset 1 -/ phase : Bool := true
  /-- instants; R129 06; reset empty. Arrival of the doorbell that covered each slot from SQ_HEAD on -/ starts : List Nat := []
  /-- slot; R152 07; reset none. A descriptor read in flight -/ fetching : Option Nat := none
  /-- fetched descriptors not retired, oldest first; R141 06; reset empty -/ order : List QItem := []
  /-- descriptor kept in the cache while fetching pauses; R132 06; reset none -/ parkedDesc : Option (Nat × Bytes × Nat) := none
  /-- completions retired and not posted; R126 06; reset empty -/ toPost : List Completion := []
  /-- 4,096 tags, newest first; R143 06; reset empty -/ window : List (BitVec 64 × TagState) := []
  /-- 32 bits; R132 06; reset 0. BATCH_ID of the held batch, 0 for none -/ batchId : Nat := 0
  /-- record of the last BATCH_RELEASE outcome; R134 06; reset none. (BATCH_ID, released, cancellation instant) -/
  batchRecord : Option (Nat × Bool × Nat) := none
  /-- instant; R133 06; reset none. The release under way, which ran out of entries -/ releaseAt : Option Nat := none
  /-- entries pending a message and the oldest one's instant; R142 06; reset 0 -/ coalPending : Nat := 0
  /-- instant; R142 06; reset 0 -/ coalSince : Nat := 0
  /-- instant; R114 05; reset none. Link loss that DETACHED the queue -/ detachedAt : Option Nat := none
  /-- held writes; R114 05; reset empty -/ heldOut : List HeldWrite := []
  /-- R369 15; reset 0. Stream-window bytes that held output of retired commands fills -/ heldWindow : Nat := 0
  /-- instant; R141 06; reset 0. RETIRE of the last retired command -/ lastRetire : Nat := 0
  /-- 1/10^6 commands; R162 07; reset cap. CMD_BAL -/ cmdBal : Bucket := {}
  /-- 1/10^6 KiB; R162 07; reset cap. KIB_BAL -/ kibBal : Bucket := {}
  /-- 1/8000 basin-ns; R156 07; reset cap. CREDIT -/ credit : Bucket := {}
  deriving DecidableEq, Repr

/-- A host function (05). -/
structure FnState where
  /-- 32 bits; R99 05, R199 09; reset 1. FN_GENERATION -/ generation : Nat := 1
  /-- 1 bit; R110 05; reset 0. RESETTING -/ resetting : Bool := false
  /-- instant; R110 05; reset 0. t0 of the FLR -/ flrAt : Nat := 0
  /-- 1 bit; R113 05; reset 0. The FLR is a restructure -/ restructure : Bool := false
  /-- 5 flags; 05; reset 0. WEL_FN_EVENT, WEL_FN_EVENT_COUNT and _HI -/ event : Events := {}
  /-- 6 bits; 05; reset 0. WEL_FN_EVENT_VEC.VECTOR -/ evVector : Nat := 0
  /-- 1 bit; 05; reset 0. WEL_FN_EVENT_VEC.ENABLE -/ evEnable : Bool := false
  /-- 32 bits; R116 05; reset 0. WEL_REATTACH -/ reattach : BitVec 32 := 0
  /-- 2 bits; R116 05; reset 0. WEL_REATTACH_STATUS.STATE -/ reState : Nat := 0
  /-- 4 bits; R118 05; reset 0. WEL_REATTACH_STATUS.RESULT -/ reResult : Nat := 0
  /-- 64 bits; R107 05; reset all ones PRESUMED (PCIe MSI-X). Per-vector mask bits -/ vecMask : BitVec 64 := BitVec.allOnes 64
  /-- 1 bit; R107 05; reset 0 PRESUMED (PCIe). MSI-X function mask -/ fnMask : Bool := false
  /-- 64 bits; R107 05; reset 0. MSI-X pending-bit array -/ vecPending : BitVec 64 := 0
  /-- 64 × (64-bit address, 32-bit data); R107 05; reset 0 PRESUMED (PCIe MSI-X). MSI-X table -/ table : Tab (BitVec 64 × BitVec 32) := []
  /-- 64 bits; R95 05; reset 0 PRESUMED (PCI). BAR0 -/ bar0 : BitVec 64 := 0
  /-- 64 bits; R95 05; reset 0 PRESUMED (PCI). BAR2 -/ bar2 : BitVec 64 := 0
  /-- 3 bits; R94 05; reset 0 PRESUMED (PCIe). Programmed Max Payload Size -/ mps : Nat := 0
  /-- 3 bits; R94 05; reset 2 PRESUMED (PCIe). Programmed Max Read Request Size -/ mrrs : Nat := 2
  /-- 1 bit; R94 05; reset 0 PRESUMED (PCIe). 10-Bit Tag Requester Enable -/ tag10 : Bool := false
  /-- 32 bits; R94, R109 05; reset 0 PRESUMED (PCIe AER). Uncorrectable error status -/ aerStatus : BitVec 32 := 0
  /-- 16 bytes; R94 05; reset 0 PRESUMED (PCIe AER). Header log -/ aerHeader : List (BitVec 8) := []
  /-- 4 bits; R109 05; reset 0 PRESUMED (PCIe). Completion Timeout Value -/ timeoutRange : Nat := 0
  /-- 1 bit; R568 26; reset 0. The function is in D3hot -/ d3hot : Bool := false
  /-- values by the registers' offsets; R101 05; reset empty. Wide registers latched for this reader -/ latch : Tab Nat := []
  /-- 32-bit words by their offsets; R101 05; reset empty. Words of wide registers held for this writer -/ heldWords : Tab Nat := []
  deriving DecidableEq, Repr

/-- A port (05). -/
structure PortState where
  /-- 1 bit; 05; reset 0. LINK_UP -/ linkUp : Bool := false
  /-- 3 bits; 05; reset 0. RATE -/ rate : Nat := 0
  /-- 5 bits; 05; reset 0. WIDTH -/ width : Nat := 0
  /-- 1 bit; R108 05; reset 0. IDE_SECURE -/ ideSecure : Bool := false
  /-- R108 05; reset 0. SPDM session of the PF0 mailbox: 0 none, 1 keys exchanged, 2 secure session -/ spdm : Nat := 0
  /-- R108 05; reset empty. IDE keys programmed, by key set, direction and sub-stream -/ ideKeys : List Nat := []
  /-- R108 05; reset empty. IDE keys put in use by K_SET_GO -/ ideGo : List Nat := []
  /-- 1 bit; R98 05; reset 0. VF Enable -/ vfEnable : Bool := false
  /-- NumVFs; R98 05; reset 0 -/ numVfs : Nat := 0
  /-- 64 bits; R95 05; reset 0 PRESUMED (PCI). VF BAR0 -/ vfBar0 : BitVec 64 := 0
  /-- 64 bits; R95 05; reset 0 PRESUMED (PCI). VF BAR2 -/ vfBar2 : BitVec 64 := 0
  /-- pin; R564 26; reset asserted DESIGN CHOICE. PERST_x_N is asserted -/ perst : Bool := true
  /-- link training pending; R563 26; reset 0 -/ training : Bool := false
  /-- the link has been up since the reset, so that reaching DL_Active again is a retrain; R516 23; reset 0 -/ wasUp : Bool := false
  deriving DecidableEq, Repr

/-! ## Sluice: the retire buffer (07, 08) -/

/-- A verdict (R168, R190, R191). -/
inductive Verdict where
  | open
  | allow
  | deny (status : Nat)
  deriving DecidableEq, Repr

/-- Where an admitted command stands (07 to 09). -/
inductive Phase where
  | backlog          -- admitted, not dispatched
  | running          -- dispatched; its attempt runs
  | done             -- its result has passed its checks
  | squashing        -- the squash sequence of R184 runs
  | squashed         -- steps 1 to 4 of R184 are complete
  | retest           -- its attempt was removed; the fault is being classified (R204)
  | awaitReplay (other : Bool)  -- to be dispatched again, on another basin or the same (R206, R208)
  deriving DecidableEq, Repr

/-- What a command commits at its retirement (R182, R175). -/
inductive Effect where
  | none
  | create (slot : Nat)                        -- write the new record reserved at this slot
  | keyTo (handle : BitVec 64) (state : Nat)    -- KEY.STATE without a launch
  | keyArm (handle : BitVec 64) (activate : Bool) (instant : Nat)
  | destroy (handle : BitVec 64)
  | quorum (session : Nat)                      -- QUORUM.CLOSE with COMMIT
  deriving DecidableEq, Repr

/-- A key record (R272, 12). -/
structure Record where
  alg : Nat := 0
  cls : Nat := 0
  state : Nat := 0
  session : Bool := false
  part : Nat := 0
  ext : Nat := 0
  handle : BitVec 64 := 0
  usage : BitVec 64 := 0
  nonceField : BitVec 32 := 0
  fn : FnId := ⟨false, 0⟩
  publicOnly : Bool := false
  created : Nat := 0
  stateTime : Nat := 0
  nextBlock : Nat := 0
  writeCount : Nat := 0
  bdkId : BitVec 32 := 0
  label : Bytes := []
  kcv : Bytes := []
  /-- components in component order (R275), in clear: the wrapping of R274 is transparent to every command -/
  comps : List (Nat × Bytes) := []
  deriving DecidableEq, Repr

/-- A retire-buffer entry (R181, 08): an admitted command. -/
structure Cmd where
  fn : FnId
  q : Nat
  slot : Nat
  /-- the 128 bytes of its descriptor (R128) -/ desc : Bytes
  start : Nat
  /-- ns added to its deadline by steps of the counter (R78) -/ dlAdd : Nat := 0
  epoch : Nat
  seq : Nat
  admitted : Nat
  /-- order of admission, device-wide -/ order : Nat
  /-- 0 G, 1 S, 2 B (R155) -/ prio : Nat := 2
  weight : Nat := 1
  ej : Nat := 0
  nj : Nat := 1
  ek : Nat := 0
  basin : Option Nat := none
  firstBasin : Option Nat := none
  inst : BitVec 8 := 0
  phase : Phase := .backlog
  verdict : Verdict := .open
  /-- a recorded verdict was evaluated afresh and is pending (R190) -/ recheck : Bool := false
  dispatchedAt : Option Nat := none
  attempts : Nat := 0
  /-- the replay on the same basin has been used (R206) -/ usedSame : Bool := false
  /-- the replay on another basin has been used (R206) -/ usedOther : Bool := false
  /-- to be dispatched before every other candidate (R208) -/ front : Bool := false
  replayed : Bool := false
  yielded : Bool := false
  /-- jets and Cascade phases dispatched in this attempt -/ onJets : Bool := false
  onCascade : Bool := false
  /-- segments still undispatched (R165) -/ segs : Nat := 0
  /-- segments of the whole jet phase, at least 1 (R165) -/ segsAll : Nat := 1
  /-- dispatch of the present jet segment -/ segAt : Nat := 0
  /-- work of the present jet segment, in 1/8000 basin-ns, that was left at an instant (R159) -/ jWork : Nat := 0
  jMark : Nat := 0
  /-- work of the Cascade phase that was left at an instant (R159) -/ kWork : Nat := 0
  kMark : Nat := 0
  /-- virtual finish tags (R164) -/ finJ : Nat := 0
  finK : Nat := 0
  estRet : Nat := 0
  window : Nat := 0
  inList : Bytes := []
  outList : Bytes := []
  listsDone : Bool := false
  input : Bytes := []
  inputDone : Bool := false
  /-- no further host read (R109) -/ readsStopped : Bool := false
  nonce : Option Bytes := none
  /-- waiting for a nonce block (R178) -/ wantsBlock : Bool := false
  /-- the block reserved for it (R288) -/ block : Option Nat := none
  /-- waits for a fill-buffer entry (R177) -/ waitsFill : Bool := false
  /-- (die, bytes) of its work buffer; (R303) -/ work : Option (Nat × Nat) := none
  waitsWork : Bool := false
  /-- handle reserved at admission (R295) -/ reserved : Option (BitVec 64) := none
  /-- new-record buffer (R176, R260) -/ newRec : Option Record := none
  /-- status and RESULT once executed -/ status : Option Nat := none
  result : Bytes := []
  /-- output bytes and where they go, held until ALLOW and the check (R18) -/ output : Bytes := []
  extraOut : List (Nat × Bytes) := []
  /-- stripes already written (R352) -/ written : List Nat := []
  effect : Effect := .none
  execStart : Option Nat := none
  /-- class of its queue at its admission (R117): 0 GUARANTEED, 1 STANDARD, 2 BULK -/ cls : Nat := 1
  /-- bytes of its output held back in its stream window (R114) -/ staged : Nat := 0
  /-- moved by a re-attach: its completion is posted only as a DUPLICATE answer (R117) -/ moved : Bool := false
  /-- the records of its keys that its final ALLOW keeps until it retires or is squashed (R191, R192, R285) -/ kept : List (BitVec 64 × Record) := []
  /-- it began execution before its verdict (R186) -/ early : Bool := false
  /-- extents of its keeper jobs' buffers in its basin's local SRAM (R184, R244) -/ bufs : List (Nat × Nat) := []
  /-- the key whose last counter value it drew, 0 for none (R289) -/ spent : BitVec 64 := 0
  /-- epoch of the evaluation that Sluice recorded (R190) -/ vEpoch : Option Nat := none
  deriving DecidableEq, Repr

/-- Sluice (07, 08). -/
structure SluState where
  /-- 3 bits; R171 07; reset 0. SUSPEND_G, _S, _B -/ suspend : BitVec 3 := 0
  /-- 1 bit; R172 07; reset 0. PARK_EN -/ parkEn : Bool := false
  /-- 4 flags; 07; reset 0. SLU_EVENT -/ event : Events := {}
  /-- 2 flags; 08; reset 0. SLU_RA_EVENT -/ raEvent : Events := {}
  /-- 32 bits; R172 07; reset 10,000 -/ parkIdle : Nat := 10000
  /-- 32 bits; R173 07; reset 20,000 -/ wakeBacklog : Nat := 20000
  /-- 64 bits; 07; reset 0. SLU_ADMITTED -/ admitted : Nat := 0
  /-- 64 bits; 07; reset 0 -/ refusedDeadline : Nat := 0
  /-- 64 bits; 07; reset 0 -/ refusedQuota : Nat := 0
  /-- 64 bits; 07; reset 0. SLU_LATE -/ late : Nat := 0
  /-- 64 bits; R186 08; reset 0 -/ squashed : Nat := 0
  /-- 64 bits; R190 08; reset 0 -/ rechecked : Nat := 0
  /-- 32 bits; R87 04; reset 0. SLU_LAUNCH_SEQ.SEQ -/ launchSeq : Nat := 0
  /-- 32 bits; R193 08; reset 0. DRAINED_SEQ -/ drainedSeq : Nat := 0
  /-- 16,384 entries; R16 01, R181 08; reset empty -/ retire : Tab Cmd := []
  /-- 8-bit instance numbers; R181 08; reset 0 -/ insts : Tab (BitVec 8) := []
  /-- admission counter, the model's own order of admissions; R164 07; reset 0 -/ nextOrder : Nat := 0
  /-- rule buckets keyed by partition × 65,536 + opcode; R162 07; reset cap -/ rules : Tab Bucket := []
  /-- management commands in order of admission; R153 07; reset empty -/ mgmt : List Nat := []
  deriving DecidableEq, Repr

/-! ## Basins (09), jets (10), Cascade (11) -/

/-- Basin states (R195, 09). -/
inductive BasinSt where
  | off | serving | parked | spare | draining | resetting | testing | retired
  deriving DecidableEq, Repr

/-- Fault classes (R204, 09). -/
inductive FaultClass where
  | transient | persistent | basinReset | external
  deriving DecidableEq, Repr

/-- A fault log entry (09). -/
structure FaultLog where
  time : Nat := 0
  basin : Nat := 0
  detector : Nat := 0
  element : Nat := 0
  cls : FaultClass := .transient
  action : Nat := 3
  tagLo : Nat := 0
  queue : Nat := 0
  port : Bool := false
  part : Nat := 0
  deriving DecidableEq, Repr

/-- A key-cache or fill-buffer entry (R285, R177). -/
structure CacheEntry where
  handle : BitVec 64
  record : Record
  used : Nat := 0
  deriving DecidableEq, Repr

/-- A fill-buffer entry with its marks (R177, 08): none of the record until the fill arrives. -/
structure FillEntry where
  handle : BitVec 64
  record : Option Record := none
  marks : List Nat := []
  deriving DecidableEq, Repr

/-- A Cascade slot (R247, R248, 11). -/
structure CasSlot where
  data : BitVec 128 := 0
  t : Bool := false
  u : Bool := false
  deriving DecidableEq, Repr

/-- A modulus context (R250, 11). -/
structure CasCtx where
  s : Nat
  n : Nat
  taint : Bool
  m : Nat
  deriving DecidableEq, Repr

/-- The Cascade of a basin (11). -/
structure Cascade where
  /-- 4,096 slots of 128 bits with T and U; R247 11; reset all wiped -/ slots : Tab CasSlot := []
  /-- 8 contexts; R250 11; reset invalid -/ ctxs : Tab CasCtx := []
  /-- 14 bits; R255 11; reset none. OWNER -/ owner : Option Nat := none
  /-- up to 16 queued commands as (OP, operands); R255 11; reset empty -/ queue : List (Nat × CasOps) := []
  /-- the running command; R263 11; reset none -/ running : Option (Nat × CasOps) := none
  /-- cycles of the running command; R252 11; reset 0 -/ runCycles : Nat := 0
  /-- 1 bit; R184 08; reset 0. WIPING -/ wiping : Bool := false
  /-- 1 bit; R261 11; reset 0. SEQ_OPEN -/ seqOpen : Bool := false
  /-- ALG of the sequence; R261 11; reset 0 -/ seqAlg : Nat := 0
  /-- output range base and length; R261 11; reset 0 -/ seqA : Nat := 0
  /-- output range length; R261 11; reset 0 -/ seqL : Nat := 0
  /-- 4 bits; 11; reset 0. CAS_STATUS.ERROR -/ error : Nat := 0
  /-- 1 bit; 11; reset 0. CHECK_PASS -/ checkPass : Bool := false
  /-- 1 bit; 11; reset 0. NORM_GE -/ normGe : Bool := false
  /-- 1 bit; R254 11; reset 0. SHORT -/ short : Bool := false
  /-- 1 bit; R262 11; reset 0. FAILED -/ failed : Bool := false
  /-- 8 bits; R262 11; reset 0. PASSED -/ passed : Nat := 0
  /-- 7 bits; R254 11; reset 0. BLOCKS -/ blocks : Nat := 0
  /-- 4 flags; 11; reset 0. CAS_EVENT -/ event : Events := {}
  /-- 12 bits; 11; reset 0. CAS_WINDOW_ADDR.SLOT -/ winAddr : Nat := 0
  /-- 64 bits; 11; reset 0. CAS_CYCLES -/ cycles : Nat := 0
  /-- B:0x8120 CMD_DONE; R268 11; reset 0 -/ cmdDone : Bool := false
  /-- B:0x8121 CMD_ERROR; R268 11; reset 0 -/ cmdError : Bool := false
  /-- B:0x8123 INV_FAIL; R268 11; reset 0 -/ invFail : Bool := false
  /-- (epoch, launch sequence, function) of the removed command whose slots are wiped; R110, R184, R193; reset none -/
  wipeFor : Option (Nat × Nat × FnId) := none
  /-- order of admission of that command; R208 09; reset 0 -/ wipeOrder : Nat := 0
  deriving DecidableEq, Repr

/-- What a jet holds of a command's keys and data, zeroised at its end (R222, R235): key registers, masks, chaining values, GHASH partial, output
register. -/
structure LaneSecret where
  key : Bytes := []
  masks : Bytes := []
  chain : Bytes := []
  ghash : Bytes := []
  out : Bytes := []
  deriving DecidableEq, Repr

/-- A jet lane (JET_STATUS_n, JET_BLOCKS_n, 10). -/
structure Lane where
  busy : Bool := false
  alg : Nat := 0
  mode : Nat := 0
  entry : Nat := 0
  cascade : Bool := false
  blocks : Nat := 0
  /-- what R222 zeroises -/ secret : LaneSecret := {}
  deriving DecidableEq, Repr

/-- A basin (03, 07, 09, 10, 11). -/
structure Basin where
  /-- 3 bits; R195 09; reset OFF -/ st : BasinSt := .off
  /-- 3 bits; R196 09; reset n. Role filled, none for a basin that fills none -/ role : Option Nat := none
  /-- 1 bit; R213 09; reset 0. DIAG_OK -/ diagOk : Bool := false
  /-- 32 bits; R199 09; reset 1. GENERATION -/ generation : Nat := 1
  /-- 32 bits; 09; reset 0. FW_VERSION -/ fwVersion : Nat := 0
  /-- SHA-384 of the loaded image; R388 16; reset empty -/ fwDigest : Bytes := []
  /-- 32 bits, saturating; 09; reset 0. FAULTS_TOTAL -/ faultsTotal : Nat := 0
  /-- instants of faults of codes 1-10 within 10 s; R205 09; reset empty -/ faultTimes : List Nat := []
  /-- the faults being retested: detector, retire entry, fault-log index; R204 09; reset empty -/
  retest : List (Nat × Option Nat × Nat) := []
  /-- waking; R173 07; reset 0 -/ waking : Bool := false
  /-- instant since which no command runs; R172 07; reset 0 -/ idleSince : Nat := 0
  /-- instant; R215, R218 09; reset none. The planned drain's start -/ drainFrom : Option Nat := none
  /-- the self-test under way returns it to its role (basin reset), admits it (BASIN_ADMIT) or makes a spare serve; R213,
  R216; reset 0 none, 1 basin reset, 2 BASIN_ADMIT, 3 substitution, 4 update, 5 boot, 6 reset of the spare, 7 bring-up by a Layout launch -/ testFor : Nat := 0
  /-- the role awaited by a substitution; R213 09; reset none -/ subFor : Option Nat := none
  /-- pace of the last windows in ps, newest first, at most 16; R57, R60 03; reset empty -/ windows : List Nat := []
  /-- R57 03; reset 0. WINDOW_PS, the latest window pace -/ windowPs : Nat := 0
  /-- windows completed since it last began serving or left parking; R58 03; reset 0 -/ sinceServe : Nat := 0
  /-- windows completed since its monitor last started; R59 03; reset 0 -/ sinceStart : Nat := 0
  /-- 03; reset 0. FASTEST_PS -/ fastest : Nat := 0
  /-- virtual time V of the jets; R164 07; reset 0 -/ vJ : Nat := 0
  /-- virtual time V of the Cascade; R164 07; reset 0 -/ vK : Nat := 0
  /-- previous tags per queue key of the jets; R164 07; reset 0 -/ tagsJ : Tab Nat := []
  /-- previous tags per queue key of the Cascade; R164 07; reset 0 -/ tagsK : Tab Nat := []
  /-- one above the newest admission dispatched to its jets; R166 07; reset 0 -/ newestJ : Nat := 0
  /-- one above the newest admission dispatched to its Cascade; R166 07; reset 0 -/ newestK : Nat := 0
  /-- 8,192 entries; R16 01, R285 12; reset empty. Key cache -/ cache : List CacheEntry := []
  /-- 64 entries; R177 08; reset empty. Fill buffer -/ fill : List FillEntry := []
  /-- cipher and hash lanes 0-9; 10; reset idle -/ lanes : Tab Lane := []
  /-- 256 bits; R244 10; reset 0. JET_JOB -/ job : BitVec 256 := 0
  /-- 128 bits; R244 10; reset 0. The store of bits [127:0] of the next job -/ jobLow : BitVec 128 := 0
  /-- 2 bits; 10; reset 0. JET_JOB_STATUS.STATE -/ jobState : Nat := 0
  /-- 4 bits; R245 10; reset 0. JET_JOB_STATUS.ERROR -/ jobError : Nat := 0
  /-- 10 bits; 10; reset 0. JET_JOB_STATUS.LANES -/ jobLanes : BitVec 10 := 0
  /-- R244 10; reset 0. The key of the running job's entry, 0 for none -/ jobHandle : BitVec 64 := 0
  /-- 96 bits; 10; reset 0. JET_JOB_NONCE -/ jobNonce : BitVec 96 := 0
  /-- 3 flags; 10; reset 0. JET_EVENT -/ jetEvent : Events := {}
  /-- B:0x8110 JOB_DONE; R246 10; reset 0 -/ jobDone : Bool := false
  /-- B:0x8111 JOB_ERROR; R246 10; reset 0 -/ jobErr : Bool := false
  /-- the Cascade; 11; reset wiped -/ cas : Cascade := {}
  deriving DecidableEq, Repr

/-- Basin management registers (03, 09). -/
structure BsnState where
  /-- 1 bit; 09; reset 0. BSN_CTRL.EVENT_MSG -/ eventMsg : Bool := false
  /-- 8 flags; 09; reset 0. BSN_EVENT -/ event : Events := {}
  /-- 2 bits; R217 09; reset 0. BSN_UPDATE.STATE -/ updState : Nat := 0
  /-- 3 bits; 09; reset 0. BSN_UPDATE.BASIN -/ updBasin : Nat := 0
  /-- 8 bits; 09; reset 0. BSN_UPDATE.DONE_MASK -/ updMask : BitVec 8 := 0
  /-- 4 bits; R217 09; reset 0. BSN_UPDATE.RESULT -/ updResult : Nat := 0
  /-- 64 bits; 09; reset 0. BSN_REPLAYS -/ replays : Nat := 0
  /-- 64 bits; R209 09; reset 0. BSN_TRANSFERS -/ transfers : Nat := 0
  /-- 64 bits; 09; reset 0. BSN_EXHAUSTED -/ exhausted : Nat := 0
  /-- 16 entries of 128 bits; 09; reset 0. BSN_FAULT_LOG -/ log : Tab FaultLog := []
  /-- 4 bits; 09; reset 0. NEWEST -/ newest : Nat := 0
  /-- 32 bits; 09; reset 0. TOTAL -/ total : Nat := 0
  /-- 10 bits; R67 03; reset 0x320. VOLTAGE_MV -/ voltage : Nat := 800
  /-- 1 bit; R69 03; reset 0. DERATED -/ derated : Bool := false
  /-- 1 bit; R67 03; reset 0. AVS_FAULT -/ avsFault : Bool := false
  /-- 1 bit; R66 03; reset 0. LOOP_ON -/ loopOn : Bool := false
  /-- 4 flags; 03; reset 0. BSN_VLOOP_EVENT -/ vloopEvent : Events := {}
  /-- 10 bits; R68 03; reset 0x384. LIMIT_MV -/ ceil : Nat := 900
  /-- 16 bits; 03; reset 0. READ_MV -/ vddRead : Nat := 0
  /-- pace floor of the loop period under way, none without a Layout; R63 03; reset none -/ loopFloor : Option Nat := none
  /-- multiples of 4,096 ns passed at the last window's end; R57 03; reset 0 -/ windowMark : Nat := 0
  /-- multiples of 65,536 ns passed at the last loop period's end; R66 03; reset 0 -/ periodMark : Nat := 0
  /-- device pace at the ends of the measured windows of the period; R66 03; reset empty -/ periodPaces : List Nat := []
  /-- count; R66 03; reset 0. fast_periods -/ fastPeriods : Nat := 0
  /-- the AVSBus transaction in flight and the attempts made; R67 03; reset none -/ avs : Option (AvsCmd × Nat) := none
  /-- consecutive bad read-backs; R67 03; reset 0 -/ avsBad : Nat := 0
  /-- consecutive good read-backs; R67 03; reset 0 -/ avsGood : Nat := 0
  /-- read-back of this period's end still due, its instant; R67 03; reset none -/ readDue : Option Nat := none
  /-- 1 bit; R78 04; reset 0. The window under way contains a counter step -/ windowStep : Bool := false
  /-- instants of the last Voltage write's issue; R60 03; reset none -/ lastVWrite : Option Nat := none
  /-- consecutive measured windows slower than the floor; R69 03; reset 0 -/ slowRun : Nat := 0
  /-- consecutive measured windows not slower than the floor; R69 03; reset 0 -/ okRun : Nat := 0
  deriving DecidableEq, Repr

/-! ## Cistern (12) -/

/-- Cistern (12). -/
structure CisState where
  /-- 1 bit; R283 12; reset 0. CIS_STATUS.ROOT_READY -/ rootReady : Bool := false
  /-- 4 flags; 12; reset 0. CIS_EVENT -/ event : Events := {}
  /-- key region, record by its first key-region slot; R272, R273 12; reset empty -/ records : Tab Record := []
  /-- 16 bits per slot; R269, R270 12; reset 0. Reuse count -/ use : Tab Nat := []
  /-- slots reserved at admission, (entry, slots) by first slot; R295 12; reset empty -/ reserved : Tab (Nat × Nat) := []
  /-- counter journal, newest block and its 64-bit MAC by handle; R288 12; reset empty DESIGN CHOICE (MRAM) -/ journal : Tab (Nat × Bytes) := []
  /-- 64 bits per key; R239 10, R287 12; reset absent. Next counter value of a sealing key by handle -/ counters : Tab Nat := []
  /-- block per key; R288 12; reset absent. Newest block whose reservation is persisted -/ persisted : Tab Nat := []
  /-- block and causing entry per key; R288 12; reset empty. Reservations being written -/ reserving : Tab (Nat × Nat) := []
  deriving DecidableEq, Repr

/-! ## Vault (13) -/

/-- A vault die (VLT_DIE_n, 13). -/
structure Die where
  /-- 1 bit; R298, R312 13; reset 0 -/ present : Bool := false
  /-- 1 bit; R312 13; reset 0. Lost until the next power-on reset -/ lost : Bool := false
  /-- 2 bits; R298 13; reset 0 -/ rate : Nat := 0
  /-- 1 bit; R311 13; reset 0 -/ retraining : Bool := false
  /-- 8 bits; R311 13; reset 0 -/ retrainFails : Nat := 0
  /-- 16 bits; R310 13; reset 0 -/ macFails : Nat := 0
  /-- instants of MAC failures within 1 s; R312 13; reset empty -/ macTimes : List Nat := []
  /-- instant; R312 13; reset none. Last failed retrain -/ failAt : Option Nat := none
  /-- instant; R311 13; reset none. Last retrain -/ trainedAt : Option Nat := none
  /-- bytes of its work region in use; R303 13; reset 0 -/ workUsed : Nat := 0
  deriving DecidableEq, Repr

/-- A mirror entry written to the ring and not yet durable (R316, R318, 13): its slot, the instants of the first and the newest
change it carries, and the NEXT_BLOCK of a record it carries, by handle. -/
structure MirrorEntry where
  seq : Nat
  slot : Nat
  first : Nat
  retire : Nat
  nextBlock : Option (BitVec 64 × Nat) := none
  deriving DecidableEq, Repr

/-- The vault controller (13). -/
structure VltState where
  /-- 1 bit; R323 13; reset 0. UNLOCKED -/ unlocked : Bool := false
  /-- 4 dies; R298 13; reset absent -/ dies : Tab Die := []
  /-- 1 bit; R312 13; reset 0. DEGRADED -/ degraded : Bool := false
  /-- 1 bit; R313 13; reset 0. FAILED -/ failed : Bool := false
  /-- 1 bit; R322 13; reset 0. RELOAD -/ reload : Bool := false
  /-- 1 bit; R314 13; reset 0. REWRAP, VLT_REWRAP.GO -/ rewrap : Bool := false
  /-- 8 flags; 13; reset 0. VLT_EVENT -/ event : Events := {}
  /-- 32 bits; R305 13; reset 0. GENERATION -/ generation : Nat := 0
  /-- 128 bits; R305 13; reset empty. NB -/ nb : Bytes := []
  /-- bytes of work buffers per partition; R303 13; reset 0 -/ workPart : Tab Nat := []
  /-- 64 bits; R325 13; reset 0. VLT_MIRROR_BASE -/ mirrorBase : BitVec 64 := 0
  /-- 1 bit; R325 13; reset 0. ENABLE -/ mirrorEn : Bool := false
  /-- 5 bits; R325 13; reset 0. LOG2_ENTRIES -/ mirrorLog2 : Nat := 0
  /-- 1 bit; R325 13; reset 0. PORT -/ mirrorPort : Bool := false
  /-- 64 bits; R318 13; reset 1 DESIGN CHOICE (MRAM). VLT_MIRROR_SEQ -/ mirrorSeq : Nat := 1
  /-- 64 bits; R318 13; reset 1 DESIGN CHOICE (MRAM). SEQ_MARK -/ seqMark : Nat := 1
  /-- 64 bits; R320 13; reset 0. VLT_MIRROR_ACK -/ mirrorAck : Nat := 0
  /-- 1 bit; R320 13; reset 0. An acknowledged entry is being read back -/ ackPending : Bool := false
  /-- 64 bits; R318, R320 13; reset 0 DESIGN CHOICE (MRAM). D -/ durable : Nat := 0
  /-- 384 bits; R317 13; reset 0. H over the newest mirrored states -/ h : Nat := 0
  /-- 384 bits; R318 13; reset 0 DESIGN CHOICE (MRAM). H for D -/ hDurable : Nat := 0
  /-- P of the newest mirrored state per slot; R317 13; reset empty -/ pOf : Tab Nat := []
  /-- up to 4,096 slots with the instants of their first and newest change not yet written; R318, R320 13; reset empty. Dirty
  list -/ dirty : List (Nat × Nat × Nat) := []
  /-- entries written and above D; R318, R320 13; reset empty -/ written : List MirrorEntry := []
  /-- 32 bits; R321 13; reset 0. VLT_RELOAD.TAIL -/ tail : Nat := 0
  /-- 1 bit; R321 13; reset 0. END -/ endSet : Bool := false
  /-- 2 bits; R321 13; reset 0 IDLE. STATE -/ rlState : Nat := 0
  /-- 4 bits; R321 13; reset 0. CAUSE -/ rlCause : Nat := 0
  /-- 32 bits; R321 13; reset 0. HEAD -/ rlHead : Nat := 0
  /-- (USE, LIVE, 256 bytes) of the slots presented; R321 13; reset empty -/ rlSlots : Tab (Nat × Bool × Bytes) := []
  /-- 384 bits; R321 13; reset 0. Sum of P presented -/ rlSum : Nat := 0
  /-- 1 bit; R322 13; reset 0. The key region is loaded since unlock -/ loaded : Bool := false
  deriving DecidableEq, Repr

/-- A line of a vault die as it is stored (R306). -/
structure VaultLine where
  cipher : Bytes := []
  mac : Bytes := []
  deriving DecidableEq, Repr

/-- A counter block (R307): a 64-bit major and sixty-four 7-bit minors. -/
structure CounterBlock where
  major : Nat := 0
  minors : Tab Nat := []
  deriving DecidableEq, Repr

/-- The memory of a vault die with its metadata (R300, R306 to R308): what is not listed has not been written since unlock. -/
structure VaultDie where
  /-- by line index; R306 13; reset none written -/ lines : Tab VaultLine := []
  /-- by block index; R307 13; reset none written -/ counters : Tab CounterBlock := []
  /-- nodes of levels 1 to 4 by level × 2^20 + index, 64 bytes; R308 13; reset none written -/ nodes : Tab Bytes := []
  /-- nodes of levels 5 to 7, pinned on the compute die; R308 13; reset none written -/ root : Tab Bytes := []
  deriving DecidableEq, Repr

/-- The vault's memory (13). -/
structure VaultMem where
  /-- 0 to 3; R300 13; reset empty -/ dies : Tab VaultDie := []
  /-- (die, level, index) of the counter blocks and nodes in the 4 MiB metadata cache beside the pinned ones, newest first; R16 01, R309 13; reset
  empty -/ cache : List (Nat × Nat × Nat) := []
  deriving DecidableEq, Repr

/-! ## Weir (17) and the keeper pairs (18, 19) -/

/-- A fabric transfer, as the words x_1 to x_n of its integrity tag cover it (R414): kind 0 read request, 1 write request, 2 reply. -/
structure Transfer where
  initiator : Nat
  kind : Nat
  len : Nat
  set : Bool
  keyIndex : Bool := false
  epoch : Nat
  addr : Nat
  reqGen : Nat
  respGen : Nat
  seq : Nat
  entry : Nat := 0
  inst : Nat := 0
  data : Bytes := []
  deriving DecidableEq, Repr

/-- The debug access port's rights (R412, R495). -/
structure DebugRights where
  serial : Nat
  notAfter : Nat
  era : Nat
  slotRd : BitVec 128
  slotWr : BitVec 128
  regions : List WeirRegion
  deriving DecidableEq, Repr

/-- A debug access awaiting its response (R413). -/
structure DebugAcc where
  addr : BitVec 40
  write : Bool
  lenM1 : Nat
  data : Bytes
  due : Nat
  denied : Bool
  /-- the Weir set of its check (R189) -/ set : Bool
  /-- the epoch of its check (R189) -/ epoch : Nat
  /-- the integrity tag its request carries (R414) -/ tag : BitVec 32 := 0
  /-- its target's unit (R56, R413) -/ unit : Nat := 16
  /-- the generation of that unit at its check (R200) -/ respGen : Nat := 1
  deriving DecidableEq, Repr

/-- Weir (17). -/
structure WeiState where
  /-- 1 bit; R409 17; reset 0 (A). LIVE -/ live : Bool := false
  /-- 8 flags; 17; reset 0. WEI_EVENT -/ event : Events := {}
  /-- 32 bits; R409 17; reset 0. SWAP_SEQ -/ swapSeq : Nat := 0
  /-- 32 bits; R411 17; reset 0. DRAINED_SWAP -/ drainedSwap : Nat := 0
  /-- 1 bit; 17; reset 0. SWAP_DRAINED -/ drained : Bool := false
  /-- 64 bits; R404 17; reset 0. WEI_DENIES -/ denies : Nat := 0
  /-- 64 bits; R416 17; reset 0. WEI_TAG_FAILS -/ tagFails : Nat := 0
  /-- 128 bits; R404 17; reset 0. WEI_LAST_DENY -/ lastDeny : BitVec 128 := 0
  /-- 1 bit; R415 17; reset 0. TAG_KEY -/ tagKey : Bool := false
  /-- 1 bit; R415 17; reset 0. Key index -/ keyIndex : Bool := false
  /-- (H, S); R415 17; reset empty -/ key : Bytes := []
  /-- the previous key and the end of its acceptance; R415 17; reset none -/ prevKey : Option (Bytes × Nat) := none
  /-- multiple of 2^30 ns last used for a rekey; R415 17; reset 0 -/ rekeyMark : Nat := 0
  /-- instant; R415 17; reset none. DRBG 8 was seeded -/ seededAt : Option Nat := none
  /-- rights in both sets of both banks; R412 17; reset none -/ dbg : Option DebugRights := none
  /-- at most one access; R413 17; reset none -/ debugAcc : Option DebugAcc := none
  /-- transfers sent again per receiving unit; R416 17; reset 0 -/ retries : Tab Nat := []
  /-- 32 bits per unit; R199 09; reset 1. Generations of the units other than basins, functions and the Fountainhead pair -/
  gens : Tab Nat := []
  deriving DecidableEq, Repr

/-- An outstanding fabric load of a pair (R453): of a register (0), a POP (1) or a RET (2). -/
structure FabLoad where
  kind : Nat
  rd : Nat
  addr : Nat
  size : Nat
  next : BitVec 32
  set : Bool
  epoch : Nat
  /-- the request as it was sent, and its tag (R414) -/ req : Transfer
  tag : BitVec 32
  deriving DecidableEq, Repr

/-- A keeper pair (17, 18, 19); indexes 0 to 7 are the basin pairs, 8 the Fountainhead pair. -/
structure KPair where
  /-- 15 × 128 bits; R417 18; reset 0. W0-W14 -/ w : Tab (BitVec 128) := []
  /-- 4 × 32 bits; R417 18; reset 0. SP0-SP3 -/ sp : Tab (BitVec 32) := []
  /-- 8 × 128 bits; R417, R419 18; reset 0. SG0-SG7 -/ sg : Tab (BitVec 128) := []
  /-- 32 bits; R417 18; reset 0 -/ pc : BitVec 32 := 0
  /-- 32 bits; R418 18; reset 0 -/ st : BitVec 32 := 0
  /-- 32 bits; R417 18; reset 0 -/ rc : BitVec 32 := 0
  /-- 64 bits; R420 18; reset 0 -/ flt : BitVec 64 := 0
  /-- 1 bit; R446 19; reset 1. Vector 0 is to be taken -/ resetVector : Bool := true
  /-- 4 × 256 bits written since reset; R441 19; reset window descriptors for r = 0, otherwise 0. BSN_INT_RSEG_r -/
  rseg : Tab (BitVec 256) := []
  /-- 64 bits; R442 19; reset 0. BSN_INT_GATE -/ gate : BitVec 64 := 0
  /-- 4 bits; R448 19; reset 0 -/ refugeDepth : Nat := 0
  /-- 6 bits; 19; reset 0 -/ lastVector : Nat := 0
  /-- 1 bit; R453 19; reset 0. WAITING -/ waiting : Bool := false
  /-- 24 bits; 19; reset 0. BSN_WDOG.PERIOD_US -/ wdogPeriod : Nat := 0
  /-- instant; 19; reset 0. Latest kick -/ wdogKick : Nat := 0
  /-- 1 bit; R452 19; reset 0. The watchdog has expired, and vector 9 has not been taken -/ wdogExpired : Bool := false
  /-- 1 bit; R446 19; reset 0. It has expired since the latest kick -/ wdogSpent : Bool := false
  /-- 2 × 49 bits (AT, ARMED); 19; reset 0. BSN_TIMER_k -/ timers : Tab (Nat × Bool) := []
  /-- 32 bits; R451 19; reset 0. B:0x8200 pending bits -/ pend : BitVec 32 := 0
  /-- 32 × 8 bits; R451 19; reset 0. BSN_INT_COUNT -/ intCount : Tab Nat := []
  /-- 32 bits; R451 19; reset 0. B:0x8240 enable bits -/ ena : BitVec 32 := 0
  /-- 64 bits; R451 19; reset 0. B:0x8300 launch-fired bits -/ lfire : BitVec 64 := 0
  /-- 64 × 8 bits; R451 19; reset 0. BSN_LFIRE_COUNT -/ lfireCount : Tab Nat := []
  /-- 2 bits; R410 17; reset 0. WEI_KSEL.MODE in force -/ ksel : Nat := 0
  /-- 2 bits; R410 17; reset none. A written MODE awaiting the switch (PENDING) -/ kselNext : Option Nat := none
  /-- 128 bits; R404 17; reset 0. WEI_KFAULT -/ kfault : BitVec 128 := 0
  /-- retire-buffer entry; R203 09; reset none. A basin fault notice waiting -/ notice : Option Nat := none
  /-- R453 19; reset none. The fabric load in flight -/ load : Option FabLoad := none
  /-- R423 18; reset empty. Fabric stores not yet acknowledged: (address, bytes, set, epoch, integrity tag) -/
  stores : List (Nat × Bytes × Bool × Nat × BitVec 32) := []
  /-- 1 bit; R423, R453 19; reset 0. A FENCE is unfinished -/ fencing : Bool := false
  /-- 1 bit; R449 19; reset 0. The core is halted -/ halted : Bool := false
  deriving DecidableEq, Repr

/-! ## Spring (20) -/

/-- A noise source (20). -/
structure Source where
  /-- 2 bits; 20; reset 0 STARTUP. SRC_A, SRC_B -/ st : Nat := 0
  /-- instant; R460, R461 20; reset 1 ms after the release. The end of the settle under way -/ settle : Option Nat := some 1000000
  /-- 1 bit; R460, R461 20; reset 1. The next window is a start-up window -/ startWin : Bool := true
  /-- instants of failures within 1 s; R462 20; reset empty. FAILS_1S -/ fails : List Nat := []
  /-- signed Q1.15; R463 20; reset 0 -/ bias : Int := 0
  /-- signed Q1.15; R463 20; reset 0 -/ lag1 : Int := 0
  /-- signed Q1.15; R463 20; reset 0 -/ lag2 : Int := 0
  /-- signed Q1.15; R463 20; reset 0 -/ lag3 : Int := 0
  /-- 16 bits; 20; reset 0 -/ rctMax : Nat := 0
  /-- 16 bits; 20; reset 0 -/ aptMax : Nat := 0
  /-- 16 bits; 20; reset 0. FAILS_TOTAL -/ failsTotal : Nat := 0
  deriving DecidableEq, Repr

/-- A seed (R464). -/
structure Seed where
  bytes : Bytes
  fromA : Bool
  fromB : Bool
  at_ : Nat
  deriving DecidableEq, Repr

/-- A CTR_DRBG and its pool (20). -/
structure Drbg where
  /-- 1 bit; R466 20; reset 0. INSTANTIATED -/ inst : Bool := false
  /-- internal state; R466 20; reset empty -/ state : Bytes := []
  /-- 32 bits; 20; reset 0. RESEEDS -/ reseeds : Nat := 0
  /-- generate calls since the last reseed; R467 20; reset 0 -/ calls : Nat := 0
  /-- instant; R467 20; reset 0. The last reseed -/ lastReseed : Nat := 0
  /-- up to 64 KiB (16 KiB for n = 8), oldest first; R470 20; reset empty -/ pool : Bytes := []
  /-- 1 bit, a refill begun below half full goes on; R470 20; reset 0 -/ filling : Bool := false
  deriving DecidableEq, Repr

/-- Spring (20). -/
structure SpgState where
  /-- 1 bit; R474 20; reset 0. Spring is seeded -/ seeded : Bool := false
  /-- 1 bit; R473 20; reset 0. FATAL -/ fatal : Bool := false
  /-- source A; 20; reset STARTUP -/ srcA : Source := {}
  /-- source B; 20; reset STARTUP -/ srcB : Source := {}
  /-- 7 flags; 20; reset 0. SPG_EVENT -/ event : Events := {}
  /-- conditioned outputs of the seed being formed, with their source; R464 20; reset empty -/ cond : List (Bytes × Bool) := []
  /-- CBC-MAC state of the conditioner; R464 20; reset empty -/ condState : Bytes := []
  /-- 16 seeds; R465 20; reset empty -/ buffer : List Seed := []
  /-- 9 DRBGs; R466 20; reset not instantiated -/ drbgs : Tab Drbg := []
  /-- 9 bits; R467 20; reset 0. SPG_CTRL.RESEED -/ reseed : BitVec 9 := 0
  /-- 1 bit; 20; reset 0. EVENT_MSG -/ eventMsg : Bool := false
  /-- 256 bits; R466 20; reset 0. SPG_PERS -/ pers : BitVec 256 := 0
  /-- raw run: source B, COUNT, retire entry, end instant; R475 20; reset none -/ raw : Option (Bool × Nat × Nat × Nat) := none
  deriving DecidableEq, Repr

/-! ## Fountainhead (21) -/

/-- A staged firmware image (R484 to R486). -/
structure StagedFw where
  bytes : Bytes
  complete : Bool := false
  version : Nat := 0
  rollback : Nat := 0
  digest : Bytes := []
  accepted : Bool := false
  deriving DecidableEq, Repr

/-- An open quorum session (R487 to R489). -/
structure Session where
  purpose : Nat
  number : Nat
  arg : Nat
  subject : Bytes
  challenge : Bytes
  m : Nat
  ends : Nat
  counted : List (BitVec 128) := []
  /-- RESTORE: shares read, (x, share); R492 -/ shares : List (Nat × Bytes) := []
  /-- BACKUP: BK and polynomial coefficients per byte; R491 -/ bk : Bytes := []
  poly : List Bytes := []
  /-- BACKUP: identities whose share is confirmed; R491 -/ confirmed : List (BitVec 128) := []
  /-- LIFE_CYCLE: the certificate opened with -/ cert : Bytes := []
  /-- the approval or the shares are held (M reached for DEBUG, RESTORE) -/ held : Bool := false
  deriving DecidableEq, Repr

/-- A COLLECT under way (R489). -/
structure Collect where
  entry : Nat
  source : Nat
  /-- 0 card: waits for bring-up, 1 STATUS, 2 SIGN, 3 signature GETs, 4 COMMIT_SEQ, 5 PUT_SHARE, 6 GET_SHARE, 7 share GETs,
  8 share committed;
  10 badge: enumeration, 11 activation, 12 IDENTIFY, 13 certificate, 14 SIGN, 15 signature -/
  stage : Nat := 0
  since : Nat := 0
  data : Bytes := []
  uid : BitVec 80 := 0
  tokenId : Bytes := []
  authUsed : Nat := 0
  cert : Bytes := []
  seq : Nat := 0
  blocksLeft : Nat := 0
  badFrames : Nat := 0
  retriedRate : Bool := false
  accepted : Bool := false
  releaseSeen : Bool := false
  deriving DecidableEq, Repr

/-- Fountainhead (21), the management side of the board port (26), and the MRAM and OTP words it owns. -/
structure FntState where
  /-- 64 bits; R476 21; reset OWNED DESIGN CHOICE (OTP). Life-cycle word -/ lifeWord : BitVec 64 := 0x00FFFFFF
  /-- 4 × 48 bytes; R478 21; reset one slot of 48 zero bytes DESIGN CHOICE (OTP) -/ owners : List Bytes := [List.replicate 48 0]
  /-- 64 bits; R477 21; reset 0 DESIGN CHOICE (OTP). DEVICE_SERIAL -/ serial : Nat := 0
  /-- 256 bits; R282 12; reset zero DESIGN CHOICE (OTP). DUS -/ dus : Bytes := List.replicate 32 0
  /-- 256 bits; R415 17; reset zero DESIGN CHOICE (OTP). WTS -/ wts : Bytes := List.replicate 32 0
  /-- 7 bits; R486 21; reset 0 DESIGN CHOICE (OTP). FNT_ROLLBACK.KEEPER -/ rbKeeper : Nat := 0
  /-- 7 bits; R486 21; reset 0 DESIGN CHOICE (OTP). FNT_ROLLBACK.FOUNTAINHEAD -/ rbFnt : Nat := 0
  /-- 3 bits; R481 21; reset BOOTING. OP_STATE -/ op : OpState := .booting
  /-- 8 flags; 21; reset 0. FNT_EVENT -/ event : Events := {}
  /-- 1 bit; 21; reset 0. EVENT_MSG -/ eventMsg : Bool := false
  /-- certificate; R479 21; reset none DESIGN CHOICE (MRAM). The pending record -/ pendingLc : Option Bytes := none
  /-- BK_ID and sealed root half; R491 21; reset none DESIGN CHOICE (MRAM). Escrow -/ escrow : Option (Bytes × Bytes) := none
  /-- R487 21; reset none -/ session : Option Session := none
  /-- 64 bits; R487 21; reset 0 DESIGN CHOICE. Number of the newest session -/ sessions : Nat := 0
  /-- staged images by kind; R485 21; reset none -/ staged : Tab StagedFw := []
  /-- 32 bits; 21; reset 0 DESIGN CHOICE (MRAM). FNT_RUNNING -/ running : Nat := 0
  /-- SHA-384; R484 21; reset empty DESIGN CHOICE (MRAM) -/ runningDigest : Bytes := []
  /-- security version of the running image; R486 21; reset 0 DESIGN CHOICE (MRAM) -/ runningRollback : Nat := 0
  /-- 32 bits; 21; reset 0 DESIGN CHOICE (MRAM). Version of the keeper image in service -/ keeperVersion : Nat := 0
  /-- SHA-384; R388 16; reset empty DESIGN CHOICE (MRAM) -/ keeperDigest : Bytes := []
  /-- key; R482 21; reset empty DESIGN CHOICE (MRAM). DIK -/ dik : Bytes := []
  /-- key; R482 21; reset empty DESIGN CHOICE (MRAM). DAK -/ dak : Bytes := []
  /-- certificate; R386, R482; reset empty DESIGN CHOICE (MRAM). DAK certificate -/ dakCert : Bytes := []
  /-- key; R482 21; reset empty DESIGN CHOICE (MRAM). SRK -/ srk : Bytes := []
  /-- certificate; R482 21; reset empty DESIGN CHOICE (MRAM). DIK certificate -/ dikCert : Bytes := []
  /-- retire entry; R153 07; reset none. The management command in service -/ mgmtRun : Option Nat := none
  /-- R489 21; reset none. The COLLECT under way -/ collect : Option Collect := none
  /-- 32 bits; R199 09; reset 1. Generation of the Fountainhead pair -/ generation : Nat := 1
  /-- instant; R496 21; reset none. Start of the restart under way -/ restartAt : Option Nat := none
  /-- 1 bit; R486 21; reset 0. The restart is a firmware switch -/ restartSwitch : Bool := false
  /-- instant; R496 21; reset none. Latest lockstep or Refuge fault -/ lastFault : Option Nat := none
  /-- instant; R495 21; reset none. Latest debug certificate check -/ debugCheck : Option Nat := none
  /-- MRAM Layout slots 0 and 1, each an image with its signature; R36, R49 02; reset empty DESIGN CHOICE (MRAM) -/ layoutSlots : Tab Bytes := []
  /-- slot; R36, R49 02; reset none DESIGN CHOICE (MRAM). Active-slot pointer -/ activeSlot : Option Bool := none
  /-- 32 bits; R188 08; reset 0 DESIGN CHOICE (MRAM). Committed rule epoch -/ savedEpoch : Nat := 0
  /-- 1 bit; R567 26; reset 0. FNT_BRD_STATUS.BOOT_DONE -/ bootDone : Bool := false
  deriving DecidableEq, Repr

/-! ## Grotto (22) and Gauge (23) -/

/-- A battery event buffer entry (22). -/
structure Beb where
  source : Nat := 0
  response : Nat := 0
  corroborated : Bool := false
  night : Nat := 0
  cycles : Nat := 0
  deriving DecidableEq, Repr

/-- A source within an open tamper event (R501, R502). -/
structure TamperItem where
  source : Nat
  asserted : Nat
  /-- 0 Record, 1 Seal, 2 Erase: what it has reached -/ reached : Nat
  /-- an Erase waiting for corroboration -/ pending : Bool
  corroborated : Bool := false
  /-- it asserted on battery and its entry is not written yet (R509) -/
  owed : Bool := false
  deriving DecidableEq, Repr

/-- An open tamper event (R502). -/
structure TamperEvent where
  opened : Nat
  night : Nat
  applied : Nat := 0
  items : List TamperItem := []
  deriving DecidableEq, Repr

/-- Grotto and its battery domain (22). -/
structure GroState where
  /-- 16 bits; R498 22; reset 0 DESIGN CHOICE (battery domain). GRO_STICKY -/ sticky : BitVec 16 := 0
  /-- 16 bits; R497 22; reset 0. GRO_ACTIVE -/ active : BitVec 16 := 0
  /-- instants of the latest assertions, by source; R501 22; reset empty -/ assertedAt : Tab Nat := []
  /-- instants of the latest ends of activity, by source; R501 22; reset empty -/ endedAt : Tab Nat := []
  /-- consecutive active battery samples, by source; R501 22; reset 0 -/ samples : Tab Nat := []
  /-- multiples of 128 night ticks passed at the last battery sample; R497 22; reset 0 DESIGN CHOICE (battery domain) -/ sampleMark : Nat := 0
  /-- 6 flags; 22; reset 0. GRO_EVENT -/ event : Events := {}
  /-- 16 × 2 bits; R497 22; reset MESH_A, MESH_B, TEMP_LOW Seal, else Record. GRO_FLOOR (OTP) -/ floors : BitVec 32 := 0x00001005
  /-- 16 × 2 bits; R506 22; reset the floors. Battery copy of the responses -/ copy : BitVec 32 := 0x00001005
  /-- 16 bits; R513 22; reset 0 DESIGN CHOICE (OTP). GRO_DISABLED -/ disabled : BitVec 16 := 0
  /-- 12 bits; 22; reset 0. VBAT_MV -/ vbat : Nat := 0
  /-- signed 12 bits; 22; reset 0. TEMP -/ temp : Int := 0
  /-- 16 × 16 bits; R498 22; reset 0 DESIGN CHOICE (battery domain). GRO_COUNT -/ counts : Tab Nat := []
  /-- 16 entries; R509 22; reset empty DESIGN CHOICE (battery domain). GRO_BEB_i -/ beb : Tab Beb := []
  /-- 4 bits; 22; reset 0 DESIGN CHOICE. NEWEST -/ bebNewest : Nat := 0
  /-- 5 bits; 22; reset 0 DESIGN CHOICE. VALID -/ bebValid : Nat := 0
  /-- 1 bit; R503 22; reset 0 DESIGN CHOICE (battery domain). SEAL_BIT -/ sealBit : Bool := false
  /-- root half; R282 12, R506 22; reset 32 zero bytes DESIGN CHOICE (battery domain). The Reservoir, none when erased -/ rootHalf : Option Bytes := some (List.replicate 32 0)
  /-- 1 bit; R511 22; reset 1 DESIGN CHOICE (battery domain). The battery domain has kept its contents since the last check -/ retained : Bool := true
  /-- 1 bit; R507 22; reset 0. HOLDUP_OK -/ holdupOk : Bool := false
  /-- R502 22; reset none -/ open_ : Option TamperEvent := none
  /-- 48 bits; R75 04; reset 0 DESIGN CHOICE (battery domain). Night counter -/ night : Nat := 0
  /-- the model's own phase of the 32.768 kHz oscillator, in 1/10^9 of a period; R75 04; reset 0 DESIGN CHOICE -/ nightFrac : Nat := 0
  /-- (Timebase, night count); R75 04; reset none DESIGN CHOICE (battery domain). Sync pair -/ sync : Option (Nat × Nat) := none
  /-- instant t_s; R503 22; reset none. A Seal in progress -/ sealAt : Option Nat := none
  /-- 1 bit; R504 22; reset 0. The Seal in progress follows an Erase -/ erasing : Bool := false
  /-- pin; R503, R505, R566; reset low. ST_ALARM -/ alarm : Bool := false
  /-- pin; R503, R566; reset low. ST_OK -/ ok : Bool := false
  deriving DecidableEq, Repr

/-- A Gauge event entry (R518). -/
structure GaugeEvent where
  seq : Nat
  hours : Nat
  cycles : Nat
  era : Nat
  kind : Nat
  source : Nat
  time : Nat
  srcSeq : Nat
  detail : Bytes
  deriving DecidableEq, Repr

/-- A Gauge summary entry (R517). -/
structure GaugeSummary where
  seq : Nat
  hours : Nat
  cycles : Nat
  tLow : Int
  tHigh : Int
  tMean : Int
  vLow : Nat
  vHigh : Nat
  slowest : Nat
  faults : Nat
  refusals : Nat
  late : Nat
  linkErrors : Nat
  tampers : Nat
  lifePpm : Nat
  deriving DecidableEq, Repr

/-- The accumulator block (R516). -/
structure GaugeAcc where
  /-- 32 bits; R515 23; reset 0 DESIGN CHOICE (MRAM) -/ commitSeq : Nat := 0
  /-- 32 bits; R514 23; reset 0 DESIGN CHOICE (MRAM). OPERATING_HOURS -/ hours : Nat := 0
  /-- 32 bits; R514 23; reset 0 DESIGN CHOICE (MRAM). POWER_CYCLES -/ cycles : Nat := 0
  /-- 32 bits; R516 23; reset 0 DESIGN CHOICE (MRAM). SECONDS -/ seconds : Nat := 0
  /-- 32 bits; R519 23; reset 0 DESIGN CHOICE (MRAM). LIFE_PPM -/ lifePpm : Nat := 0
  /-- 32 × 32 bits; R516 23; reset 0 DESIGN CHOICE (MRAM). TEMP_HIST -/ tempHist : Tab Nat := []
  /-- 16 × 32 bits; R516 23; reset 0 DESIGN CHOICE (MRAM). VCORE_HIST -/ vcoreHist : Tab Nat := []
  /-- 16 × 32 bits; R516 23; reset 0 DESIGN CHOICE (MRAM). PACE_HIST -/ paceHist : Tab Nat := []
  /-- 2 × (4 × 32 + 8 × 16 bits); R516 23; reset 0 DESIGN CHOICE (MRAM). LINK: port × 12 + index -/ link : Tab Nat := []
  /-- 16 × 32 bits; R516 23; reset 0 DESIGN CHOICE (MRAM). TAMPER -/ tamper : Tab Nat := []
  /-- 16 × 32 bits; R516 23; reset 0 DESIGN CHOICE (MRAM). FAULTS -/ faults : Tab Nat := []
  /-- 8 × 32 bits; R516 23; reset 0 DESIGN CHOICE (MRAM). REFUSALS -/ refusals : Tab Nat := []
  /-- 16 × 32 bits; R516 23; reset 0 DESIGN CHOICE (MRAM). MISC -/ misc : Tab Nat := []
  /-- 8 × (value, hours, cycles); R516 23; reset none DESIGN CHOICE (MRAM). EXTREMES -/ extremes : Tab (Int × Nat × Nat) := []
  deriving DecidableEq, Repr

/-- Gauge (23). -/
structure GauState where
  /-- live accumulators; R516 23; reset 0 DESIGN CHOICE (MRAM) -/ acc : GaugeAcc := {}
  /-- the two committed copies; R515 23; reset none DESIGN CHOICE (MRAM) -/ copies : Tab GaugeAcc := []
  /-- instant; R515, R521 23; reset 0. Last accumulator commit -/ commitAt : Nat := 0
  /-- 8,192 entries, newest first; R515, R518 23; reset empty DESIGN CHOICE (MRAM) -/ events : List GaugeEvent := []
  /-- 32 bits; R515 23; reset 0 DESIGN CHOICE. Newest event SEQ -/ eventSeq : Nat := 0
  /-- 8,192 entries, newest first; R515, R517 23; reset empty DESIGN CHOICE (MRAM) -/ summaries : List GaugeSummary := []
  /-- 32 bits; R515 23; reset 0 DESIGN CHOICE. Newest summary SEQ -/ summarySeq : Nat := 0
  /-- 32 bits per SOURCE; R518 23; reset 0 DESIGN CHOICE (MRAM) -/ srcSeqs : Tab Nat := []
  /-- (second, entries of KIND 3 in it); R518 23; reset 0 -/ kind3 : Nat × Nat := (0, 0)
  /-- accumulators at the start of the hour; R517 23; reset 0 -/ hourBase : GaugeAcc := {}
  /-- (lowest, highest, sum, samples) of the hour; R517 23; reset none -/ hourTemp : Option (Int × Int × Int × Nat) := none
  /-- (lowest, highest) VDD_CORE of the hour in mV; R517 23; reset none -/ hourV : Option (Nat × Nat) := none
  /-- slowest device pace of the hour in ps; R517 23; reset 0 -/ hourPace : Nat := 0
  /-- the second of the latest sample; R516 23; reset 0 -/ secondMark : Nat := 0
  deriving DecidableEq, Repr

/-! ## Card bus (24), contactless reader and passport (25) -/

/-- A certificate's fields that the device keeps (R530). -/
structure TokenCert where
  type_ : Nat
  tokenId : Bytes
  issued : Nat
  expires : Nat
  authLimit : Nat
  signKey : Bytes
  kemKey : Bytes
  deriving DecidableEq, Repr

/-- A card slot (CCB_SLOT_n, 24). -/
structure CardSlot where
  /-- 3 bits; 24; reset 0 EMPTY. STATE -/ st : Nat := 0
  /-- pin CC_DET[n] seen low since; R525 24; reset none -/ detLow : Option Nat := none
  /-- pin; R523 24; reset low. CC_PWR_EN[n] -/ pwr : Bool := false
  /-- 1 bit; 24; reset 0. Insertion accepted (PRESENT) -/ present : Bool := false
  /-- 1 bit; 24; reset 0. WIDTH4 -/ width4 : Bool := false
  /-- 2 bits; 24; reset 0. CLOCK -/ clock : Nat := 0
  /-- 1 bit; R535 24; reset 0. PENDING -/ pending : Bool := false
  /-- 2 bits; R536 24; reset 0. RESOLVED -/ resolved : Nat := 0
  /-- 8 bits; 24; reset 0. TAG -/ tag : Nat := 0
  /-- 32 bits; R535 24; reset 0. PENDING_SEQ -/ pendingSeq : Nat := 0
  /-- TOKEN_ID of the card of the pending write; R536 24; reset empty -/ pendingId : Bytes := []
  /-- 32 bits; 24; reset 0. AUTH_USED -/ authUsed : Nat := 0
  /-- 1 bit; R527 24; reset 0. REFUSED in the latest STATUS -/ refused : Bool := false
  /-- 128 bits; 24; reset empty. TOKEN_ID -/ tokenId : Bytes := []
  /-- verified certificate; R532 24; reset none -/ cert : Option TokenCert := none
  /-- failed bring-ups; R525 24; reset 0 -/ fails : Nat := 0
  /-- instant of the failed bring-up whose 100 ms hold runs; R525 24; reset none -/ holdFrom : Option Nat := none
  deriving DecidableEq, Repr

/-- The transaction on the card bus (R525 to R527, 24). -/
structure CardTrans where
  slot : Nat
  /-- serves a COLLECT (else a bring-up) -/ forCollect : Bool
  opcode : Nat
  params : Bytes
  /-- times the last command was sent again; R526 -/ resent : Nat := 0
  /-- GET: object and block -/ object : Nat := 0
  block : Nat := 0
  data : Bytes := []
  /-- the present block failed its CRC before -/ blockRetry : Bool := false
  /-- PUT_SHARE, GET_SHARE, SIGN: blocks still to send -/ toSend : List Bytes := []
  /-- a busy hold runs since -/ busyFrom : Option Nat := none
  deriving DecidableEq, Repr

/-- The card bus (24). -/
structure CcbState where
  /-- 4 slots; 24; reset EMPTY -/ slots : Tab CardSlot := []
  /-- 5 flags; 24; reset 0. CCB_EVENT -/ event : Events := {}
  /-- 1 bit; 24; reset 0. EVENT_MSG -/ eventMsg : Bool := false
  /-- 2 bits; R528 24; reset 2. CLOCK_LIMIT -/ clockLimit : Nat := 2
  /-- 64 bits; R531 24; reset 0 DESIGN CHOICE (MRAM). CCB_TIME_FLOOR -/ timeFloor : Nat := 0
  /-- R525 24; reset none. BUS_BUSY -/ trans : Option CardTrans := none
  deriving DecidableEq, Repr

/-- The contactless reader (25). -/
structure ClsState where
  /-- 2 bits; 25; reset 0 OFF. MODE where the reader polls (2) or is silent (3) -/ mode : Nat := 0
  /-- 1 bit; R538 25; reset 0. EXT_FIELD -/ extField : Bool := false
  /-- instant; R538 25; reset none. No external field since -/ quietFrom : Option Nat := none
  /-- up to 8 × 80 bits; R541 25; reset empty. CLS_BADGE_n, ENUMERATED -/ uids : List (BitVec 80) := []
  /-- 2 bits; 25; reset 0. RATE -/ rate : Nat := 0
  /-- 4 flags; 25; reset 0. CLS_EVENT -/ event : Events := {}
  /-- 1 bit; 25; reset 0. EVENT_MSG -/ eventMsg : Bool := false
  /-- 1 bit; R539 25; reset 0. PING_EN -/ pingEn : Bool := false
  /-- 2 bits; R540 25; reset 3. RATE_LIMIT -/ rateLimit : Nat := 3
  /-- 8 bits; R539 25; reset 200. PING_PERIOD_MS -/ pingPeriod : Nat := 200
  /-- 4 bits; R539 25; reset 4. PING_THRESH -/ pingThresh : Nat := 4
  /-- last eight burst amplitudes of the mean, newest first; R539 25; reset empty -/ bursts : List Nat := []
  /-- R539 25; reset none. Instant of the last burst -/ lastPing : Option Nat := none
  /-- 1 bit; R539 25; reset 0. An enumeration cycle is started -/ cycle : Bool := false
  /-- instant; R543 25; reset none. Carrier off for 100 ms since -/ offFrom : Option Nat := none
  /-- instant; R542 25; reset none. The latest enumeration cycle of the COLLECT under way -/ lastCycle : Option Nat := none
  deriving DecidableEq, Repr

/-- A passport note record's entries and a counter's two copies (R552, R553). -/
structure PspCopy where
  value : Nat
  seq : Nat
  deriving DecidableEq, Repr

/-- The unit passport (25): FRAM contents, tag state, staging. -/
structure PspState where
  /-- records 0 to 15; R549 25; reset empty DESIGN CHOICE (FRAM) -/ records : Tab Bytes := []
  /-- records 16 to 31, entries (index, 12 bytes); R553 25; reset empty DESIGN CHOICE (FRAM) -/ notes : Tab (List (Nat × Bytes)) := []
  /-- records 32 to 47, two copies, none when invalid; R552 25; reset none DESIGN CHOICE (FRAM) -/
  counters : Tab (Option PspCopy × Option PspCopy) := []
  /-- 64 bits; R550 25; reset 0x3 DESIGN CHOICE (FRAM). Stored view mask -/ view : BitVec 64 := 3
  /-- 2 × 8 bytes; R551 25; reset zero DESIGN CHOICE (FRAM). PW0, PW1 -/ pws : Tab Bytes := []
  /-- 2 × 4 bits; R551 25; reset 0 DESIGN CHOICE (FRAM). PWn_FAILS -/ fails : Tab Nat := []
  /-- 64 bits; R547 25; reset 0xE0… PRESUMED layout. IC manufacturer code fused at MANUFACTURED, reset 0 DESIGN CHOICE -/ mfr : BitVec 8 := 0
  /-- 1 bit; 25; reset 0. FIELD -/ field : Bool := false
  /-- 1 bit; R546 25; reset 0 (ISO/IEC 15693). The tag is quiet -/ quiet : Bool := false
  /-- 1 bit; R546 25; reset 0 (ISO/IEC 15693). The tag is selected -/ selected : Bool := false
  /-- 2 bits; R551 25; reset 0. Authorisations -/ auth : BitVec 2 := 0
  /-- staged blocks, oldest first: (record, first block?, last block?, whole new content, instant); R556 25; reset empty -/
  staged : List (Nat × Bool × Bool × Bytes × Nat) := []
  /-- records marked UPDATING; R556 25; reset empty -/ updating : List Nat := []
  /-- wire accesses answered BUSY, with their retry instants; R555 25; reset empty -/ busy : List (Nat × Bytes × Nat) := []
  /-- 1 bit; R555 25; reset 0. FIELD_BUSY -/ fieldBusy : Bool := false
  /-- 5 flags; 25; reset 0. PSP_EVENT -/ event : Events := {}
  deriving DecidableEq, Repr

/-! ## Power and reset (26) -/

/-- Rails, resets and the boot sequence (26). -/
structure PwrState where
  /-- 9 rails inside their windows; R559, R560 26; reset all inside (main power present) -/ rails : BitVec 9 := BitVec.allOnes 9
  /-- 1 bit; R560 26; reset 0. Power-on reset is held -/ por : Bool := false
  /-- pin; R97 05; reset 0 DESIGN CHOICE. PE_X16_SEL as sampled -/ x16 : Bool := false
  /-- step of R561 next to run, 13 when the sequence has ended; R561 26; reset 1 -/ bootStep : Nat := 1
  /-- instant; R561 26; reset 0. The release of the reset -/ bootFrom : Nat := 0
  /-- the sequence under way follows a warm reset; R565 26; reset 0 -/ warm : Bool := false
  /-- main power is present; R506, R508 22; reset 1 -/ main : Bool := true
  /-- pin; R566 26; reset released. WAKE_N driven low -/ wake : Bool := false
  /-- 1 bit; R93 04; reset 0. A launch entry was ARMED at a reset since the last boot -/ tableLost : Bool := false
  /-- 1 bit; R48 02; reset 0. An unlaunched image was lost at a reset since the last boot -/ stageLost : Bool := false
  deriving DecidableEq, Repr

/-! ## The stops -/

/-- Why the machine stops with a fault: no command does, since the spec gives every one an effect. -/
inductive Fault where
  deriving DecidableEq, Repr

/-- Why a command is refused. -/
inductive Refusal where
  /-- Answered by a dispatch arm for a command that has no meaning yet; safe. -/
  | notModelled (mnemonic : String)
  deriving DecidableEq, Repr

/-! ## The whole state -/

/-- The OX1600. -/
structure State where
  tbs : TbsState := {}
  lay : LayState := {}
  /-- by function key 32 × port + VF -/ fns : Tab FnState := []
  /-- 0 port A, 1 port B -/ ports : Tab PortState := []
  /-- by queue key 64 × function key + queue -/ queues : Tab Queue := []
  slu : SluState := {}
  bsn : BsnState := {}
  /-- 0 to 7 -/ basins : Tab Basin := []
  cis : CisState := {}
  vlt : VltState := {}
  vmem : VaultMem := {}
  wei : WeiState := {}
  /-- 0 to 7 basin pairs, 8 the Fountainhead pair -/ pairs : Tab KPair := []
  spg : SpgState := {}
  fnt : FntState := {}
  gro : GroState := {}
  gau : GauState := {}
  ccb : CcbState := {}
  cls : ClsState := {}
  psp : PspState := {}
  pwr : PwrState := {}
  /-- fabric memory by fabric address: basin SRAM, staging, Fountainhead SRAM; R398 17; reset nothing listed, reads 0
  DESIGN CHOICE -/
  mem : Memory := []
  /-- bytes that fabric stores left in the companion MRAM and the passport FRAM, by fabric address, any other byte being open since
  the spec gives no address for what the units keep there; R398 17; reset nothing listed -/
  nvm : Tab Byte := []
  /-- the model's own: what the device has sent out, oldest first; reset empty -/ out : List Out := []
  /-- the model's own: index of the next free value; reset 0 DESIGN CHOICE -/ freeCtr : Nat := 0
  /-- the commands waiting, first in first out; reset empty -/ pending : List Instr := []
  deriving DecidableEq, Repr

/-- The device right after the release of power-on reset. -/
def State.reset : State := {}

end Sys2Proof.Machine
end

