-- ==== Sys2Proof/Machine/Operands.lean ====
section
/-! DEFINITION. Byte order (R6), byte-string slices and the fields of a descriptor (R128). -/

namespace Sys2Proof.Machine

/-- Little-endian value (R6). -/
def leNat : Bytes → Nat
  | [] => 0
  | b :: r => b.toNat + 256 * leNat r

/-- The `n` bytes of a value, little-endian (R6). -/
def natLe : Nat → Nat → Bytes
  | 0, _ => []
  | n + 1, v => BitVec.ofNat 8 v :: natLe n (v / 256)

/-- Big-endian value of a byte string of an external standard (R6). -/
def beNat (bs : Bytes) : Nat := leNat bs.reverse

/-- The `n` bytes of a value, big-endian. -/
def natBe (n v : Nat) : Bytes := (natLe n v).reverse

/-- `len` bytes from `off`. -/
def slice (bs : Bytes) (off len : Nat) : Bytes := (bs.drop off).take len

/-- The little-endian field of `len` bytes at `off`. -/
def field (bs : Bytes) (off len : Nat) : Nat := leNat (slice bs off len)

/-- Every byte is zero. -/
def allZero (bs : Bytes) : Bool := bs.all (· == 0)

/-- Cut or zero-padded to exactly `n` bytes. -/
def padTo (n : Nat) (bs : Bytes) : Bytes := (bs ++ List.replicate n 0).take n

/-- Byte-wise exclusive or, as long as the shorter. -/
def xorBytes (a b : Bytes) : Bytes := List.zipWith (· ^^^ ·) a b

/-- ASCII of a string. -/
def ascii (t : String) : Bytes := t.toList.map (fun c => BitVec.ofNat 8 c.toNat)

/-- Ceiling of a / b. -/
def ceilDiv (a b : Nat) : Nat := (a + b - 1) / b

/-- Bits [lo + len - 1 : lo] of a number. -/
def bitsAt (v lo len : Nat) : Nat := v / 2 ^ lo % 2 ^ len

/-- Bit i of a number. -/
def bitAt (v i : Nat) : Bool := v / 2 ^ i % 2 == 1

/-- 1 or 0. -/
def bitNat (b : Bool) : Nat := if b then 1 else 0

/-- A two's-complement reading of the low w bits. -/
def signedOf (w v : Nat) : Int := if bitAt v (w - 1) then (v % 2 ^ w : Int) - 2 ^ w else (v % 2 ^ w : Int)

/-- The low w bits of a signed value. -/
def bitsOfInt (w : Nat) (v : Int) : Nat := (v % (2 ^ w : Int)).toNat

/-! ## The descriptor (R128) -/

def opcodeOf (d : Bytes) : Nat := field d 0x00 2
def flagsOf (d : Bytes) : Nat := field d 0x02 2
def deadlineOf (d : Bytes) : Nat := field d 0x04 4
def tagOf (d : Bytes) : BitVec 64 := BitVec.ofNat 64 (field d 0x08 8)
def key1Of (d : Bytes) : BitVec 64 := BitVec.ofNat 64 (field d 0x10 8)
def key2Of (d : Bytes) : BitVec 64 := BitVec.ofNat 64 (field d 0x18 8)
def inAddrOf (d : Bytes) : Nat := field d 0x20 8
def inLenOf (d : Bytes) : Nat := field d 0x28 4
def outLenOf (d : Bytes) : Nat := field d 0x2C 4
def outAddrOf (d : Bytes) : Nat := field d 0x30 8
def batchOf (d : Bytes) : Nat := field d 0x38 4

/-- FLAGS bit 0, IN_SGL. -/
def inSgl (d : Bytes) : Bool := bitAt (flagsOf d) 0

/-- FLAGS bit 1, OUT_SGL. -/
def outSgl (d : Bytes) : Bool := bitAt (flagsOf d) 1

/-- FLAGS bit 2, HOLD. -/
def holdOf (d : Bytes) : Bool := bitAt (flagsOf d) 2

/-- The PARAMS field of `len` bytes at +off. -/
def param (d : Bytes) (off len : Nat) : Nat := field d (0x40 + off) len

/-- The PARAMS bytes at +off. -/
def paramBytes (d : Bytes) (off len : Nat) : Bytes := slice d (0x40 + off) len

/-- Every PARAMS byte outside the ranges (offset, length) used is zero. -/
def paramsZeroBut (d : Bytes) (used : List (Nat × Nat)) : Bool :=
  (List.range 64).all (fun i => used.any (fun u => u.1 ≤ i && i < u.1 + u.2) || (param d i 1 == 0))

/-- The opcode is a queue-control command (R153). -/
def isQueueControl (op : Nat) : Bool := op == 1 || op == 2 || op == 3

/-- The opcode is a management command (R153). -/
def isMgmt (op : Nat) : Bool := op / 256 == 5

/-- The opcodes of R150. -/
def knownOpcode (op : Nat) : Bool :=
  [0x0001, 0x0002, 0x0003, 0x0101, 0x0102, 0x0110, 0x0111, 0x0120, 0x0130, 0x0131, 0x0201, 0x0202, 0x0210, 0x0211, 0x0220,
   0x0221, 0x0230, 0x0301, 0x0302, 0x0303, 0x0310, 0x0311, 0x0320, 0x0330, 0x0340, 0x0401, 0x0402, 0x0403, 0x0404, 0x0405,
   0x0406, 0x0501, 0x0502, 0x0503, 0x0510, 0x0520, 0x0530, 0x0531, 0x0540, 0x0550, 0x0560, 0x0570, 0x0580].contains op

/-! ## Scatter lists (R130) -/

/-- The entries of a scatter list: address and length, up to and including the first with LAST set; none when an entry
breaks R130, LAST is missing within 4,096 entries or the bytes run out. -/
def sglEntries : Nat → Bytes → Option (List (Nat × Nat))
  | 0, _ => none
  | n + 1, bs =>
    if bs.length < 16 then none
    else
      let addr := field bs 0 8
      let len := field bs 8 4
      let fl := field bs 12 4
      if len = 0 || len > 2 ^ 24 || fl > 1 then none
      else if fl = 1 then some [(addr, len)]
      else (sglEntries n (bs.drop 16)).map ((addr, len) :: ·)

/-- A list starting at `addr` satisfies R130 for `total` bytes. -/
def sglOk (addr total : Nat) (bs : Bytes) : Bool :=
  addr % 16 == 0 &&
    match sglEntries 4096 bs with
    | none => false
    | some es => (es.map (·.2)).sum == total

end Sys2Proof.Machine
end

