-- ==== Sys2Proof/Machine/Flags.lean ====
section
/-! DEFINITION. Event flags and their counts (R8, R9), and the short-time format (R138). -/

namespace Sys2Proof.Machine

/-- Byte i of an event count register. -/
def Events.count (e : Events) (i : Nat) : Nat := bitsAt e.counts.toNat (8 * i) 8

/-- The count register with byte i replaced. -/
def putCount (c : BitVec 64) (i v : Nat) : BitVec 64 :=
  BitVec.ofNat 64 (c.toNat - bitsAt c.toNat (8 * i) 8 * 2 ^ (8 * i) + (v % 256) * 2 ^ (8 * i))

/-- A set event on flag i: the flag sets and its count increments, saturating at 0xFF (R9). -/
def Events.set (e : Events) (i : Nat) : Events :=
  { flags := e.flags ||| BitVec.ofNat 8 (2 ^ i)
    counts := putCount e.counts i (min 0xFF (e.count i + 1)) }

/-- n set events on flag i: the flag sets and its count rises by n, saturating at 0xFF (R9). -/
def Events.setN (e : Events) (i n : Nat) : Events :=
  if n = 0 then e
  else { flags := e.flags ||| BitVec.ofNat 8 (2 ^ i), counts := putCount e.counts i (min 0xFF (e.count i + n)) }

/-- A W1C write of v, with byte i of `arrived` set events on flag i arriving during the clear (R8, R9): a flag written 1 clears unless a
set arrived, and its count becomes the number that arrived; sets arriving on another flag count as usual. -/
def Events.clear (e : Events) (v : BitVec 8) (arrived : BitVec 64) : Events :=
  (List.range 8).foldl (fun acc i =>
    let n := bitsAt arrived.toNat (8 * i) 8
    if v.getLsbD i then
      { flags := if n = 0 then acc.flags &&& ~~~ BitVec.ofNat 8 (2 ^ i) else acc.flags ||| BitVec.ofNat 8 (2 ^ i)
        counts := putCount acc.counts i n }
    else acc.setN i n) e

/-- The short-time format of R138: exponent in [15:11], mantissa in [10:0], the smallest exponent that fits. -/
def shortTime (t : Nat) : Nat :=
  if 2047 * 2 ^ 31 ≤ t then 0xFFFF
  else
    match (List.range 32).find? (fun e => t / 2 ^ e < 2048) with
    | some e => e * 2048 + t / 2 ^ e
    | none => 0xFFFF

/-- Increment saturating at 2^32 - 1 (R514, R516). -/
def sat32 (n : Nat) : Nat := min 0xFFFFFFFF n

end Sys2Proof.Machine
end

