-- ==== Sys2Proof/Machine/Ops.lean ====
section
/-! DEFINITION. The named operations over the state that the meanings share: keyed lists, fabric memory, accessors of
functions, queues, basins, retire-buffer entries and keeper pairs, events with their messages, Gauge entries, free values. -/

namespace Sys2Proof.Machine

/-! ## Keyed lists -/

/-- The value at a key, or `d` where the list holds none. -/
def tabGet {α : Type} : Tab α → Nat → α → α
  | [], _, d => d
  | (k, v) :: r, i, d => if k = i then v else tabGet r i d

/-- The value at a key, if the list holds one. -/
def tabFind {α : Type} : Tab α → Nat → Option α
  | [], _ => none
  | (k, v) :: r, i => if k = i then some v else tabFind r i

/-- Put a value at a key, keeping the keys rising. -/
def tabSet {α : Type} : Tab α → Nat → α → Tab α
  | [], i, v => [(i, v)]
  | (k, w) :: r, i, v =>
    if i < k then (i, v) :: (k, w) :: r
    else if i = k then (i, v) :: r
    else (k, w) :: tabSet r i v

/-- Remove a key. -/
def tabDel {α : Type} (t : Tab α) (i : Nat) : Tab α := t.filter (fun p => p.1 != i)

/-- A list holds the key. -/
def tabHas {α : Type} (t : Tab α) (i : Nat) : Bool := (tabFind t i).isSome

/-- Add to a 32-bit saturating counter kept in a keyed list (R516). -/
def tabAdd (t : Tab Nat) (i n : Nat) : Tab Nat := tabSet t i (sat32 (tabGet t i 0 + n))

/-! ## Fabric memory (R398) -/

/-- The byte at an address; 0 where nothing was written. -/
def memRead : Memory → Nat → Byte
  | [], _ => 0
  | (k, v) :: r, a => if k = a then v else memRead r a

/-- Put a byte at an address, keeping the canonical form. -/
def memWrite : Memory → Nat → Byte → Memory
  | [], a, v => if v = 0 then [] else [(a, v)]
  | (k, w) :: r, a, v =>
    if a < k then (if v = 0 then (k, w) :: r else (a, v) :: (k, w) :: r)
    else if a = k then (if v = 0 then r else (k, v) :: r)
    else (k, w) :: memWrite r a v

/-- `n` bytes from an address. -/
def memReadN (m : Memory) (a : Nat) : Nat → Bytes
  | 0 => []
  | n + 1 => memRead m a :: memReadN m (a + 1) n

/-- Bytes from an address upward. -/
def memWriteN (m : Memory) (a : Nat) : Bytes → Memory
  | [] => m
  | b :: r => memWriteN (memWrite m a b) (a + 1) r

/-- Every cell's address lies above `lo` and the addresses rise, and no cell holds 0. -/
def memAbove : Nat → Memory → Bool
  | _, [] => true
  | lo, (k, v) :: r => decide (lo ≤ k) && (v != 0) && memAbove (k + 1) r

/-- The canonical form of a memory. -/
def Memory.wf (m : Memory) : Bool := memAbove 0 m

/-! ## Accessors -/

/-- The Timebase count. R73 lets a unit's local time differ by up to 8 ns; here every unit's is the count itself (DESIGN CHOICE, log entry 147). -/
def State.now (s : State) : Nat := s.tbs.now

/-- The number of a port. -/
def portNum (p : Bool) : Nat := bitNat p

/-- The key of a function. -/
def fnKey (f : FnId) : Nat := 32 * bitNat f.port + f.vf

/-- The function of a key. -/
def fnOfKey (k : Nat) : FnId := ⟨k / 32 % 2 == 1, k % 32⟩

/-- The key of a queue. -/
def qKey (f : FnId) (q : Nat) : Nat := 64 * (fnKey f) + q

/-- The function and index of a queue key. -/
def queueOfKey (k : Nat) : FnId × Nat := (fnOfKey (k / 64), k % 64)

def State.fn (s : State) (f : FnId) : FnState := tabGet s.fns (fnKey f) {}
def State.setFn (s : State) (f : FnId) (x : FnState) : State := { s with fns := tabSet s.fns (fnKey f) x }
def State.port (s : State) (p : Bool) : PortState := tabGet s.ports (portNum p) {}
def State.setPort (s : State) (p : Bool) (x : PortState) : State := { s with ports := tabSet s.ports (portNum p) x }
def State.queue (s : State) (f : FnId) (q : Nat) : Queue := tabGet s.queues (qKey f q) {}
def State.setQueue (s : State) (f : FnId) (q : Nat) (x : Queue) : State := { s with queues := tabSet s.queues (qKey f q) x }
def State.basin (s : State) (b : Nat) : Basin := tabGet s.basins b {}
def State.setBasin (s : State) (b : Nat) (x : Basin) : State := { s with basins := tabSet s.basins b x }
def State.cmd (s : State) (e : Nat) : Option Cmd := tabFind s.slu.retire e
def State.setCmd (s : State) (e : Nat) (c : Cmd) : State := { s with slu := { s.slu with retire := tabSet s.slu.retire e c } }
def State.dropCmd (s : State) (e : Nat) : State := { s with slu := { s.slu with retire := tabDel s.slu.retire e } }
def State.pair (s : State) (p : Nat) : KPair := tabGet s.pairs p {}
def State.setPair (s : State) (p : Nat) (x : KPair) : State := { s with pairs := tabSet s.pairs p x }
def State.drbg (s : State) (n : Nat) : Drbg := tabGet s.spg.drbgs n {}
def State.setDrbg (s : State) (n : Nat) (x : Drbg) : State := { s with spg := { s.spg with drbgs := tabSet s.spg.drbgs n x } }
def State.die (s : State) (d : Nat) : Die := tabGet s.vlt.dies d {}
def State.setDie (s : State) (d : Nat) (x : Die) : State := { s with vlt := { s.vlt with dies := tabSet s.vlt.dies d x } }
def State.slot (s : State) (n : Nat) : CardSlot := tabGet s.ccb.slots n {}
def State.setSlot (s : State) (n : Nat) (x : CardSlot) : State := { s with ccb := { s.ccb with slots := tabSet s.ccb.slots n x } }

/-- Add an output. -/
def State.emit (s : State) (o : Out) : State := { s with out := s.out ++ [o] }

/-! ## Transfers on a port (R94, R351) -/

/-- The pieces of `len` bytes from address `a` that cross no multiple of `n`. -/
def piecesFrom (n : Nat) : Nat → Nat → Nat → List (Nat × Nat)
  | 0, _, _ => []
  | k + 1, a, len => if len = 0 then [] else let m := min len (n - a % n); (a, m) :: piecesFrom n k (a + m) (len - m)

/-- The requests of at most `n` bytes that a transfer takes. -/
def pieces (n a len : Nat) : List (Nat × Nat) := piecesFrom n (len / n + 2) a len

/-- The programmed Max Read Request Size and Max Payload Size of a port, in bytes (R94): PF0's, up to what is supported. -/
def State.maxRead (s : State) (port : Bool) : Nat := 128 * 2 ^ min 5 (s.fn ⟨port, 0⟩).mrrs
def State.maxPayload (s : State) (port : Bool) : Nat := 128 * 2 ^ min 2 (s.fn ⟨port, 0⟩).mps

/-- Read host memory, in requests of at most the Max Read Request Size. -/
def State.readHost (s : State) (f : FnId) (a n : Nat) : State :=
  (pieces (s.maxRead f.port) a n).foldl (fun t p => t.emit (.hostRead f.port f p.1 p.2)) s

/-- The host writes of some bytes, each of at most the Max Payload Size. -/
def State.writesOf (s : State) (f : FnId) (q : Option Nat) (a : Nat) (bs : Bytes) : List Out :=
  (pieces (s.maxPayload f.port) a bs.length).map (fun p => .hostWrite f.port f q p.1 (Config.relaxedWrite p.1) ((bs.drop (p.1 - a)).take p.2))

/-- Apply a function to the state while a condition holds. -/
def State.when (s : State) (b : Bool) (g : State → State) : State := if b then g s else s

/-! ## Units and their generations (R24, R199, R200) -/

/-- A number for a unit, for the count of transfers sent again and for its generation. -/
def unitNum : Unit → Nat
  | .basin n => n
  | .fountainhead => 8
  | .sluice => 9
  | .cistern => 10
  | .vault => 11
  | .spring => 12
  | .grotto => 13
  | .wellhead p => 14 + bitNat p

/-- A unit's current generation. Every other unit's record of it is updated at the start of the unit's reset (R199), so that one value
stands for the unit and for the records (log entry 128). -/
def State.genOf (s : State) (k : Nat) : Nat :=
  if k < 8 then (s.basin k).generation else if k = 8 then s.fnt.generation else tabGet s.wei.gens k 1

/-- A reply passes R200: the responder's generation and the echoed one are the current ones. -/
def State.fresh (s : State) (responder requester : Nat) (g : ReplyGen) : Bool :=
  g.responder == s.genOf responder && g.echoed == s.genOf requester

/-- A unit is in RESETTING, so that it answers a request with a reset indication and no data (R200). -/
def State.unitResetting (s : State) (k : Nat) : Bool :=
  if k < 8 then (s.basin k).st == .resetting else k == 8 && s.fnt.restartAt.isSome

/-! ## Functions, partitions, queues (05, 06) -/

/-- The function is a PF0. -/
def isPf0 (f : FnId) : Bool := f.vf == 0

/-- The ports are joined (R97). -/
def State.x16 (s : State) : Bool := s.pwr.x16

/-- The function exists (R97, R98); no VF does while no Layout is active (R51). -/
def State.fnExists (s : State) (f : FnId) : Bool :=
  !(s.x16 && f.port) && (f.vf == 0 || (s.lay.active.isSome && (s.port f.port).vfEnable && f.vf ≤ (s.port f.port).numVfs))

/-- A partition's entry in the active Layout. -/
def State.part? (s : State) (p : Nat) : Option Partition :=
  match s.lay.active with
  | none => none
  | some l => l.partitions.find? (fun x => x.part == p)

/-- The VF of a partition on a port. -/
def Partition.vfOn (x : Partition) (port : Bool) : Option Nat :=
  if port then (if x.hasB then some x.vfB else none) else if x.hasA then some x.vfA else none

/-- The partition of a function: 0 for PF0, none for a VF without one (R98, R271). -/
def State.partOf (s : State) (f : FnId) : Option Nat :=
  if f.vf = 0 then some 0
  else
    match s.lay.active with
    | none => none
    | some l => (l.partitions.find? (fun x => x.vfOn f.port == some f.vf)).map (·.part)

/-- The peer function on the other port (R106). -/
def State.peer (s : State) (f : FnId) : Option FnId :=
  if s.x16 then none
  else if f.vf = 0 then some ⟨!f.port, 0⟩
  else
    match s.partOf f with
    | none => none
    | some p => ((s.part? p).bind (fun x => x.vfOn (!f.port))).map (fun v => ⟨!f.port, v⟩)

/-- The Layout's entry of a queue; R51's one queue of each PF0 where no Layout is active. -/
def State.qcfg (s : State) (f : FnId) (q : Nat) : Option QueueCfg :=
  match s.lay.active with
  | none =>
    if f.vf = 0 && q = 0 then
      some { part := 0, port := f.port, index := 0, cls := 1, log2Depth := 6, share := 1, cmdQuota := 0, kibQuota := 0 }
    else none
  | some l =>
    match s.partOf f with
    | none => none
    | some p => l.queues.find? (fun x => x.part == p && x.port == f.port && x.index == q)

/-- QUEUE_PAIRS of a function (R127). -/
def State.queuePairs (s : State) (f : FnId) : Nat :=
  match s.lay.active with
  | none => if f.vf = 0 then 1 else 0
  | some l =>
    match s.partOf f with
    | none => 0
    | some p => (l.queues.filter (fun x => x.part == p && x.port == f.port)).length

/-- Depth of a queue. -/
def Queue.depth (x : Queue) : Nat := 2 ^ x.log2Depth

/-- IDLE: no fetched command and no unposted completion (R122). -/
def Queue.idle (x : Queue) : Bool :=
  x.order.isEmpty && x.toPost.isEmpty && x.fetching.isNone && x.parkedDesc.isNone

/-- DETACHED (R114). -/
def Queue.detached (x : Queue) : Bool := x.detachedAt.isSome

/-! ## Messages and events -/

/-- The message of a vector: its table entry's address and data (R96, R107). -/
def State.message (s : State) (f : FnId) (v : Nat) : Out :=
  let e := tabGet (s.fn f).table v (0, 0)
  .msix f v e.1 e.2

/-- An MSI-X message: pending while its vector or the function is masked or the function is in D3hot, lost while the link
is down, dropped while the function is RESETTING (R107, R110 step 4, R114, R568). -/
def State.msix (s : State) (f : FnId) (v : Nat) : State :=
  let x := s.fn f
  if !(s.port f.port).linkUp || x.resetting then s
  else if x.fnMask || x.vecMask.getLsbD v || x.d3hot then
    s.setFn f { x with vecPending := x.vecPending ||| BitVec.ofNat 64 (2 ^ v) }
  else s.emit (s.message f v)

/-- WAKE_N is driven low while a function in D3hot holds an unreported event or completion (R566). -/
def State.wakeFor (s : State) (f : FnId) : State :=
  if (s.fn f).d3hot then { s with pwr := { s.pwr with wake := true } } else s

/-- A function event (R107). -/
def State.fnEvent (s : State) (f : FnId) (i : Nat) : State :=
  if !s.fnExists f then s
  else
    let x := s.fn f
    let s1 := s.setFn f { x with event := x.event.set i }
    (if x.evEnable then s1.msix f x.evVector else s1).wakeFor f

/-- The message of a device-wide EVENT_MSG bit, by each PF0 that enables it (R589). -/
def State.devMsg (s : State) (en : Bool) : State :=
  if !en then s
  else
    [⟨false, 0⟩, ⟨true, 0⟩].foldl (fun (a : State) (f : FnId) =>
      if a.fnExists f && (a.fn f).evEnable then a.msix f (a.fn f).evVector else a) s

/-- Set the pending bit of an interrupt source of a keeper pair, with its count (R450, R451). -/
def State.irq (s : State) (p i : Nat) : State :=
  let k := s.pair p
  s.setPair p { k with
    pend := k.pend ||| BitVec.ofNat 32 (2 ^ i)
    intCount := tabSet k.intCount i (min 0xFF (tabGet k.intCount i 0 + 1)) }

def State.layEvent (s : State) (i : Nat) : State := { s with lay := { s.lay with event := s.lay.event.set i } }
def State.tbsEvent (s : State) (i : Nat) : State := { s with tbs := { s.tbs with event := s.tbs.event.set i } }
def State.sluEvent (s : State) (i : Nat) : State := { s with slu := { s.slu with event := s.slu.event.set i } }
def State.raEvent (s : State) (i : Nat) : State := { s with slu := { s.slu with raEvent := s.slu.raEvent.set i } }
def State.cisEvent (s : State) (i : Nat) : State := { s with cis := { s.cis with event := s.cis.event.set i } }
def State.vltEvent (s : State) (i : Nat) : State := { s with vlt := { s.vlt with event := s.vlt.event.set i } }
def State.weiEvent (s : State) (i : Nat) : State := { s with wei := { s.wei with event := s.wei.event.set i } }
def State.vloopEvent (s : State) (i : Nat) : State := { s with bsn := { s.bsn with vloopEvent := s.bsn.vloopEvent.set i } }

/-- A GRO_EVENT flag; IRQ 2 of the Fountainhead pair (R450). -/
def State.groEvent (s : State) (i : Nat) : State :=
  ({ s with gro := { s.gro with event := s.gro.event.set i } }).irq 8 2

/-- A BSN_EVENT flag; IRQ 9 of the Fountainhead pair (R450). -/
def State.bsnEvent (s : State) (i : Nat) : State :=
  (({ s with bsn := { s.bsn with event := s.bsn.event.set i } }).irq 8 9).devMsg s.bsn.eventMsg

/-- An SPG_EVENT flag. -/
def State.spgEvent (s : State) (i : Nat) : State :=
  ({ s with spg := { s.spg with event := s.spg.event.set i } }).devMsg s.spg.eventMsg

/-- An FNT_EVENT flag. -/
def State.fntEvent (s : State) (i : Nat) : State :=
  ({ s with fnt := { s.fnt with event := s.fnt.event.set i } }).devMsg s.fnt.eventMsg

/-- A CCB_EVENT flag; IRQ 3 of the Fountainhead pair. -/
def State.ccbEvent (s : State) (i : Nat) : State :=
  (({ s with ccb := { s.ccb with event := s.ccb.event.set i } }).irq 8 3).devMsg s.ccb.eventMsg

/-- A CLS_EVENT flag; IRQ 8 of the Fountainhead pair. -/
def State.clsEvent (s : State) (i : Nat) : State :=
  (({ s with cls := { s.cls with event := s.cls.event.set i } }).irq 8 8).devMsg s.cls.eventMsg

/-- A PSP_EVENT flag, while the device is powered (PSP_EVENT_COUNT); IRQ 8 of the Fountainhead pair. -/
def State.pspEvent (s : State) (i : Nat) : State :=
  if s.pwr.main then ({ s with psp := { s.psp with event := s.psp.event.set i } }).irq 8 8 else s

/-- An unknown share write is resolved as not committed when its session ends (R536). -/
def State.dropPending (s : State) (n : Nat) : State :=
  let x := s.slot n
  if x.pending then (s.setSlot n { x with pending := false, resolved := 2 }).ccbEvent 4 else s

/-- The open quorum session ends, with every approval and share it holds (R489). -/
def State.endSession (s : State) : State :=
  if s.fnt.session.isSome then
    [0, 1, 2, 3].foldl (fun (a : State) n => a.dropPending n) (({ s with fnt := { s.fnt with session := none } }).fntEvent 3)
  else s

/-! ## Gauge (R514 to R518) -/

/-- Add to an accumulator of FAULTS (R516). -/
def State.gauFault (s : State) (i : Nat) : State :=
  { s with gau := { s.gau with acc := { s.gau.acc with faults := tabAdd s.gau.acc.faults i 1 } } }

/-- Add to an accumulator of MISC (R516). -/
def State.gauMisc (s : State) (i : Nat) : State :=
  { s with gau := { s.gau with acc := { s.gau.acc with misc := tabAdd s.gau.acc.misc i 1 } } }

/-- Add to an accumulator of LINK (R516): 0 correctable, 1 uncorrectable, 2 retrains, 3 IDE failures. -/
def State.gauLink (s : State) (port : Bool) (i : Nat) : State :=
  { s with gau := { s.gau with acc := { s.gau.acc with link := tabAdd s.gau.acc.link (12 * bitNat port + i) 1 } } }

/-- Report an error of a function through AER (R94, R109): its status bit, and with the first one a header that the spec does not give
(log entry 138); Gauge counts it among the port's uncorrectable errors (R516, log entry 170). -/
def State.aerError (s : State) (f : FnId) (bit : Nat) : State :=
  let x := s.fn f
  let t := s.setFn f { x with aerStatus := x.aerStatus ||| BitVec.ofNat 32 (2 ^ bit), aerHeader := if x.aerStatus = 0 then Config.freeBytes s.freeCtr 16 else x.aerHeader }
  ({ t with freeCtr := s.freeCtr + 1, out := s.out ++ [.aer f.port] } : State).gauLink f.port 1

/-- Write an event entry (R518): stamps, the next SEQ and the next SOURCE_SEQ of its source; the oldest of 8,192 entries
leaves. At most 1,000 entries of KIND 3 per second are logged, further ones count in MISC index 9. -/
def State.gaugeLog (s : State) (kind source time : Nat) (detail : Bytes) : State :=
  let sec := s.now / 1000000000
  let n3 := if s.gau.kind3.1 = sec then s.gau.kind3.2 else 0
  if kind = 3 && n3 ≥ 1000 then s.gauMisc 9
  else
    let g := s.gau
    let seq := g.eventSeq + 1
    let ss := tabGet g.srcSeqs source 0 + 1
    let ev : GaugeEvent := { seq := seq, hours := g.acc.hours, cycles := g.acc.cycles, era := s.tbs.era, kind := kind,
                             source := source, time := time, srcSeq := ss, detail := padTo 32 detail }
    { s with gau := { g with
        events := (ev :: g.events).take 8192
        eventSeq := seq
        srcSeqs := tabSet g.srcSeqs source ss
        kind3 := if kind = 3 then (sec, n3 + 1) else g.kind3 } }

/-! ## Free values -/

/-- Take the next free value. -/
def State.freeBits (s : State) (w : Nat) : BitVec w × State :=
  (Config.freeValue w s.freeCtr, { s with freeCtr := s.freeCtr + 1 })

/-- Take the next free byte string. -/
def State.freeBytes (s : State) (len : Nat) : Bytes × State :=
  (Config.freeBytes s.freeCtr len, { s with freeCtr := s.freeCtr + 1 })

/-- Take the next free choice. -/
def State.freeBool (s : State) : Bool × State :=
  (Config.freeBool s.freeCtr, { s with freeCtr := s.freeCtr + 1 })

/-! ## Device state -/

/-- OP_STATE as R105 codes it. -/
def OpState.code : OpState → Nat
  | .booting => 0
  | .serving => 1
  | .maintenance => 2
  | .sealed => 3
  | .restoreOnly => 4
  | .halted => 5

/-- The device state that admission sees: SEALED from the instant of a Seal on (R503 step 2). -/
def State.gateOp (s : State) : OpState := if s.gro.sealAt.isSome then .sealed else s.fnt.op

/-- The pins that follow OP_STATE: ST_OK (R566) and ST_ALARM (R503, R505). -/
def State.pins (s : State) : State :=
  let o := s.gateOp
  { s with gro := { s.gro with
      ok := o == .serving || o == .maintenance
      alarm := o == .sealed || o == .restoreOnly || o == .halted } }

/-- The basin is serving: neither off, spare, parked, retired nor out for a reset or a test (R58, R195). -/
def Basin.serving (b : Basin) : Bool := b.st == .serving

/-- A lockable register may be written: before Layout lock, or in MAINTENANCE (R7, R10). -/
def State.lockable (s : State) : Bool := !s.lay.lock || s.fnt.op == .maintenance

/-- The numbers of the basins. -/
def basinNums : List Nat := [0, 1, 2, 3, 4, 5, 6, 7]

end Sys2Proof.Machine
end

