-- ==== Sys2Proof/Machine/GaugeOps.lean ====
section
/-! DEFINITION. Gauge's shared operations (23): samples, extremes, consumed life, and the byte forms of its blocks and entries. -/

namespace Sys2Proof.Machine

/-- Life-cycle code of the OTP word (R476). -/
def lifeCode (w : BitVec 64) : Nat :=
  if w = 0 then 0 else if w = 0xFF then 1 else if w = 0xFFFF then 2 else if w = 0xFFFFFF then 3 else if w = 0xFFFFFFFF then 4
  else if w = BitVec.allOnes 64 then 5 else 0xF

/-- Change the accumulators. -/
def State.gauAcc (s : State) (g : GaugeAcc → GaugeAcc) : State := { s with gau := { s.gau with acc := g s.gau.acc } }

/-- Replace an extreme by a value strictly beyond it (R516); `high` when larger values are beyond. -/
def State.extreme (s : State) (i : Nat) (high : Bool) (v : Int) : State :=
  let put : State := s.gauAcc (fun a => { a with extremes := tabSet a.extremes i (v, a.hours, a.cycles) })
  match tabFind s.gau.acc.extremes i with
  | none => put
  | some x => if (if high then decide (x.1 < v) else decide (v < x.1)) then put else s

/-- Bin of a value: `lo` is the start, `w` the width, `n` the number of bins; what lies outside goes to the end bins. -/
def binOf (v lo w : Int) (n : Nat) : Nat := if v < lo then 0 else min (n - 1) ((v - lo) / w).toNat

/-- AF(T_i) of R519 for bins 0 to 31, in units of 10^-24, rounded down. -/
def lifeFactors : List Nat :=
  [4089855524789479243, 8370819608208918957, 16640457680876943478, 32185303777545135230,
   60665744194986815925, 111600959990125861973, 200644460552964705933, 352999061600423107785,
   608442131525748184356, 1028584735379366456622, 1707176197093787380988, 2784492552116175454600,
   4467116857583985061453, 7054734140476647925220, 10975925753374875098840, 16835357823501841628455]
  ++ [25475215808936103658294, 38054240016370801788612, 56148261929123365864500, 81876723502904206688998,
   118060274920180192115272, 168415182993776879454563, 237790933582046654337240, 332458067065668396017110,
   460453935335135775448720, 631994700435349878460817, 859962497249048135626631, 1160477243537037653576483,
   1553563088648713040646975, 2063919936089323615415109, 2721810844407941512345617, 5273106574296633295367880]

/-- LIFE_PPM (R519), rounded down (log entry 27). -/
def lifePpm (hist : Tab Nat) : Nat :=
  ((lifeFactors.zipIdx).map (fun p => p.1 * tabGet hist p.2 0)).sum * 1000000 / (788940000 * 10 ^ 24)

/-- Close a record with its CRC-32. -/
def withCrc (n : Nat) (bs : Bytes) : Bytes :=
  let b := padTo (n - 4) bs
  b ++ natLe 4 (Config.crc32 b)

/-- `n` 32-bit entries of a keyed list. -/
def words (t : Tab Nat) (n : Nat) : Bytes := ((List.range n).map (fun i => natLe 4 (tabGet t i 0))).flatten

/-- The LINK field of a port (R516). -/
def linkBytes (t : Tab Nat) (p : Nat) : Bytes :=
  ((List.range 4).map (fun i => natLe 4 (tabGet t (12 * p + i) 0))).flatten ++ ((List.range 8).map (fun i => natLe 2 (min 65535 (tabGet t (12 * p + 4 + i) 0)))).flatten

/-- The 4 KiB accumulator block (R516). -/
def accBytes (a : GaugeAcc) : Bytes :=
  withCrc 4096 (natLe 4 0x4147584F ++ natLe 4 a.commitSeq ++ natLe 4 a.hours ++ natLe 4 a.cycles ++ natLe 4 a.seconds ++ natLe 4 a.lifePpm
    ++ natLe 8 0 ++ words a.tempHist 32 ++ words a.vcoreHist 16 ++ words a.paceHist 16 ++ linkBytes a.link 0 ++ linkBytes a.link 1
    ++ words a.tamper 16 ++ words a.faults 16 ++ words a.refusals 8 ++ natLe 32 0 ++ words a.misc 16
    ++ ((List.range 8).map (fun i =>
        let x := tabGet a.extremes i (0, 0, 0)
        natLe 4 (bitsOfInt 32 x.1) ++ natLe 4 x.2.1 ++ natLe 4 x.2.2 ++ natLe 4 0)).flatten)

/-- A 64-byte event entry (R518). -/
def eventBytes (e : GaugeEvent) : Bytes :=
  withCrc 64 (natLe 4 e.seq ++ natLe 4 e.hours ++ natLe 4 e.cycles ++ natLe 2 e.era ++ natLe 1 e.kind ++ natLe 1 e.source ++ natLe 8 e.time
    ++ natLe 4 e.srcSeq ++ padTo 32 e.detail)

/-- A 64-byte summary entry (R517). -/
def summaryBytes (e : GaugeSummary) : Bytes :=
  withCrc 64 (natLe 4 e.seq ++ natLe 4 e.hours ++ natLe 4 e.cycles ++ natLe 2 (bitsOfInt 16 e.tLow) ++ natLe 2 (bitsOfInt 16 e.tHigh)
    ++ natLe 2 (bitsOfInt 16 e.tMean) ++ natLe 2 e.vLow ++ natLe 2 e.vHigh ++ natLe 2 e.slowest ++ natLe 4 e.faults ++ natLe 4 e.refusals
    ++ natLe 4 e.late ++ natLe 4 e.linkErrors ++ natLe 4 e.tampers ++ natLe 4 e.lifePpm)

/-- The 32-byte record for the passport (R522). -/
def gaugeRecord (s : State) : Bytes :=
  let a := s.gau.acc
  padTo 32 (natLe 4 a.hours ++ natLe 4 a.cycles ++ natLe 4 a.lifePpm ++ natLe 2 s.gro.sticky.toNat
    ++ natLe 2 (bitsOfInt 16 (tabGet a.extremes 0 (0, 0, 0)).1) ++ natLe 2 (bitsOfInt 16 (tabGet a.extremes 6 (0, 0, 0)).1) ++ natLe 4 s.gau.eventSeq)

/-- Commit the accumulators to the older copy (R515). -/
def State.gauCommit (s : State) : State :=
  let a := { s.gau.acc with commitSeq := (s.gau.acc.commitSeq + 1) % 2 ^ 32 }
  { s with gau := { s.gau with acc := a, copies := tabSet s.gau.copies (a.commitSeq % 2) a, commitAt := s.now } }

end Sys2Proof.Machine
end

