-- ==== Sys2Proof/Machine/PassportOps.lean ====
section
/-! DEFINITION. The wire side of the passport (R549 to R556): staging, the CONDITION and IDENTITY records, and the changes of
OP_STATE that write CONDITION. Staged targets 64 and 65 are PW0 and PW1, 66 the stored view mask. -/

namespace Sys2Proof.Machine

/-- Blocks a wire write takes. -/
def wireBlocks (rec_ : Nat) (content : Bytes) : Nat :=
  if 16 ≤ rec_ && rec_ ≤ 31 then 32 else max 1 (ceilDiv content.length 16)

/-- Records that a newer staged content replaces before they commit (R522, R556): CONDITION, IDENTITY and the mask. -/
def replaces (rec_ : Nat) : Bool := rec_ ≤ 1 || rec_ == 66

/-- The blocks of a wire write as staged at an instant. -/
def stagedBlocks (rec_ : Nat) (content : Bytes) (t : Nat) : List (Nat × Bool × Bool × Bytes × Nat) :=
  let n := wireBlocks rec_ content
  (List.range n).map (fun i => (rec_, i == 0, i + 1 == n, content, t))

/-- Staged blocks that a new write of a record leaves. -/
def stagedKept (s : State) (rec_ : Nat) : List (Nat × Bool × Bool × Bytes × Nat) :=
  if replaces rec_ then s.psp.staged.filter (fun x => x.1 != rec_) else s.psp.staged

/-- The staging buffer has room for a write (R556: 64 blocks). -/
def stageFits (s : State) (rec_ : Nat) (content : Bytes) : Bool :=
  decide ((stagedKept s rec_).length + wireBlocks rec_ content ≤ 64)

/-- A wire write (R555, R556): staged, or answered BUSY while the field owns the FRAM or the buffer has no room. -/
def State.stageWire (s : State) (rec_ : Nat) (content : Bytes) : State :=
  let waits := if replaces rec_ then s.psp.busy.filter (fun x => x.1 != rec_) else s.psp.busy
  if s.psp.fieldBusy || !stageFits s rec_ content then
    { s with psp := { s.psp with busy := waits ++ [(rec_, content, s.now + 100000)] } }
  else { s with psp := { s.psp with busy := waits, staged := stagedKept s rec_ ++ stagedBlocks rec_ content s.now } }

/-- The CONDITION record (R549). -/
def conditionBytes (s : State) : Bytes :=
  padTo 64 (gaugeRecord s ++ natLe 1 (lifeCode s.fnt.lifeWord) ++ natLe 1 s.fnt.op.code ++ natLe 2 s.tbs.era ++ natLe 4 0
    ++ natLe 8 (match s.lay.active with | some l => l.serial | none => 0) ++ natLe 8 s.now)

/-- Write CONDITION. -/
def State.writeCondition (s : State) : State := s.stageWire 1 (conditionBytes s)

/-- OP_STATE changes: the pins follow and CONDITION is written (R481, R549, R566). -/
def State.setOp (s : State) (o : OpState) : State :=
  if s.fnt.op = o then s.pins else (({ s with fnt := { s.fnt with op := o } }).pins).writeCondition

/-- A management command's staged blocks and their marks are dropped with it. -/
def State.dropStaged (s : State) : State :=
  { s with psp := { s.psp with staged := s.psp.staged.filter (fun x => replaces x.1), updating := s.psp.updating.filter replaces
                               busy := s.psp.busy.filter (fun x => replaces x.1) } }

end Sys2Proof.Machine
end

