-- ==== Sys2Proof/Machine/Commands.lean ====
section
/-! DEFINITION. Shared operations over commands: completions and their 32 bytes (R136), refusals and their order (R141),
tag windows and duplicates (R143 to R145), and delivery of output (R19, R114). -/

namespace Sys2Proof.Machine

/-! ## Completions (R136) -/

/-- The 32 bytes of a completion entry, with the slot, PHASE and DUPLICATE of its posting. -/
def completionBytes (c : Completion) (phase : Bool) : Bytes :=
  padTo 12 c.result
    ++ natLe 6 c.retire
    ++ natLe 2 c.status
    ++ natLe 1 (bitNat c.late + 2 * bitNat c.replayed + 4 * bitNat c.yielded + 8 * bitNat c.duplicate)
    ++ natLe 1 ((match c.basin with | some b => b % 8 + 8 | none => 0) + 128 * bitNat phase)
    ++ natLe 2 c.epoch
    ++ natLe 2 c.slot
    ++ natLe 2 c.tag.toNat
    ++ natLe 2 (shortTime c.queueWait)
    ++ natLe 2 (shortTime c.service)

/-- Status class of a status (R136). -/
def statusClass (st : Nat) : Nat := st / 256

/-- The tag leaves the window when a completion of this class is posted (R143): REFUSED_CAPACITY, REFUSED_STATE, MALFORMED,
ENTROPY. -/
def freesTag (st : Nat) : Bool := [1, 2, 4, 5].contains (statusClass st)

/-- Count a completion: LATE (SLU_LATE, MISC index 0), its status class in REFUSALS (R516), and FAULT_UNRECOVERED in
BSN_EXHAUSTED and BSN_EVENT.EXHAUSTED (09). -/
def State.noteCompletion (s : State) (c : Completion) : State :=
  let s1 := if c.late then ({ s with slu := { s.slu with late := s.slu.late + 1 } }).gauMisc 0 else s
  let k := statusClass c.status
  let s2 := if 1 ≤ k && k ≤ 8 then
      { s1 with gau := { s1.gau with acc := { s1.gau.acc with refusals := tabAdd s1.gau.acc.refusals (k - 1) 1 } } }
    else s1
  if statusClass c.status = 6 then
    (({ s2 with bsn := { s2.bsn with exhausted := s2.bsn.exhausted + 1 } }).gauFault 14).bsnEvent 1
  else s2

/-- The completion of a command refused at admission (R167): the epoch is that of the refusal (log entry 14). -/
def refusal (s : State) (slot : Nat) (desc : Bytes) (start status : Nat) : Completion :=
  { status := status, epoch := s.lay.epoch, slot := slot, tag := tagOf desc, queueWait := s.now - start }

/-- The completion of a command abandoned while held (R134, R167): it starts at the cancellation, with what steps of the counter added to
its deadline (R78). -/
def abandonment (s : State) (slot : Nat) (desc : Bytes) (dlAdd : Nat) : Completion :=
  { status := 0x0704, epoch := s.lay.epoch, slot := slot, tag := tagOf desc, abandonedFrom := some s.now
    deadlineAt := if deadlineOf desc = 0 then 0 else s.now + deadlineOf desc + dlAdd }

/-- A completion as it retires at an instant. -/
def Completion.retireAt (c : Completion) (t : Nat) : Completion :=
  match c.abandonedFrom with
  | none => { c with retire := t }
  | some a => { c with retire := t, queueWait := t - a, late := c.deadlineAt != 0 && decide (c.deadlineAt < t) }

/-! ## The tag window (R143) -/

/-- The state of a tag in a window. -/
def windowFind (w : List (BitVec 64 × TagState)) (t : BitVec 64) : Option TagState :=
  match w with
  | [] => none
  | (k, st) :: r => if k = t then some st else windowFind r t

/-- A tag enters for the command of a submission slot; the oldest of 4,096 leaves. -/
def windowEnter (w : List (BitVec 64 × TagState)) (t : BitVec 64) (slot : Nat) : List (BitVec 64 × TagState) := ((t, .live slot) :: w).take 4096

/-- The tag's entry in the window is still that of the command that entered it from a slot, not of a newer command with the same tag. -/
def windowOwn (w : List (BitVec 64 × TagState)) (t : BitVec 64) (slot : Nat) : Bool :=
  match windowFind w t with | some (.live n) => n == slot | _ => false

/-- Change the state of a tag. -/
def windowSet (w : List (BitVec 64 × TagState)) (t : BitVec 64) (st : TagState) : List (BitVec 64 × TagState) :=
  w.map (fun p => if p.1 = t then (t, st) else p)

/-- A tag leaves. -/
def windowDrop (w : List (BitVec 64 × TagState)) (t : BitVec 64) : List (BitVec 64 × TagState) := w.filter (fun p => p.1 != t)

/-- The window after a command's own completion is posted or kept (R143, R144): the tag leaves by its status class, else
the completion is retained until `till`. -/
def windowPosted (w : List (BitVec 64 × TagState)) (c : Completion) (till : Nat) : List (BitVec 64 × TagState) :=
  if !c.windowed || !windowOwn w c.tag c.slot then w
  else if freesTag c.status then windowDrop w c.tag
  else windowSet w c.tag (.retained c till)

/-- The retention of R144 in ns. -/
def retentionNs : Nat := 250000000

/-- A copy of a completion for the slot of a duplicate (R145). -/
def dupCopy (c : Completion) (slot : Nat) : Completion := { c with slot := slot, duplicate := true, windowed := false, waitsFor := [] }

/-- What a descriptor becomes whose tag is in the window (R145): the copy of a completion that is retained or not yet posted, a duplicate
that waits for the earlier command to retire, or DUPLICATE_EXPIRED. -/
def dupItem (s : State) (x : Queue) (slot : Nat) (desc : Bytes) (start : Nat) : TagState → QItem
  | .retained c _ => .copy (dupCopy c slot)
  | .expired => .refused (refusal s slot desc start 0x0240)
  | .live own =>
    match x.toPost.find? (fun c => c.windowed && c.tag == tagOf desc && c.slot == own) with
    | some c => .copy (dupCopy c slot)
    | none => .dup slot (tagOf desc) own

/-- The duplicates that wait for a command are answered by its completion as it retires (R145). -/
def answerDups (l : List QItem) (c : Completion) : List QItem :=
  if !c.windowed then l
  else l.map (fun it => match it with | .dup slot tag own => if tag = c.tag && own = c.slot then .copy (dupCopy c slot) else it | _ => it)

/-- A waiting duplicate that goes back into its queue's order (R133, R145): a copy where its command has retired meanwhile. -/
def dupAgain (x : Queue) (slot : Nat) (tag : BitVec 64) (own : Nat) : QItem :=
  match x.toPost.find? (fun c => c.windowed && c.tag == tag && c.slot == own) with
  | some c => .copy (dupCopy c slot)
  | none =>
    match windowFind x.window tag with
    | some (.retained c _) => if c.slot = own then .copy (dupCopy c slot) else .dup slot tag own
    | _ => .dup slot tag own

/-! ## Retirement order of a queue (R141) -/

/-- Retire the refused, abandoned and duplicate items at the front of a queue's order, up to the next command or held
command. `n` bounds the items looked at. -/
def State.drainOrder (f : FnId) (q : Nat) : Nat → State → State
  | 0, s => s
  | n + 1, s =>
    let x := s.queue f q
    match x.order with
    | .refused c :: r =>
      let c1 := c.retireAt s.now
      State.drainOrder f q n
        ((s.setQueue f q { x with order := answerDups r c1, toPost := x.toPost ++ [c1], lastRetire := s.now }).noteCompletion c1)
    | .copy c :: r => State.drainOrder f q n (s.setQueue f q { x with order := r, toPost := x.toPost ++ [c] })
    | .dup slot tag _ :: r =>
      -- its command left without a completion
      State.drainOrder f q n (s.setQueue f q { x with order := r, toPost := x.toPost ++ [{ status := 0x0240, epoch := s.lay.epoch, slot := slot, tag := tag, retire := s.now }] })
    | _ => s

/-- Retire what can retire at the front of a queue's order; a completion that a function in D3hot cannot report wakes the host (R566). -/
def State.drain (s : State) (f : FnId) (q : Nat) : State :=
  let t := s.drainOrder f q (s.queue f q).order.length
  if (t.queue f q).toPost.isEmpty then t else t.wakeFor f

/-- Append an item to a queue's order and retire what can retire. -/
def State.enqueue (s : State) (f : FnId) (q : Nat) (it : QItem) : State :=
  let x := s.queue f q
  (s.setQueue f q { x with order := x.order ++ [it] }).drain f q

/-- Refuse a descriptor at admission. -/
def State.refuse (s : State) (f : FnId) (q slot : Nat) (desc : Bytes) (start status : Nat) : State :=
  s.enqueue f q (.refused (refusal s slot desc start status))

/-! ## Output (R19, R114, R568) -/

/-- A queue's writes and messages are held while it is detached or its function is in D3hot. -/
def State.holds (s : State) (f : FnId) (q : Nat) : Bool := (s.queue f q).detached || (s.fn f).d3hot

/-- Issue a host write of a command, or hold it with the command's tags. -/
def State.deliver (s : State) (c : Cmd) (o : Out) : State :=
  if s.holds c.fn c.q then
    let x := s.queue c.fn c.q
    s.setQueue c.fn c.q { x with heldOut := x.heldOut ++ [{ epoch := c.epoch, seq := c.seq, out := o }] }
  else s.emit o

/-- The parts of `bytes` that fall into the extents of a buffer, with their addresses. -/
def scatter : List (Nat × Nat) → Bytes → List (Nat × Bytes)
  | [], _ => []
  | (a, n) :: r, bs => if bs.isEmpty then [] else (a, bs.take n) :: scatter r (bs.drop n)

/-- The extents of a command's output buffer: the list when OUT_SGL, else the one buffer (R130). -/
def outExtents (c : Cmd) : List (Nat × Nat) :=
  if outSgl c.desc then (sglEntries 4096 c.outList).getD [] else [(outAddrOf c.desc, outLenOf c.desc)]

/-! ## Entries -/

/-- The command of an entry, if its instance number matches (R181). -/
def State.live (s : State) (e : Nat) (inst : Nat) : Option Cmd :=
  match s.cmd e with
  | some c => if c.inst.toNat = inst % 256 then some c else none
  | none => none

/-- A generation is that of the basin a command runs on (R24, R200). -/
def State.fromBasin (s : State) (c : Cmd) (gen : Nat) : Bool :=
  match c.basin with | some b => gen == (s.basin b).generation | none => true

/-- The entry an admitted command takes: the lowest free one of the 16,384 (R16). The spec does not say which free entry is taken (DESIGN
CHOICE, log entry 129). -/
def State.freeEntry (s : State) : Option Nat :=
  if s.slu.retire.length < 16384 then (List.range (s.slu.retire.length + 1)).find? (fun e => !tabHas s.slu.retire e) else none

/-- Deadline instant of a command, 0 for none (R129). -/
def Cmd.deadlineAt (c : Cmd) : Nat := if deadlineOf c.desc = 0 then 0 else c.start + deadlineOf c.desc + c.dlAdd

/-- The command uses a basin: all but queue control and PF0's management commands (R153). -/
def Cmd.usesBasin (c : Cmd) : Bool := !(isQueueControl (opcodeOf c.desc) || (isMgmt (opcodeOf c.desc) && isPf0 c.fn))

/-- The verdict denied a command that had been dispatched: the row "Denied at verdict" of R167. -/
def Cmd.denied (c : Cmd) : Bool :=
  c.usesBasin && c.dispatchedAt.isSome && (match c.verdict with | .deny st => statusClass st == 2 || statusClass st == 3 | _ => false)

/-- A command's completion as it retires now with its status: the row of R167 decides its flags. -/
def Cmd.completion (c : Cmd) (t status epoch : Nat) (result : Bytes) : Completion :=
  { result := result, retire := t, status := status
    late := c.deadlineAt != 0 && decide (c.deadlineAt < t) && !c.denied
    replayed := c.replayed && c.dispatchedAt.isSome
    yielded := c.yielded && c.dispatchedAt.isSome && !c.denied
    basin := if c.usesBasin then (if c.dispatchedAt.isSome then c.basin else none) else none
    epoch := epoch, slot := c.slot, tag := tagOf c.desc
    queueWait := (if c.usesBasin then c.dispatchedAt.getD t else c.execStart.getD t) - c.start
    service := if c.usesBasin then (match c.dispatchedAt with | some d => t - d | none => 0)
               else (match c.execStart with | some d => t - d | none => 0)
    windowed := true }

end Sys2Proof.Machine
end

