-- ==== Sys2Proof/Machine/Modes.lean ====
section
/-! DEFINITION. The cipher modes of the jets (10) over the block ciphers: CTR, GCM with its GHASH by stripes (R227, R228), CCM (R229),
XTS (R230), CBC and CMAC. -/

namespace Sys2Proof.Machine

/-- A block of AES encryption, 16 bytes. -/
def aesBlock (key blk : Bytes) : Bytes := padTo 16 (Config.aesEnc key blk)

/-- A block of AES decryption, 16 bytes. -/
def aesUnblock (key blk : Bytes) : Bytes := padTo 16 (Config.aesDec key blk)

/-- A byte string in pieces of n bytes, the last one perhaps shorter. -/
def blocksOf (n : Nat) (bs : Bytes) : List Bytes := (List.range (ceilDiv bs.length n)).map (fun i => slice bs (n * i) n)

/-- A block zero-padded to 16 bytes as a field element: bit 127 is the coefficient of x^0 (SP 800-38D). -/
def gfOf (blk : Bytes) : BitVec 128 := BitVec.ofNat 128 (beNat (padTo 16 blk))

/-- A field element as 16 bytes. -/
def gfBytes (x : BitVec 128) : Bytes := natBe 16 x.toNat

/-- The jet's GF(2^128) multiplier (R228). -/
def ghMul (x y : BitVec 128) : BitVec 128 :=
  ((List.range 128).foldl (fun (a : BitVec 128 × BitVec 128) i =>
    (if x.getLsbD (127 - i) then a.1 ^^^ a.2 else a.1,
     if a.2.getLsbD 0 then (a.2 >>> 1) ^^^ (0xE1#128 <<< 120) else a.2 >>> 1)) (0#128, y)).1

/-- A power of the hash subkey. -/
def ghPow (h : BitVec 128) : Nat → BitVec 128
  | 0 => 1#128 <<< 127
  | n + 1 => ghMul (ghPow h n) h

/-- Y = (Y ⊕ C)·H for each block C (R228 step 1). -/
def horner (h : BitVec 128) (blks : List Bytes) : BitVec 128 := blks.foldl (fun y c => ghMul (y ^^^ gfOf c) h) 0#128

/-- The counter block of a 12-byte nonce (R227): J0 for n = 1, payload block i for n = 2 + i. -/
def ctrBlock (nonce : Bytes) (n : Nat) : Bytes := padTo 12 nonce ++ natBe 4 n

/-- CTR over a byte string from a counter value on (R227). -/
def ctrFrom (key nonce : Bytes) (n : Nat) (bs : Bytes) : Bytes :=
  ((blocksOf 16 bs).zipIdx.map (fun p => xorBytes p.1 (aesBlock key (ctrBlock nonce (n + p.2))))).flatten

/-- A stripe of payload (R225). -/
def gcmStripe : Nat := 4096

/-- GHASH over a payload's ciphertext, combined from the stripes' partials (R228 steps 1 to 4). -/
def ghash (h : BitVec 128) (aad ct : Bytes) : BitVec 128 :=
  let p := ceilDiv ct.length 16
  let fold := (blocksOf gcmStripe ct).zipIdx.foldl (fun x sp =>
    let after := p - min p (gcmStripe / 16 * (sp.2 + 1))
    x ^^^ ghMul (horner h (blocksOf 16 sp.1)) (ghPow h after)) (ghMul (horner h (blocksOf 16 aad)) (ghPow h p))
  ghMul (fold ^^^ gfOf (natBe 8 (8 * aad.length) ++ natBe 8 (8 * ct.length))) h

/-- The 128-bit tag E_K(J0) ⊕ GHASH (R228 step 4). -/
def gcmTag (key nonce aad ct : Bytes) : Bytes :=
  xorBytes (aesBlock key (ctrBlock nonce 1)) (gfBytes (ghash (gfOf (aesBlock key (List.replicate 16 0))) aad ct))

/-- GCM under a 12-byte nonce: ciphertext and 16-byte tag (R227, R228). -/
def gcmSeal (key nonce aad pt : Bytes) : Bytes × Bytes :=
  let ct := ctrFrom key nonce 2 pt
  (ct, gcmTag key nonce aad ct)

/-- GCM decryption against a tag of 16 bytes or its leftmost bytes: none when it differs. -/
def gcmOpen (key nonce aad ct tag : Bytes) : Option Bytes :=
  if (gcmTag key nonce aad ct).take tag.length == tag then some (ctrFrom key nonce 2 ct) else none

/-- CBC-MAC from a zero value over 16-byte blocks. -/
def cbcMac (key : Bytes) (blks : List Bytes) : Bytes :=
  blks.foldl (fun y x => aesBlock key (xorBytes y (padTo 16 x))) (List.replicate 16 0)

/-- B0, the encoded additional data and the payload of CCM with q = 3 (R229). -/
def ccmBlocks (nonce aad pt : Bytes) (t : Nat) : List Bytes :=
  let flags := BitVec.ofNat 8 (64 * bitNat (!aad.isEmpty) + 8 * ((t - 2) / 2) + 2)
  ([flags] ++ padTo 12 nonce ++ natBe 3 pt.length)
    :: ((if aad.isEmpty then [] else blocksOf 16 (natBe 2 aad.length ++ aad)) ++ blocksOf 16 pt)

/-- A_i of CCM. -/
def ccmCtr (nonce : Bytes) (i : Nat) : Bytes := [2] ++ padTo 12 nonce ++ natBe 3 i

/-- The CTR jet of CCM, from A1 on. -/
def ccmCrypt (key nonce bs : Bytes) : Bytes :=
  ((blocksOf 16 bs).zipIdx.map (fun p => xorBytes p.1 (aesBlock key (ccmCtr nonce (1 + p.2))))).flatten

/-- The t-byte tag of CCM: the CBC-MAC under E_K(A0). -/
def ccmTag (key nonce aad pt : Bytes) (t : Nat) : Bytes :=
  (xorBytes (cbcMac key (ccmBlocks nonce aad pt t)) (aesBlock key (ccmCtr nonce 0))).take t

/-- CCM: ciphertext and t-byte tag (R229). -/
def ccmSeal (key nonce aad pt : Bytes) (t : Nat) : Bytes × Bytes := (ccmCrypt key nonce pt, ccmTag key nonce aad pt t)

/-- CCM decryption: none when the tag differs. -/
def ccmOpen (key nonce aad ct tag : Bytes) : Option Bytes :=
  let pt := ccmCrypt key nonce ct
  if ccmTag key nonce aad pt tag.length == tag then some pt else none

/-- One step of an XTS tweak: multiplication by α, little-endian (R230). -/
def xtsNext (t : Nat) : Nat := (2 * t % 2 ^ 128) ^^^ (if t / 2 ^ 127 % 2 = 1 then 0x87 else 0)

/-- The tweak of block j of a data unit. -/
def xtsTweak (t0 : Nat) : Nat → Nat
  | 0 => t0
  | n + 1 => xtsNext (xtsTweak t0 n)

/-- One block under a tweak value. -/
def xtsBlock (key : Bytes) (enc : Bool) (t : Nat) (blk : Bytes) : Bytes :=
  let m := natLe 16 t
  xorBytes ((if enc then aesBlock else aesUnblock) key (xorBytes blk m)) m

/-- One data unit of at least 16 bytes under XTS, its tweak block enciphered under the second key; a partial final block by ciphertext
stealing (R230, IEEE 1619). -/
def xtsUnit (key1 key2 tweak bs : Bytes) (enc : Bool) : Bytes :=
  let t (j : Nat) : Nat := xtsTweak (leNat (aesBlock key2 tweak)) j
  let m := bs.length / 16
  let r := bs.length % 16
  let whole (n : Nat) : Bytes := ((List.range n).map (fun j => xtsBlock key1 enc (t j) (slice bs (16 * j) 16))).flatten
  if r = 0 then whole m
  else
    let last := slice bs (16 * (m - 1)) 16
    let part := bs.drop (16 * m)
    let c := xtsBlock key1 enc (if enc then t (m - 1) else t m) last
    whole (m - 1) ++ xtsBlock key1 enc (if enc then t m else t (m - 1)) (part ++ c.drop r) ++ c.take r

/-- CBC encryption in blocks of n bytes. -/
def cbcEnc (enc : Bytes → Bytes) (n : Nat) (iv bs : Bytes) : Bytes :=
  ((blocksOf n bs).foldl (fun (a : Bytes × Bytes) x => let y := padTo n (enc (xorBytes a.2 x)); (a.1 ++ y, y)) ([], padTo n iv)).1

/-- CBC decryption in blocks of n bytes. -/
def cbcDec (dec : Bytes → Bytes) (n : Nat) (iv bs : Bytes) : Bytes :=
  ((blocksOf n bs).foldl (fun (a : Bytes × Bytes) x => (a.1 ++ xorBytes (padTo n (dec x)) a.2, x)) ([], padTo n iv)).1

/-- The doubling of a CMAC subkey of n bytes (SP 800-38B). -/
def cmacDouble (n : Nat) (k : Bytes) : Bytes :=
  let v := beNat k
  natBe n ((2 * v % 2 ^ (8 * n)) ^^^ (if v / 2 ^ (8 * n - 1) % 2 = 1 then (if n = 16 then 0x87 else 0x1B) else 0))

/-- CMAC over a block cipher of n bytes (SP 800-38B). -/
def cmacWith (enc : Bytes → Bytes) (n : Nat) (msg : Bytes) : Bytes :=
  let e (b : Bytes) : Bytes := padTo n (enc b)
  let k1 := cmacDouble n (e (List.replicate n 0))
  let m := max 1 (ceilDiv msg.length n)
  let last := msg.drop (n * (m - 1))
  let fin := if last.length = n then xorBytes last k1 else xorBytes (padTo n (last ++ [0x80])) (cmacDouble n k1)
  let y := (blocksOf n (msg.take (n * (m - 1)))).foldl (fun y x => e (xorBytes y x)) (List.replicate n 0)
  e (xorBytes y fin)

/-- CMAC under AES, 16 bytes. -/
def aesCmac (key msg : Bytes) : Bytes := cmacWith (Config.aesEnc key) 16 msg

/-- CMAC under TDES, 8 bytes. -/
def tdesCmac (key msg : Bytes) : Bytes := cmacWith (Config.tdesEnc key) 8 msg

end Sys2Proof.Machine
end

