-- ==== Sys2Proof/Machine/VaultMem.lean ====
section
/-! DEFINITION. The vault's protected memory (13): where the key units lie (R301), the line keys (R305), versions, encryption and MAC of a line
(R306, R307), the integrity tree with its on-die root (R308), reads and writes through it, and the re-wrap (R314). -/

namespace Sys2Proof.Machine

/-! ## Placement (R301) -/

/-- The die pair of a key unit (R301). -/
def diePair (k : Nat) : Nat × Nat :=
  let m := k % 6
  if m = 0 then (0, 1) else if m = 1 then (2, 3) else if m = 2 then (0, 2) else if m = 3 then (1, 3) else if m = 4 then (0, 3) else (1, 2)

/-- A copy of key unit k lies on die d. -/
def onDie (d k : Nat) : Bool := (diePair k).1 == d || (diePair k).2 == d

/-- Copies of key units on a die. -/
def dieCopies (units d : Nat) : Nat := ((List.range units).filter (onDie d)).length

/-- Key units of the active Layout. -/
def State.keyUnits (s : State) : Nat := match s.lay.active with | some l => l.keyUnits | none => 0

/-- Offset of a key-region slot in the data space of a die that holds a copy of its unit: after the completion store, the die's copies in ascending
unit number (R301, R272). -/
def slotOffset (d slot : Nat) : Nat := (96 + 128 * dieCopies (slot / 524288) d) * 1048576 + slot % 524288 * 256

/-- The die and the offset of a fabric address in the vault (R398). -/
def vaultPlace (a : Nat) : Nat × Nat := ((a - 0x400000000) / 2 ^ 32, a % 2 ^ 32)

/-! ## Keys (R282, R305) -/

/-- RWK (R282), from the root half. -/
def State.rwk (s : State) : Bytes := Config.kdf s.fnt.dus (ascii "OX-RWK") (s.gro.rootHalf.getD []) 32

/-- The line keys of a die and generation: Ke, Kt and Km (R305). -/
structure LineKeys where
  ke : Bytes
  kt : Bytes
  km : Bytes

/-- The line keys of die d; the widths of d and g in the context are the model's (log entry 144). -/
def State.lineKeys (s : State) (d g : Nat) : LineKeys :=
  let ctx := natBe 1 d ++ natBe 4 g ++ s.vlt.nb
  { ke := Config.kdf s.rwk (ascii "OX-VLE") ctx 32, kt := Config.kdf s.rwk (ascii "OX-VLT") ctx 32, km := Config.kdf s.rwk (ascii "OX-VLM") ctx 32 }

/-! ## Lines (R306, R307) -/

/-- The version of a line in its counter block. -/
def CounterBlock.version (x : CounterBlock) (line : Nat) : Nat × Nat := (x.major, tabGet x.minors (line % 64) 0)

/-- The 64 bytes of a counter block: the major and sixty-four 7-bit minors; their places in it are the model's (log entry 144). -/
def CounterBlock.bytes (x : CounterBlock) : Bytes :=
  natLe 8 x.major ++ natLe 56 (((List.range 64).map (fun i => tabGet x.minors i 0 * 2 ^ (7 * i))).sum)

/-- The descriptor N of a line (R306). -/
def lineDesc (d line : Nat) (v : Nat × Nat) : Bytes := [1] ++ natBe 1 d ++ natBe 4 line ++ [0] ++ natBe 1 v.2 ++ natBe 8 v.1

/-- Block j of a line under tweak T_j = T_0 · α^j (R306). -/
def lineBlocks (k : LineKeys) (n bs : Bytes) (enc : Bool) : Bytes :=
  let t0 := leNat (aesBlock k.kt n)
  ((List.range 4).map (fun j => xtsBlock k.ke enc (xtsTweak t0 j) (slice bs (16 * j) 16))).flatten

/-- The first 8 bytes of AES-CMAC under Km. -/
def mac8 (k : LineKeys) (msg : Bytes) : Bytes := (aesCmac k.km msg).take 8

/-- A line as it is stored: its ciphertext and its MAC (R306). -/
def sealLine (k : LineKeys) (d line : Nat) (v : Nat × Nat) (pt : Bytes) : VaultLine :=
  let n := lineDesc d line v
  let c := lineBlocks k n pt true
  { cipher := c, mac := mac8 k (n ++ c) }

/-- A line's contents, none where its MAC differs (R306, R308). -/
def openLine (k : LineKeys) (d line : Nat) (v : Nat × Nat) (x : VaultLine) : Option Bytes :=
  let n := lineDesc d line v
  if mac8 k (n ++ x.cipher) == x.mac then some (lineBlocks k n x.cipher false) else none

/-! ## The tree (R308) -/

/-- The content of a counter block (level 0) or node; what unlock wrote as never written is 64 zero bytes (R323, log entry 144). -/
def VaultDie.content (x : VaultDie) (level i : Nat) : Bytes :=
  if level = 0 then (tabGet x.counters i {}).bytes
  else tabGet (if level ≤ 4 then x.nodes else x.root) (level * 2 ^ 20 + i) (List.replicate 64 0)

/-- A node's content changes: levels 1 to 4 on the die, levels 5 to 7 in the metadata cache. -/
def VaultDie.putNode (x : VaultDie) (level i : Nat) (c : Bytes) : VaultDie :=
  if level ≤ 4 then { x with nodes := tabSet x.nodes (level * 2 ^ 20 + i) c } else { x with root := tabSet x.root (level * 2 ^ 20 + i) c }

/-- N′ of a counter block or node. -/
def nodeDesc (d level i : Nat) : Bytes := [2] ++ natBe 1 d ++ natBe 4 i ++ natBe 1 level ++ List.replicate 9 0

/-- The MAC of a counter block or node; eight zero bytes for one never written (log entry 144). -/
def nodeMac (k : LineKeys) (d level i : Nat) (c : Bytes) : Bytes := if allZero c then List.replicate 8 0 else mac8 k (nodeDesc d level i ++ c)

/-- The parent's content holds the MAC of its child. -/
def heldMac (x : VaultDie) (level i : Nat) : Bytes := slice (x.content (level + 1) (i / 8)) (8 * (i % 8)) 8

/-- Every MAC on the path from a level up to the on-die root checks: `n` levels of it. -/
def pathOk (k : LineKeys) (d : Nat) (x : VaultDie) (level i : Nat) : Nat → Bool
  | 0 => true
  | n + 1 => heldMac x level i == nodeMac k d level i (x.content level i) && pathOk k d x (level + 1) (i / 8) n

/-- The path from a level up takes the MACs of its present content. -/
def updatePath (k : LineKeys) (d : Nat) (x : VaultDie) (level i : Nat) : Nat → VaultDie
  | 0 => x
  | n + 1 =>
    let p := x.content (level + 1) (i / 8)
    let m := nodeMac k d level i (x.content level i)
    updatePath k d (x.putNode (level + 1) (i / 8) (p.take (8 * (i % 8)) ++ m ++ p.drop (8 * (i % 8) + 8))) (level + 1) (i / 8) n

/-! ## Reads and writes of one line -/

/-- A read of a line (R307, R308): zeros where it has not been written since unlock, else its contents if its MAC and its path check. -/
def VaultDie.readLine (x : VaultDie) (k : LineKeys) (d line : Nat) : Option Bytes :=
  let blk := line / 64
  let v := (tabGet x.counters blk {}).version line
  if !pathOk k d x 0 blk 5 then none
  else if v = (0, 0) then some (List.replicate 64 0)
  else openLine k d line v (tabGet x.lines line {})

/-- The 64 lines of a counter block whose minors are spent are rewritten under the next major, those never written as zero lines (R307). -/
def VaultDie.renewBlock (x : VaultDie) (k : LineKeys) (d blk : Nat) : VaultDie :=
  let c := tabGet x.counters blk {}
  let c1 : CounterBlock := { major := c.major + 1, minors := [] }
  let lines := (List.range 64).foldl (fun (t : Tab VaultLine) i =>
    let n := 64 * blk + i
    let pt := if c.version n = (0, 0) then List.replicate 64 0 else (openLine k d n (c.version n) (tabGet x.lines n {})).getD (List.replicate 64 0)
    tabSet t n (sealLine k d n (c1.version n) pt)) x.lines
  { x with counters := tabSet x.counters blk c1, lines := lines }

/-- A write of a line: its minor rises, the line is sealed under the new version, and its path is updated (R306 to R308). -/
def VaultDie.writeLine (x : VaultDie) (k : LineKeys) (d line : Nat) (pt : Bytes) : VaultDie :=
  let blk := line / 64
  let c := tabGet x.counters blk {}
  let m := tabGet c.minors (line % 64) 0 + 1
  let y := if m < 128 then { x with counters := tabSet x.counters blk { c with minors := tabSet c.minors (line % 64) m } } else x.renewBlock k d blk
  let z := { y with lines := tabSet y.lines line (sealLine k d line ((tabGet y.counters blk {}).version line) pt) }
  updatePath k d z 0 blk 7

/-! ## Accesses -/

/-- A die of the vault's memory. -/
def State.vdie (s : State) (d : Nat) : VaultDie := tabGet s.vmem.dies d {}

/-- A die changes. -/
def State.setVdie (s : State) (d : Nat) (x : VaultDie) : State := { s with vmem := { s.vmem with dies := tabSet s.vmem.dies d x } }

/-- The counter block and nodes of a line's path below the on-die root. -/
def pathItems (d line : Nat) : List (Nat × Nat × Nat) := (List.range 5).map (fun l => (d, l, line / 64 / 8 ^ l))

/-- Items of 64 bytes that the 4 MiB metadata cache holds beside the 33 pinned nodes of each die (R16, R308). -/
def metaRoom : Nat := 65536 - 4 * 33

/-- The path of a line enters the metadata cache (R16, R309); the least recently used item leaves it (log entry 144). -/
def State.cachePath (s : State) (d line : Nat) : State :=
  let p := pathItems d line
  { s with vmem := { s.vmem with cache := (p ++ s.vmem.cache.filter (fun i => !p.contains i)).take metaRoom } }

/-- The lines that an extent of a die touches. -/
def linesOf (off n : Nat) : List Nat := (List.range (ceilDiv (off % 64 + n) 64)).map (fun i => off / 64 + i)

/-- The vault serves a die: it is unlocked and the die is present. -/
def State.dieServed (s : State) (d : Nat) : Bool := s.vlt.unlocked && (s.die d).present

/-- The bytes of an extent of a served die; none where a MAC of one of its lines or paths fails (R308). -/
def State.vaultRead (s : State) (d off n : Nat) : Option Bytes :=
  let k := s.lineKeys d s.vlt.generation
  let ls := (linesOf off n).map (fun l => (s.vdie d).readLine k d l)
  if ls.all (·.isSome) then some (slice (ls.filterMap id).flatten (off % 64) n) else none

/-- An extent of a served die is written, line by line; a line whose old contents fail their check keeps nothing of them (R310). -/
def State.vaultWrite (s : State) (d off : Nat) (bs : Bytes) : State :=
  let k := s.lineKeys d s.vlt.generation
  (linesOf off bs.length).foldl (fun a l =>
    let old := ((a.vdie d).readLine k d l).getD (List.replicate 64 0)
    let line := (List.range 64).map (fun i =>
      let p := 64 * l + i
      if off ≤ p && p < off + bs.length then bs.getD (p - off) 0 else old.getD i 0)
    (a.setVdie d ((a.vdie d).writeLine k d l line)).cachePath d l) s

/-- The paths of a read extent enter the metadata cache. -/
def State.cachePaths (s : State) (d off n : Nat) : State := (linesOf off n).foldl (fun a l => a.cachePath d l) s

/-- The two copies of key-region slots from one on take their bytes, 256 a slot, on each die that is served (R284, R301, R321). -/
def State.storeSlots (s : State) (slot : Nat) (bodies : List Bytes) : State :=
  bodies.zipIdx.foldl (fun a p =>
    let k := slot + p.2
    let ds := diePair (k / 524288)
    [ds.1, ds.2].foldl (fun b d => if b.dieServed d then b.vaultWrite d (slotOffset d k) (padTo 256 p.1) else b) a) s

/-! ## Re-wrap and loss (R312, R314, R323, R324) -/

/-- Every written line, counter block and node of a die under generation g moves to the keys of generation g + 1, versions unchanged (R314,
log entry 144). -/
def VaultDie.rewrapped (x : VaultDie) (old new : LineKeys) (d : Nat) : VaultDie :=
  let lines := x.lines.map (fun (p : Nat × VaultLine) =>
    let v := (tabGet x.counters (p.1 / 64) {}).version p.1
    (p.1, match openLine old d p.1 v p.2 with | some pt => sealLine new d p.1 v pt | none => p.2))
  x.counters.foldl (fun (a : VaultDie) (p : Nat × CounterBlock) => updatePath new d a 0 p.1 7) { x with lines := lines }

/-- Every present die is re-wrapped to the next generation. -/
def State.rewrapAll (s : State) : State :=
  [0, 1, 2, 3].foldl (fun a d =>
    if a.dieServed d then a.setVdie d ((a.vdie d).rewrapped (a.lineKeys d a.vlt.generation) (a.lineKeys d ((a.vlt.generation + 1) % 2 ^ 32)) d) else a) s

/-- All access to a die stops, and its root is discarded (R312). -/
def State.dropDie (s : State) (d : Nat) : State :=
  { s with vmem := { dies := tabDel s.vmem.dies d, cache := s.vmem.cache.filter (fun i => i.1 != d) } }

end Sys2Proof.Machine
end

