-- ==== Sys2Proof/Machine/Keys.lean ====
section
/-! DEFINITION. Cistern's shared operations (12): handles and their resolution, key records and their slots, classes and
usage, key states, key caches, nonce counters, the mirror's dirty list and the wrapped form of a record. -/

namespace Sys2Proof.Machine

/-! ## Handles (R269, R270) -/

def hIndex (h : BitVec 64) : Nat := bitsAt h.toNat 0 32
def hUse (h : BitVec 64) : Nat := bitsAt h.toNat 32 16
def hPart (h : BitVec 64) : Nat := bitsAt h.toNat 48 5
def hReserved (h : BitVec 64) : Nat := bitsAt h.toNat 53 10
def hSession (h : BitVec 64) : Bool := bitAt h.toNat 63

/-- A handle from its fields. -/
def makeHandle (session : Bool) (part use index : Nat) : BitVec 64 :=
  BitVec.ofNat 64 (index % 2 ^ 32 + use % 2 ^ 16 * 2 ^ 32 + part % 32 * 2 ^ 48 + bitNat session * 2 ^ 63)

/-- Slots of the key region (R273). -/
def State.keySlots (s : State) : Nat := match s.lay.active with | some l => l.keyUnits * 524288 | none => 0

/-- Key-region slots that may be allocated: what a launch added waits until it has drained (R46). -/
def State.allocLimit (s : State) : Nat :=
  if s.lay.draining then min s.keySlots (match s.lay.staged with | some o => o.keyUnits * 524288 | none => 0) else s.keySlots

/-- A partition's persistent range: base and count; empty for PF0 (R271). -/
def State.partRange (s : State) (p : Nat) : Nat × Nat :=
  match s.part? p with | some x => (x.keyBase, x.keySlots) | none => (0, 0)

/-- A slot lies inside some partition's range. -/
def State.inPartRange (s : State) (slot : Nat) : Bool :=
  match s.lay.active with
  | some l => l.partitions.any (fun x => decide (x.keyBase ≤ slot) && decide (slot < x.keyBase + x.keySlots))
  | none => false

/-- A named handle passes its part of the form check (R270). -/
def handleOk (s : State) (h : BitVec 64) : Bool :=
  h == 0 ||
    (hReserved h == 0 && (hPart h == 0 || (s.part? (hPart h)).isSome) &&
      (if hSession h then decide (hIndex h < s.keySlots) else decide (hIndex h < (s.partRange (hPart h)).2)))

/-- The key-region slot a handle names (R269). -/
def keySlot (s : State) (h : BitVec 64) : Nat := if hSession h then hIndex h else (s.partRange (hPart h)).1 + hIndex h

/-- The live record a handle names; none reads as DESTROYED (R270). -/
def State.record (s : State) (h : BitVec 64) : Option Record :=
  if h == 0 || (hSession h && s.inPartRange (hIndex h)) then none
  else
    match tabFind s.cis.records (keySlot s h) with
    | some r => if r.handle = h then some r else none
    | none => none

/-- The state of the key a handle names: 4 when it reads as DESTROYED. -/
def State.keyState (s : State) (h : BitVec 64) : Nat := match s.record h with | some r => r.state | none => 4

/-- REFUSED_STATE status of a key state (R148). -/
def keyStatus (st : Nat) : Nat := if st = 0 then 0x0210 else if st = 2 then 0x0211 else if st = 3 then 0x0212 else 0x0213

/-- Every live record, with its slot. -/
def State.liveRecords (s : State) : List (Nat × Record) := s.cis.records

/-- Slots a record occupies (R272). -/
def Record.slots (r : Record) : Nat := 1 + r.ext

/-! ## Algorithms (R275) -/

def isAes (alg : Nat) : Bool := alg == 1 || alg == 2 || alg == 3
def isTdes (alg : Nat) : Bool := alg == 4 || alg == 5
def isRsa (alg : Nat) : Bool := alg == 0x23 || alg == 0x24 || alg == 0x25
def isEc (alg : Nat) : Bool := alg == 0x20 || alg == 0x21
def algCodes : List Nat := [1, 2, 3, 4, 5, 8, 0x20, 0x21, 0x22, 0x23, 0x24, 0x25, 0x30, 0x31, 0x38]

/-- Cipher block bytes. -/
def blockLen (alg : Nat) : Nat := if isTdes alg then 8 else 16

/-- Jet cycles per block (R220). -/
def cyclesOf (alg : Nat) : Nat := if alg = 1 then 10 else if alg = 2 then 12 else if alg = 3 then 14 else if isTdes alg then 48 else 14

/-- Key bytes of a symmetric algorithm other than HMAC. -/
def symLen (alg : Nat) : Nat :=
  if alg = 1 then 16 else if alg = 2 then 24 else if alg = 3 then 32 else if alg = 4 then 16 else if alg = 5 then 24 else 0

/-- RSA modulus bytes. -/
def rsaLen (alg : Nat) : Nat := if alg = 0x23 then 256 else if alg = 0x24 then 384 else 512

/-- ML-DSA-65 components from a first number: K, s1, s2, t0, ρ, tr, t1. -/
def mldsaComps (b : Nat) : List (Nat × Nat × Bool) :=
  [(b, 32, true), (b + 1, 640, true), (b + 2, 768, true), (b + 3, 2496, true), (b + 4, 32, false), (b + 5, 64, false), (b + 6, 1920, false)]

/-- Components of an algorithm: number, bytes, secret (R275; byte lengths PRESUMED from the standards, log entry 23). -/
def compTable (alg hmacLen : Nat) : List (Nat × Nat × Bool) :=
  if isAes alg || isTdes alg then [(0, symLen alg, true)]
  else if alg = 8 then [(0, hmacLen, true)]
  else if alg = 0x20 then [(0, 32, true), (1, 32, false), (2, 32, false)]
  else if alg = 0x21 then [(0, 48, true), (1, 48, false), (2, 48, false)]
  else if alg = 0x22 then [(0, 32, true), (1, 32, true), (2, 32, false)]
  else if isRsa alg then
    (List.range 5).map (fun i => (i, rsaLen alg / 2, true)) ++ [(5, rsaLen alg, false), (6, 4, false)]
  else if alg = 0x30 then mldsaComps 0
  else if alg = 0x31 then [(0, 1152, true), (1, 32, true), (2, 1184, false), (3, 32, false)]
  else if alg = 0x38 then [(0, 32, true), (1, 32, true), (2, 32, false)] ++ mldsaComps 8
  else []

/-- Material bytes of a record of an algorithm. -/
def materialLen (alg : Nat) (publicOnly : Bool) (hmacLen : Nat) : Nat :=
  (((compTable alg hmacLen).filter (fun c => !(publicOnly && c.2.2))).map (fun c => c.2.1)).sum

/-- Extension slots for that material (R272). -/
def extFor (len : Nat) : Nat := if len ≤ 88 then 0 else ceilDiv (len - 88) 256

/-- A component of a record. -/
def Record.comp (r : Record) (i : Nat) : Bytes := match r.comps.find? (fun c => c.1 == i) with | some c => c.2 | none => []

/-- A symmetric record's key. -/
def Record.key (r : Record) : Bytes := r.comp 0

/-- Only the public components of an algorithm. -/
def publicComps (alg : Nat) (comps : List (Nat × Bytes)) : List (Nat × Bytes) :=
  comps.filter (fun c => ((compTable alg 0).any (fun t => t.1 == c.1 && !t.2.2)))

/-- The public-key encoding of R372. -/
def publicEncoding (alg : Nat) (comps : List (Nat × Bytes)) : Bytes :=
  let g (i : Nat) : Bytes := match comps.find? (fun c => c.1 == i) with | some c => c.2 | none => []
  if isEc alg then 0x04 :: (g 1 ++ g 2)
  else if alg = 0x22 then g 2
  else if isRsa alg then g 5 ++ g 6
  else if alg = 0x30 then g 4 ++ g 6
  else if alg = 0x31 then g 2
  else if alg = 0x38 then g 2 ++ g 12 ++ g 14
  else []

/-- Length of the public-key encoding (R372). -/
def publicLen (alg : Nat) : Nat :=
  if alg = 0x20 then 65 else if alg = 0x21 then 97 else if alg = 0x22 then 32 else if isRsa alg then rsaLen alg + 4
  else if alg = 0x30 then 1952 else if alg = 0x31 then 1184 else if alg = 0x38 then 1984 else 0

/-- Length of a signature (R372). -/
def sigLen (alg : Nat) : Nat :=
  if alg = 0x20 then 64 else if alg = 0x21 then 96 else if alg = 0x22 then 64 else if isRsa alg then rsaLen alg
  else if alg = 0x30 then 3309 else if alg = 0x38 then 3373 else 0

/-- The key check value (R292). -/
def kcvOf (alg : Nat) (key : Bytes) : Bytes :=
  if isAes alg then (aesCmac key (List.replicate 16 0)).take 3
  else if isTdes alg then (Config.tdesEnc key (List.replicate 8 0)).take 3
  else [0, 0, 0]

/-! ## Usage bits and classes (R279 to R281) -/

/-- The usage bits that stay usable when RETIRED (R279). -/
def retiredUses : Nat := 2 ^ 1 + 2 ^ 3 + 2 ^ 5 + 2 ^ 6 + 2 ^ 8 + 2 ^ 10 + 2 ^ 11 + 2 ^ 12 + 2 ^ 15 + 2 ^ 17 + 2 ^ 19

/-- Every bit of `need` is in `have_`. -/
def bitsIn (need have_ : Nat) : Bool := (List.range 64).all (fun i => !bitAt need i || bitAt have_ i)

/-- Bit of ALGS that stands for an algorithm (R280). -/
def algBit (alg : Nat) : Nat :=
  if alg ≤ 8 then alg else if 0x20 ≤ alg && alg ≤ 0x25 then 16 + (alg - 0x20) else if alg = 0x30 then 24 else if alg = 0x31 then 25 else 26

/-- A class entry. -/
def classOf (cs : List KeyClass) (n : Nat) : Option KeyClass := cs.find? (fun c => c.cls == n)

/-- A new record satisfies R281 against a set of classes. -/
def newRecordOk (cs : List KeyClass) (cls alg usage : Nat) (session : Bool) : Bool :=
  match classOf cs cls with
  | none => false
  | some c => c.algs.getLsbD (algBit alg) && (if session then c.sessionOk else c.persistentOk)
      && (alg != 4 || c.tdes2Ok) && bitsIn usage c.usageMask.toNat

/-- Two classes may be named together (R281). -/
def partners (cs : List KeyClass) (a b : Nat) : Bool :=
  match classOf cs a, classOf cs b with
  | some x, some y => x.partners.getLsbD b && y.partners.getLsbD a
  | _, _ => false

/-- KEY_CLASSES of the active Layout. -/
def State.classes (s : State) : List KeyClass := match s.lay.active with | some l => l.keyClasses | none => []

/-! ## Slot allocation (R295, R304) -/

/-- Slots not free: (first, count) of records, reservations and slots whose USE is spent (R270). -/
def State.busySlots (s : State) : List (Nat × Nat) :=
  s.cis.records.map (fun p => (p.1, p.2.slots)) ++ s.cis.reserved.map (fun p => (p.1, p.2.2))
    ++ (s.cis.use.filter (fun p => decide (0xFFFF ≤ p.2))).map (fun p => (p.1, 1))

/-- The lowest run of `n` free slots in [lo, hi). -/
def findRun (busy : List (Nat × Nat)) (lo hi n : Nat) : Option Nat :=
  let ok (c : Nat) : Bool := decide (lo ≤ c) && decide (c + n ≤ hi) && busy.all (fun b => decide (c + n ≤ b.1) || decide (b.1 + b.2 ≤ c))
  (lo :: busy.map (fun b => b.1 + b.2)).foldl (fun best c =>
    if !ok c then best else match best with | none => some c | some d => if c < d then some c else some d) none

/-- The function of the command holding a reservation belongs to a partition. -/
def reservedBy (s : State) (e p : Nat) : Bool := match s.cmd e with | some c => s.partOf c.fn == some p | none => false

/-- Session-scoped keys of a partition, those being created included. -/
def State.sessionCount (s : State) (p : Nat) : Nat :=
  (s.cis.records.filter (fun x => x.2.session && x.2.part == p)).length
    + (s.cis.reserved.filter (fun x => !s.inPartRange x.1 && reservedBy s x.2.1 p)).length

/-- The partition's limit on session-scoped keys (R271). -/
def State.sessionLimit (s : State) (p : Nat) : Nat :=
  if p = 0 then 1024 else match s.part? p with | some x => x.sessionKeys | none => 0

/-- The slot R295 reserves for a new record, none where nothing fits. -/
def allocSlot (s : State) (p : Nat) (session : Bool) (ext : Nat) : Option Nat :=
  if session then
    if s.sessionLimit p ≤ s.sessionCount p then none
    else
      let ranges := match s.lay.active with | some l => l.partitions.map (fun x => (x.keyBase, x.keySlots)) | none => []
      findRun (s.busySlots ++ ranges) 0 s.allocLimit (1 + ext)
  else
    let r := s.partRange p
    findRun s.busySlots r.1 (min (r.1 + r.2) s.allocLimit) (1 + ext)

/-- The handle of a new record at a slot (R269). -/
def handleAt (s : State) (p : Nat) (session : Bool) (slot : Nat) : BitVec 64 :=
  let u := tabGet s.cis.use slot 0
  if session then makeHandle true p u slot else makeHandle false p u (slot - (s.partRange p).1)

/-- Give up the slots reserved for a command (R297). -/
def State.freeReserved (s : State) (e : Nat) : State :=
  { s with cis := { s.cis with reserved := s.cis.reserved.filter (fun p => p.2.1 != e) } }

/-! ## The wrapped form (R272, R274, R282) -/

/-- The wrapping key of a record (R282): PKK of its partition, or SKK of its function. -/
def wrapKey (s : State) (r : Record) : Bytes :=
  if r.session then
    Config.kdf s.rwk (ascii "OX-SKK") (natBe 1 (bitNat r.fn.port) ++ natBe 1 r.fn.vf ++ natBe 4 (s.fn r.fn).generation ++ natBe 4 s.gau.acc.cycles) 32
  else Config.kdf s.rwk (ascii "OX-PKK") (natBe 1 r.part) 32

/-- Bytes 0x00 to 0x57 of a record (R272), with STATE, STATE_TIME, NEXT_BLOCK and WRITE_COUNT as given. -/
def recordHead (r : Record) (st stTime nb wc mlen : Nat) : Bytes :=
  natLe 2 1 ++ natLe 1 r.alg ++ natLe 1 r.cls ++ natLe 1 st ++ natLe 1 (bitNat r.session) ++ natLe 1 r.part ++ natLe 1 r.ext
    ++ natLe 8 r.handle.toNat ++ natLe 8 r.usage.toNat ++ natLe 4 r.nonceField.toNat
    ++ natLe 1 (if r.session then r.fn.vf + 32 * bitNat r.fn.port else 0) ++ natLe 1 (bitNat r.publicOnly) ++ natLe 2 0
    ++ natLe 8 r.created ++ natLe 8 stTime ++ natLe 8 nb ++ natLe 4 wc ++ natLe 4 r.bdkId.toNat
    ++ padTo 16 r.label ++ natLe 2 mlen ++ padTo 3 r.kcv ++ natLe 3 0

/-- The IV of R274. -/
def wrapIv (r : Record) : Bytes := natLe 8 r.handle.toNat ++ natBe 4 r.writeCount

/-- The record and its extension slots as bytes: 256 each (R272, R274). -/
def recordSlots (s : State) (r : Record) : List Bytes :=
  let mat := (r.comps.map (·.2)).flatten
  let wr := gcmSeal (wrapKey s r) (wrapIv r) (recordHead r 0 0 0 0 mat.length) mat
  padTo 256 (recordHead r r.state r.stateTime r.nextBlock r.writeCount mat.length ++ padTo 88 wr.1 ++ padTo 16 wr.2)
    :: (List.range r.ext).map (fun i => padTo 256 (slice wr.1 (88 + 256 * i) 256))

/-! ## Records, copies and the mirror -/

/-- Change every cached copy of a record (R286). -/
def State.mapCopies (s : State) (h : BitVec 64) (g : Record → Record) : State :=
  { s with basins := s.basins.map (fun p => (p.1, { p.2 with
      cache := p.2.cache.map (fun e => if e.handle = h then { e with record := g e.record } else e)
      fill := p.2.fill.map (fun e => if e.handle = h then { e with record := e.record.map g } else e) })) }

/-- A basin's copies of a key are pinned: a command on it with a final ALLOW keeps them (R191, R285). -/
def State.pinned (s : State) (b : Nat) (h : BitVec 64) : Bool := s.slu.retire.any (fun p => p.2.basin == some b && p.2.kept.any (fun k => k.1 == h))

/-- Zeroise and free every cached copy of a record; a copy pinned by a command with a final ALLOW stays (R191, R286). -/
def State.dropCopies (s : State) (h : BitVec 64) : State :=
  let pinned (b : Nat) : Bool := s.pinned b h
  { s with basins := s.basins.map (fun p => (p.1, { p.2 with
      cache := p.2.cache.filter (fun e => e.handle != h || pinned p.1)
      fill := p.2.fill.filter (fun e => e.handle != h) })) }

/-- A slot changed by a retirement joins the dirty list, with the instants of its first unwritten and its newest change (R318). -/
def State.mirrorTouch (s : State) (slot : Nat) : State :=
  let l := if s.vlt.dirty.any (fun d => d.1 == slot) then
             s.vlt.dirty.map (fun (d : Nat × Nat × Nat) => if d.1 = slot then (slot, d.2.1, s.now) else d)
           else s.vlt.dirty ++ [(slot, s.now, s.now)]
  { s with vlt := { s.vlt with dirty := l } }

/-- The dirty list cannot take a further slot (R318). -/
def State.dirtyFull (s : State) : Bool := decide (4096 ≤ s.vlt.dirty.length)

/-- A change to a persistent record reaches the mirror. -/
def State.mirrorRecord (s : State) (slot : Nat) (r : Record) : State := if r.session then s else s.mirrorTouch slot

/-- A change to every slot of a persistent record reaches the mirror: it is created or freed with its extension slots (R272, R316). -/
def State.mirrorSlots (s : State) (slot : Nat) (r : Record) : State :=
  if r.session then s else (List.range r.slots).foldl (fun a i => a.mirrorTouch (slot + i)) s

/-- Put a record at its slot; both copies of its slots take it (R284). -/
def State.putRecord (s : State) (slot : Nat) (r : Record) : State :=
  { s with cis := { s.cis with records := tabSet s.cis.records slot r } }.storeSlots slot (recordSlots s r)

/-- A key's state change, at its commit (R276, R286). -/
def State.setKeyState (s : State) (h : BitVec 64) (st : Nat) : State :=
  match s.record h with
  | none => s
  | some r =>
    let r1 := { r with state := st, stateTime := s.now }
    ((s.putRecord (keySlot s h) r1).mapCopies h (fun _ => r1)).mirrorRecord (keySlot s h) r1

/-- A command holds a final ALLOW under which it keeps a key's record (R191, R192). -/
def State.keepsKey (s : State) (h : BitVec 64) : Bool := s.slu.retire.any (fun p => p.2.kept.any (fun k => k.1 == h))

/-- The counter of a destroyed key leaves once no command keeps the key (R192). -/
def State.dropCounter (s : State) (h : BitVec 64) : State :=
  if s.keepsKey h then s
  else
    { s with cis := { s.cis with
        counters := tabDel s.cis.counters h.toNat
        persisted := tabDel s.cis.persisted h.toNat
        reserving := tabDel s.cis.reserving h.toNat } }

/-- Free the slots of a record: its USE advances, saturating where the slot is spent (R269, R270); its counter stays for the commands that keep the
key (R192). -/
def State.freeRecord (s : State) (slot : Nat) : State :=
  match tabFind s.cis.records slot with
  | none => s
  | some r =>
    ({ s with cis := { s.cis with
        records := tabDel s.cis.records slot
        use := tabSet s.cis.use slot (min 0xFFFF (tabGet s.cis.use slot 0 + 1))
        counters := tabSet s.cis.counters r.handle.toNat (match tabFind s.cis.counters r.handle.toNat with | some v => v | none => r.nextBlock * 65536) } }).dropCounter r.handle

/-- Destroy a key: every copy is zeroised, its slot is freed (R276, R286). -/
def State.destroyKey (s : State) (h : BitVec 64) : State :=
  match s.record h with
  | none => s
  | some r => ((s.freeRecord (keySlot s h)).dropCopies h).mirrorSlots (keySlot s h) r

/-- Destroy every session key that satisfies a condition: its record is zeroised and its slots are freed (R283). -/
def State.purgeSessions (s : State) (c : Record → Bool) : State :=
  s.cis.records.foldl (fun a p =>
    if p.2.session && c p.2 then ((a.freeRecord p.1).dropCopies p.2.handle).storeSlots p.1 (List.replicate p.2.slots []) else a) s

/-! ## Nonce counters (R239, R287 to R289) -/

/-- Blocks of 2^16 counter values. -/
def blockOf (v : Nat) : Nat := v / 65536

/-- The next counter value of a key, loaded from NEXT_BLOCK on first use (R287). -/
def State.counter (s : State) (h : BitVec 64) : Nat :=
  match tabFind s.cis.counters h.toNat with
  | some v => v
  | none => match s.record h with | some r => r.nextBlock * 65536 | none => 0

/-- A value can be drawn: its block is persisted (R178). -/
def State.canDraw (s : State) (h : BitVec 64) : Bool :=
  match tabFind s.cis.persisted h.toNat with
  | some b => decide (blockOf (s.counter h) ≤ b) && decide (s.counter h < 2 ^ 64)
  | none => false

/-- Draw a value: the 12-byte nonce of R239, its FIELD with the most significant byte first as the examples of chapters 10 and 15
write it (log entry 26). -/
def State.drawNonce (s : State) (h : BitVec 64) (fld : BitVec 32) : Bytes × State :=
  let v := s.counter h
  (natBe 4 fld.toNat ++ natBe 8 v, { s with cis := { s.cis with counters := tabSet s.cis.counters h.toNat (v + 1) } })

/-- The key's counter values are all drawn (R289). -/
def State.counterSpent (s : State) (h : BitVec 64) : Bool := decide (2 ^ 64 ≤ s.counter h)

/-- An entry whose draw took the last value of a key's counter is noted: the key is RETIRED at its retirement (R289). -/
def State.noteSpent (s : State) (e : Nat) (h : BitVec 64) : State :=
  match s.cmd e with
  | some c => s.when (s.counterSpent h) (fun a => a.setCmd e { c with spent := h })
  | none => s

/-- Start the reservation of the block the next value lies in, for entry e, unless one is being written (R288). -/
def State.reserveBlock (s : State) (h : BitVec 64) (e : Nat) : State :=
  if (tabHas s.cis.reserving h.toNat || s.counterSpent h) then s
  else { s with cis := { s.cis with reserving := tabSet s.cis.reserving h.toNat (blockOf (s.counter h), e) } }

/-- CJK (R282). -/
def State.cjk (s : State) : Bytes := Config.kdf s.rwk (ascii "OX-CJN") [0] 32

/-- The 64-bit MAC of a journal entry under CJK (R288): the spec names no algorithm, the model takes that of the line MACs (log entry 143). -/
def journalMac (s : State) (h : BitVec 64) (block : Nat) : Bytes := (aesCmac s.cjk (natLe 8 h.toNat ++ natLe 8 block)).take 8

/-- The newest journalled block of a key that carries a valid MAC (R289). -/
def State.journalled (s : State) (h : BitVec 64) : Option Nat :=
  match tabFind s.cis.journal h.toNat with
  | some (b, m) => if m == journalMac s h b then some b else none
  | none => none

/-- The journal holds its largest number of keys (R288). -/
def State.journalFull (s : State) : Bool := decide (262144 ≤ s.cis.journal.length)

/-! ## Key caches (R177, R285) -/

/-- The basin holds the record: in its cache, or in its fill buffer with its fill arrived. -/
def Basin.holdsKey (x : Basin) (h : BitVec 64) : Bool :=
  x.cache.any (fun e => e.handle == h) || x.fill.any (fun e => e.handle == h && e.record.isSome)

/-- The basin's own copy of a record: its cache entry, or its fill-buffer record once arrived. -/
def Basin.copyOf (x : Basin) (h : BitVec 64) : Option Record :=
  match x.cache.find? (fun e => e.handle == h) with
  | some e => some e.record
  | none => (x.fill.find? (fun e => e.handle == h)).bind (·.record)

/-- Cache entries a basin has in use. -/
def Basin.cacheUse (x : Basin) : Nat := (x.cache.map (fun e => e.record.slots)).sum

/-- Evict least recently used unpinned entries until `n` slots fit (R285). -/
def evict (pinned : BitVec 64 → Bool) (n : Nat) : Nat → List CacheEntry → List CacheEntry
  | 0, l => l
  | k + 1, l =>
    if (l.map (fun e => e.record.slots)).sum + n ≤ 8192 then l
    else
      let cands := l.filter (fun e => !pinned e.handle)
      match cands.foldl (fun b e => match b with | none => some e | some x => if e.used < x.used then some e else some x) none with
      | none => l
      | some v => evict pinned n k (l.filter (fun e => e.handle != v.handle))

/-- A record fits into a basin's key cache once what may be evicted has left. -/
def State.cacheFits (s : State) (b : Nat) (h : BitVec 64) (r : Record) : Bool :=
  let kept := (s.basin b).cache.filter (fun e => e.handle != h && s.pinned b e.handle)
  decide ((kept.map (fun e => e.record.slots)).sum + r.slots ≤ 8192)

/-- Put a record into a basin's key cache. -/
def State.cachePut (s : State) (b : Nat) (h : BitVec 64) (r : Record) : State :=
  let x := s.basin b
  let l := evict (s.pinned b) r.slots x.cache.length (x.cache.filter (fun e => e.handle != h))
  s.setBasin b { x with cache := l ++ [{ handle := h, record := r, used := s.now }] }

end Sys2Proof.Machine
end

