-- ==== Sys2Proof/Machine/Form.lean ====
section
/-! DEFINITION. The form checks of host commands 0x0001 to 0x0406 (step 1 of R151): field ranges, lengths and unused fields,
as each command's chapter gives them (06, 12, 14, 15, 16). Within MALFORMED the order is OPCODE, RESERVED, FIELD, LENGTH,
DEADLINE (log entry 22). -/

namespace Sys2Proof.Machine

/-- A list of checks with the status of a failure: the first that fails. -/
def firstBad : List (Bool × Nat) → Option Nat
  | [] => none
  | (ok, st) :: r => if ok then firstBad r else some st

/-- Every check of a list that must hold, under one status. -/
def allOk (st : Nat) (l : List Bool) : Bool × Nat := (l.all id, st)

/-! ## Digit strings (R326) -/

/-- The nibbles of a byte string, the high one of each byte first. -/
def nibbles (bs : Bytes) : List Nat := (bs.map (fun b => [b.toNat / 16, b.toNat % 16])).flatten

/-- Pack nibbles into bytes. -/
def packNibbles : List Nat → Bytes
  | a :: b :: r => BitVec.ofNat 8 (16 * a + b) :: packNibbles r
  | [a] => [BitVec.ofNat 8 (16 * a)]
  | [] => []

/-- A digit string of n digits, padded with 0xF. -/
def digitString (bs : Bytes) (n : Nat) : Bool :=
  decide (n ≤ 2 * bs.length) && ((nibbles bs).take n).all (fun x => decide (x ≤ 9)) && ((nibbles bs).drop n).all (· == 15)

/-- A PAN field. -/
def panOk (bs : Bytes) : Bool :=
  let n := field bs 0 1
  decide (12 ≤ n) && decide (n ≤ 19) && digitString (slice bs 1 10) n

/-- The digits of a PAN field. -/
def panDigits (bs : Bytes) : List Nat := (nibbles (slice bs 1 10)).take (field bs 0 1)

/-! ## DUKPT fields (R330) -/

/-- Set bits of a number below 2^32. -/
def popcount (v : Nat) : Nat := ((List.range 32).filter (fun i => bitAt v i)).length

/-- The transaction counter of a KSN. -/
def ksnCounter (aes : Bool) (ksn : Bytes) : Nat := if aes then beNat (slice ksn 8 4) else beNat (slice ksn 0 10) % 2 ^ 21

/-- The KSN and WK_ALG limits of R330. -/
def dukptOk (fl wk : Nat) (ksn : Bytes) : Bool :=
  if !bitAt fl 0 then !bitAt fl 1 && wk == 0 && allZero ksn
  else if bitAt fl 1 then decide (1 ≤ wk) && decide (wk ≤ 3) && decide (popcount (ksnCounter true ksn) ≤ 16)
  else wk == 0 && allZero (slice ksn 10 2) && decide (popcount (ksnCounter false ksn) ≤ 10)

/-! ## Payment commands (R326 to R341) -/

def pinFormats : List Nat := [0, 1, 3, 4]

/-- A PIN format binds the PAN (R327). -/
def panBound (f : Nat) : Bool := f == 0 || f == 3 || f == 4

def formPin (d : Bytes) (verify : Bool) : List (Bool × Nat) :=
  let inF := param d 0 1
  let o := param d 1 1
  let pvv := verify && o == 1
  let needPan := if verify then pvv || panBound inF else panBound inF || panBound o
  [allOk 0x0403 [
     pinFormats.contains inF,
     if verify then decide (o ≤ 1) else pinFormats.contains o,
     decide (param d 2 1 ≤ 3), dukptOk (param d 2 1) (param d 3 1) (paramBytes d 8 12),
     if !verify then param d 4 1 == 0 else if pvv then param d 4 1 == 4 else decide (4 ≤ param d 4 1) && decide (param d 4 1 ≤ 12),
     if pvv then decide (param d 5 1 ≤ 9) else param d 5 1 == 0,
     param d 6 2 == 0, param d 0x1F 1 == 0,
     if needPan then panOk (paramBytes d 0x14 11) else allZero (paramBytes d 0x14 11),
     if !verify then allZero (paramBytes d 0x20 8) else digitString (paramBytes d 0x20 8) (if pvv then 4 else param d 4 1),
     inF == 4 || allZero (paramBytes d 0x30 8),
     (verify && !pvv) || allZero (paramBytes d 0x38 8),
     key1Of d != 0, key2Of d != 0, inAddrOf d == 0, !inSgl d, !outSgl d, !verify || outAddrOf d == 0],
   allOk 0x0404 [inLenOf d == 0, outLenOf d == (if verify then 0 else if o = 4 then 16 else 8)]]

def formMac (d : Bytes) (verify : Bool) : List (Bool × Nat) :=
  let alg := param d 0 1
  let ml := param d 2 1
  [allOk 0x0403 [
     alg == 0 || alg == 1 || alg == 3,
     if alg = 0 then param d 1 1 == 0 else param d 1 1 == 1 || param d 1 1 == 2,
     decide (4 ≤ ml), decide (ml ≤ 16), decide (param d 3 1 ≤ 7),
     dukptOk (param d 3 1 % 4) (param d 4 1) (paramBytes d 8 12), bitAt (param d 3 1) 0 || !bitAt (param d 3 1) 2,
     param d 5 3 == 0, allZero (paramBytes d 0x14 28),
     if verify then allZero (paramBytes d (0x30 + ml) (16 - ml)) else allZero (paramBytes d 0x30 16),
     key1Of d != 0, key2Of d == 0, !(verify || decide (ml ≤ 12)) || (outAddrOf d == 0 && !outSgl d)],
   allOk 0x0404 [decide (inLenOf d ≤ 16777216), outLenOf d == (if verify || ml ≤ 12 then 0 else ml)]]

def formArqc (d : Bytes) : List (Bool × Nat) :=
  let m := param d 0 1
  [allOk 0x0403 [
     decide (m ≤ 2), decide (param d 1 1 ≤ 2), (nibbles (paramBytes d 4 1)).all (fun x => decide (x ≤ 9)),
     param d 5 3 == 0, m == 1 || param d 0x10 2 == 0, param d 0x12 2 == 0, panOk (paramBytes d 0x14 11), param d 0x1F 1 == 0,
     m == 2 || param d 0x20 4 == 0, if m = 2 then decide (param d 0x24 1 ≤ 8) else param d 0x24 1 == 0, param d 0x25 3 == 0,
     allZero (paramBytes d (0x28 + param d 0x24 1) (8 - param d 0x24 1)), allZero (paramBytes d 0x30 16),
     key1Of d != 0, key2Of d == 0, outAddrOf d == 0, !outSgl d],
   allOk 0x0404 [decide (1 ≤ inLenOf d), decide (inLenOf d ≤ 1024), outLenOf d == 0]]

def formCvv (d : Bytes) (verify : Bool) : List (Bool × Nat) :=
  let n := param d 0 1
  [allOk 0x0403 [
     decide (3 ≤ n), decide (n ≤ 5), param d 1 3 == 0, digitString (paramBytes d 4 2) 4, digitString (paramBytes d 6 2) 3,
     allZero (paramBytes d 8 12), panOk (paramBytes d 0x14 11), param d 0x1F 1 == 0,
     if verify then digitString (paramBytes d 0x20 3) n else param d 0x20 3 == 0, allZero (paramBytes d 0x23 29),
     key1Of d != 0, key2Of d == 0, inAddrOf d == 0, outAddrOf d == 0, !inSgl d, !outSgl d],
   allOk 0x0404 [inLenOf d == 0, outLenOf d == 0]]

/-! ## Bulk commands (R353 to R364) -/

/-- Payload bytes of an AEAD command. -/
def aeadP (d : Bytes) : Nat := inLenOf d - param d 2 2

/-- Payload bytes of a jet phase; associated data is no payload (R353). -/
def payloadOf (d : Bytes) : Nat := if opcodeOf d = 0x0201 || opcodeOf d = 0x0202 then aeadP d else max (inLenOf d) (outLenOf d)

def formAead (d : Bytes) (openCmd : Bool) : List (Bool × Nat) :=
  let m := param d 0 1
  let tl := param d 1 1
  let aad := param d 2 2
  let du := param d 4 4
  let p := aeadP d
  [allOk 0x0403 [
     decide (m ≤ 2),
     if m = 0 then decide (12 ≤ tl) && decide (tl ≤ 16) else if m = 1 then decide (4 ≤ tl) && decide (tl ≤ 16) && tl % 2 == 0 else tl == 0,
     if m = 2 then aad == 0 else decide (aad ≤ 65279),
     if m = 2 then decide (16 ≤ du) && decide (du ≤ 1048576) && du % 16 == 0 else du == 0,
     (!openCmd && m != 2) || param d 8 8 == 0, (openCmd && m != 2) || allZero (paramBytes d 0x10 12), param d 0x1C 4 == 0,
     m == 2 || allZero (paramBytes d 0x20 16),
     if openCmd && m != 2 then allZero (paramBytes d (0x30 + tl) (16 - tl)) else allZero (paramBytes d 0x30 16),
     key1Of d != 0, if m = 2 then key2Of d != 0 && key2Of d != key1Of d else key2Of d == 0],
   allOk 0x0404 [
     decide (aad ≤ inLenOf d), outLenOf d == p,
     if m = 0 then !openCmd || decide (p ≤ 268435456)
     else if m = 1 then decide (p ≤ 2 ^ 24 - 1)
     else decide (16 ≤ p) && (du == 0 || p % du == 0 || decide (16 ≤ p % du))]]

def formToken (d : Bytes) : List (Bool × Nat) :=
  let r := param d 0 4
  let n := param d 4 2
  let w := param d 6 1
  let t := param d 7 1
  let k := param d 8 2
  [allOk 0x0403 [
     decide (2 ≤ r), decide (r ≤ 65536), w == 1 || w == 2, w == 2 || decide (r ≤ 256), decide (t ≤ 64),
     decide (1 ≤ k), decide (k ≤ 4096), allZero (paramBytes d 0x0A 54),
     decide (n ≤ 192) && decide (1000000 ≤ r ^ (min n 192)) && decide (r ^ ((min n 192 + 1) / 2) ≤ 2 ^ 96),
     key1Of d != 0, key2Of d == 0],
   allOk 0x0404 [inLenOf d == k * (t + n * w), outLenOf d == k * n * w]]

/-- The hash ALG codes of JET_JOB. -/
def hashCodes : List Nat := [0x10, 0x11, 0x12, 0x18, 0x19, 0x1A, 0x1C, 0x1D]

/-- Digest bytes, 0 for the extendable functions. -/
def digestLen (alg : Nat) : Nat :=
  if alg = 0x10 || alg = 0x18 then 32 else if alg = 0x11 || alg = 0x19 then 48 else if alg = 0x12 || alg = 0x1A then 64 else 0

def formDigest (d : Bytes) : List (Bool × Nat) :=
  let a := param d 0 1
  [allOk 0x0403 [hashCodes.contains a, paramsZeroBut d [(0, 1)], key1Of d == 0, key2Of d == 0, inLenOf d != 0 || inAddrOf d == 0],
   allOk 0x0404 [if digestLen a = 0 then decide (1 ≤ outLenOf d) && decide (outLenOf d ≤ 65536) else outLenOf d == digestLen a]]

def formHmac (d : Bytes) : List (Bool × Nat) :=
  let a := param d 0 1
  [allOk 0x0403 [
     a == 0x10 || a == 0x11 || a == 0x12, decide (16 ≤ param d 1 1), decide (param d 1 1 ≤ digestLen a),
     paramsZeroBut d [(0, 2)], key1Of d != 0, key2Of d == 0],
   allOk 0x0404 [outLenOf d == param d 1 1]]

def formRandom (d : Bytes) : List (Bool × Nat) :=
  [allOk 0x0403 [decide (param d 0 1 ≤ 1), paramsZeroBut d [(0, 1)], key1Of d == 0, key2Of d == 0, inAddrOf d == 0, !inSgl d, !outSgl d],
   allOk 0x0404 [inLenOf d == 0, decide (1 ≤ outLenOf d), decide (outLenOf d ≤ 1048576)]]

/-! ## Attribute block (R291) -/

def attrClass (d : Bytes) : Nat := param d 0 1
def attrAlg (d : Bytes) : Nat := param d 1 1
def attrSession (d : Bytes) : Bool := param d 2 1 == 1
def attrUsage (d : Bytes) : Nat := param d 8 8

def attrOk (d : Bytes) (algs : List Nat) : Bool :=
  decide (param d 0 1 ≤ 63) && algs.contains (param d 1 1) && decide (param d 2 1 ≤ 1) && decide (param d 3 1 ≤ 1) && decide (attrUsage d < 2 ^ 22)

/-! ## Public-key commands (R377 to R387) -/

/-- An ALG that SIGN, VERIFY or PAIRED.VERIFY takes (R378). -/
def signAlgs (op : Nat) : List Nat :=
  if op = 0x0303 then [0x38] else [0x20, 0x21, 0x22, 0x23, 0x24, 0x25, 0x30] ++ (if op = 0x0301 then [0x38] else [])

/-- The prehash length of ECDSA SCHEME 1. -/
def prehashLen (alg : Nat) : Nat := if alg = 0x21 then 48 else 32

/-- The checks that depend on the ALG of KEY1 apply where its record is live and its ALG fits the command (log entry 24). -/
def formSign (s : State) (d : Bytes) (op : Nat) : List (Bool × Nat) :=
  let sch := param d 0 1
  let cl := param d 2 1
  let ml := param d 4 4
  let alg : Option Nat :=
    if op = 0x0303 then some 0x38
    else match s.record (key1Of d) with | some r => if (signAlgs op).contains r.alg then some r.alg else none | none => none
  let byAlg : List (Bool × Nat) := match alg with
    | none => []
    | some a =>
      [allOk 0x0403 [
         sch == 0 || isEc a || isRsa a || a == 0x30,
         if isRsa a then param d 1 1 != 0 else param d 1 1 == 0, cl == 0 || a == 0x30 || a == 0x38],
       allOk 0x0404 [
         if op = 0x0301 then inLenOf d == ml && outLenOf d == sigLen a else inLenOf d == ml + sigLen a && outLenOf d == 0,
         !(isEc a && sch == 1) || ml == prehashLen a]]
  [allOk 0x0403 [
     decide (sch ≤ 1), [0, 0x10, 0x11, 0x12].contains (param d 1 1), decide (cl ≤ 56), param d 3 1 == 0,
     allZero (paramBytes d (8 + cl) (56 - cl)), key1Of d != 0, key2Of d == 0, op == 0x0301 || (outAddrOf d == 0 && !outSgl d),
     !(op == 0x0301 && decide (3 ≤ cl) && paramBytes d 8 3 == [0x4F, 0x58, 0x2D])]]
    ++ byAlg.filter (fun c => c.2 == 0x0403)
    ++ [allOk 0x0404 [decide (ml ≤ 16777216), if op = 0x0301 then inLenOf d == ml else decide (ml ≤ inLenOf d) && outLenOf d == 0]]
    ++ byAlg.filter (fun c => c.2 == 0x0404)

def formAgree (s : State) (d : Bytes) (op : Nat) : List (Bool × Nat) :=
  let ecLen : Bool := match s.record (key1Of d) with
    | some r => if isEc r.alg then inLenOf d == publicLen r.alg else inLenOf d == 65 || inLenOf d == 97
    | none => inLenOf d == 65 || inLenOf d == 97
  [allOk 0x0403 [
     attrOk d [1, 2, 3, 8], decide (param d 0x20 1 ≤ 24), allZero (paramBytes d 0x21 7), key1Of d != 0, key2Of d == 0,
     op != 0x0310 || (inAddrOf d == 0 && !inSgl d), op == 0x0310 || (outAddrOf d == 0 && !outSgl d)],
   allOk 0x0404 [
     if op = 0x0320 then ecLen && outLenOf d == 0
     else if op = 0x0310 then inLenOf d == 0 && outLenOf d == 1088 else inLenOf d == 1088 && outLenOf d == 0]]

/-- ALGs of KEYPAIR.GENERATE (R372). -/
def pairAlgs : List Nat := [0x20, 0x21, 0x22, 0x30, 0x31, 0x38]

def formKeypair (d : Bytes) : List (Bool × Nat) :=
  [allOk 0x0403 [attrOk d pairAlgs, allZero (paramBytes d 0x20 32), key1Of d == 0, key2Of d == 0, inAddrOf d == 0, !inSgl d],
   allOk 0x0404 [inLenOf d == 0, outLenOf d == 0 || outLenOf d == publicLen (attrAlg d)]]

def formAttest (d : Bytes) : List (Bool × Nat) :=
  [allOk 0x0403 [decide (param d 0 1 ≤ 1), allZero (paramBytes d 1 7), key2Of d == 0, inAddrOf d == 0, !inSgl d],
   allOk 0x0404 [inLenOf d == 0, outLenOf d == (if bitAt (param d 0 1) 0 then 14807 else 3837)]]

/-! ## Key commands (R291 to R295) -/

/-- ALGs an X9.143 block can carry: key algorithm codes A, T, E and R (R294). -/
def blockAlgs : List Nat := [1, 2, 3, 4, 5, 0x20, 0x21, 0x22, 0x23, 0x24, 0x25]

/-- Characters of a key block of an algorithm under a version (R294). -/
def keyBlockLen (versionD : Bool) (keyLen : Nat) : Nat :=
  let b := if versionD then 16 else 8
  16 + 2 * (ceilDiv (2 + keyLen) b * b) + 2 * b

/-- Bytes KEY.EXPORT writes for a record. -/
def exportLen (r : Record) (fmt : Nat) : Nat :=
  if fmt = 2 then publicLen r.alg else keyBlockLen (fmt == 0) ((r.comps.map (fun c => c.2.length)).sum)

def formKey (s : State) (d : Bytes) (op : Nat) : List (Bool × Nat) :=
  let noBuf : List Bool := [inAddrOf d == 0, outAddrOf d == 0, !inSgl d, !outSgl d]
  if op = 0x0401 then
    let f := param d 0x20 1
    [allOk 0x0402 [allZero (paramBytes d 0x21 31)],
     allOk 0x0403 [decide (f ≤ 1), attrOk d (if f = 0 then blockAlgs else algCodes.filter (fun a => decide (0 < publicLen a))),
       key1Of d == 0, if f = 0 then key2Of d != 0 else key2Of d == 0, outAddrOf d == 0, !outSgl d],
     allOk 0x0404 [outLenOf d == 0, if f = 0 then decide (16 ≤ inLenOf d) && decide (inLenOf d ≤ 9999) else inLenOf d == publicLen (attrAlg d)]]
  else if op = 0x0402 then
    let f := param d 0 1
    [allOk 0x0402 [paramsZeroBut d [(0, 1)]],
     allOk 0x0403 [decide (f ≤ 2), key1Of d != 0, if f = 2 then key2Of d == 0 else key2Of d != 0, inAddrOf d == 0, !inSgl d],
     allOk 0x0404 [inLenOf d == 0, match s.record (key1Of d) with | some r => decide (exportLen r f ≤ outLenOf d) | none => true]]
  else if op = 0x0403 then
    let n := param d 0x20 1
    [allOk 0x0402 [allZero (paramBytes d 0x21 31)],
     allOk 0x0403 ([attrOk d [1, 2, 3, 4, 5, 8], if attrAlg d = 8 then decide (16 ≤ n) && decide (n ≤ 64) else n == 0,
       key1Of d == 0, key2Of d == 0] ++ noBuf),
     allOk 0x0404 [inLenOf d == 0, outLenOf d == 0]]
  else if op = 0x0404 then
    let m := param d 0x20 1
    [allOk 0x0402 [allZero (paramBytes d 0x21 7)],
     allOk 0x0403 ([decide (m ≤ 2), attrOk d (if m = 0 then [1, 2, 3, 4, 5, 8] else if m = 1 then [1, 2, 3] else [4]),
       m != 1 || allZero (paramBytes d 0x30 16), m != 2 || allZero (paramBytes d 0x32 14),
       key1Of d != 0, key2Of d == 0] ++ noBuf),
     allOk 0x0404 [inLenOf d == 0, outLenOf d == 0]]
  else if op = 0x0405 then
    [allOk 0x0402 [paramsZeroBut d [(0, 2), (8, 8)], decide (param d 1 1 ≤ 1)],
     allOk 0x0403 ([decide (1 ≤ param d 0 1), decide (param d 0 1 ≤ 3), param d 1 1 == 1 || param d 8 8 == 0,
       !(param d 1 1 == 1 && param d 0 1 == 2), key1Of d != 0, key2Of d == 0] ++ noBuf),
     allOk 0x0404 [inLenOf d == 0, outLenOf d == 0]]
  else
    [allOk 0x0402 [paramsZeroBut d []],
     allOk 0x0403 ([key1Of d != 0, key2Of d == 0] ++ noBuf),
     allOk 0x0404 [inLenOf d == 0, outLenOf d == 0]]

/-! ## Queue-control commands (R135) -/

def formControl (s : State) (f : FnId) (d : Bytes) (op : Nat) : List (Bool × Nat) :=
  let used : List (Nat × Nat) := if op = 2 then [(0, 8), (8, 4), (0x0C, 1)] else if op = 3 then [(0, 1), (4, 4)] else []
  [allOk 0x0402 [paramsZeroBut d used],
   allOk 0x0403 [key1Of d == 0, key2Of d == 0, inAddrOf d == 0, outAddrOf d == 0, !inSgl d, !outSgl d,
     op != 2 || (param d 8 4 != 0 && decide (param d 0x0C 1 < s.queuePairs f)), op != 3 || decide (param d 0 1 ≤ 63)],
   allOk 0x0404 [inLenOf d == 0, outLenOf d == 0]]

end Sys2Proof.Machine
end

