-- ==== Sys2Proof/Machine/MgmtForm.lean ====
section
/-! DEFINITION. Form checks of the management commands (R153), the whole form check of a descriptor, and the device-state
table of R154. -/

namespace Sys2Proof.Machine

/-- The form checks of a management command (R38, R485, R487, R489, R492, R495, R520, R557, R475, R590, R592). -/
def formMgmt (d : Bytes) (op : Nat) : List (Bool × Nat) :=
  let noKeys : List Bool := [key1Of d == 0, key2Of d == 0]
  let noIn : List Bool := [inAddrOf d == 0, !inSgl d]
  let noOut : List Bool := [outAddrOf d == 0, !outSgl d]
  let none_ : Bool × Nat := allOk 0x0404 [inLenOf d == 0, outLenOf d == 0]
  if op = 0x0501 then
    [allOk 0x0402 [paramsZeroBut d [(0, 4)]], allOk 0x0403 (noKeys ++ noOut),
     allOk 0x0404 [decide (1 ≤ inLenOf d), decide (inLenOf d ≤ 65536), outLenOf d == 0]]
  else if op = 0x0502 || op = 0x0503 then
    [allOk 0x0402 [paramsZeroBut d []], allOk 0x0403 (noKeys ++ noIn ++ noOut), none_]
  else if op = 0x0510 then
    [allOk 0x0402 [paramsZeroBut d [(0, 2), (4, 4)], decide (param d 1 1 ≤ 1)],
     allOk 0x0403 ([decide (param d 0 1 ≤ 3)] ++ noKeys ++ noOut),
     allOk 0x0404 [decide (1 ≤ inLenOf d), decide (inLenOf d ≤ 65536), outLenOf d == 0]]
  else if op = 0x0520 then
    let k := param d 0x10 1
    let a := param d 8 8
    [allOk 0x0402 [paramsZeroBut d [(0, 17)]],
     allOk 0x0403 ([param d 0 8 % 64 == 0, k == 1 || (k == 2 && decide (a ≤ 1)) || ((k == 6 || k == 7) && decide (a ≤ 7))]
       ++ noKeys ++ noIn ++ noOut), none_]
  else if op = 0x0530 then
    let p := param d 0 1
    let open_ := param d 1 1 == 0
    let l := param d 4 2
    [allOk 0x0402 [paramsZeroBut d [(0, 3), (4, 2), (8, 8), (0x10, 48)]],
     allOk 0x0403 ([decide (1 ≤ p), decide (p ≤ 8), decide (param d 1 1 ≤ 1),
       if open_ then param d 2 1 == 0 else decide (param d 2 1 ≤ 4),
       if open_ then l == 0 || (decide (10 ≤ l) && decide (l ≤ 3600)) else l == 0,
       if p = 2 then decide (param d 8 8 ≤ 1) else param d 8 8 == 0, (open_ && p == 8) || (inAddrOf d == 0 && !inSgl d),
       !([4, 5, 6, 7].contains p) || allZero (paramBytes d 0x10 48)] ++ noKeys ++ noOut),
     allOk 0x0404 [(open_ && p == 8) || inLenOf d == 0, outLenOf d == 0]]
  else if op = 0x0531 then
    [allOk 0x0402 [paramsZeroBut d [(0, 1), (8, 8)]],
     allOk 0x0403 ([decide (param d 0 1 ≤ 1)] ++ noKeys ++ noIn ++ noOut), none_]
  else if op = 0x0540 then
    let r := param d 0 1
    let n := param d 8 4
    [allOk 0x0402 [paramsZeroBut d [(0, 1), (4, 4), (8, 4)]],
     allOk 0x0403 ([decide (r ≤ 2), if r = 0 then n == 1 else decide (1 ≤ n) && decide (n ≤ 1024)] ++ noKeys ++ noIn),
     allOk 0x0404 [inLenOf d == 0, outLenOf d == (if r = 0 then 4096 else n * 64)]]
  else if op = 0x0550 then
    let r := param d 0 1
    let o := param d 1 1
    [allOk 0x0402 [paramsZeroBut d [(0, 2), (4, 4), (8, 8)]],
     allOk 0x0403 ([
       if o = 0 then decide (2 ≤ r) && decide (r ≤ 15) else if o = 1 then decide (16 ≤ r) && decide (r ≤ 31)
       else if o = 2 then decide (32 ≤ r) && decide (r ≤ 47) else o == 3 && decide (r ≤ 1),
       if o = 2 then param d 4 4 != 0 else param d 4 4 == 0, o == 3 || param d 8 8 == 0, o == 0 || (inAddrOf d == 0 && !inSgl d)] ++ noKeys ++ noOut),
     allOk 0x0404 [if o = 0 then decide (inLenOf d ≤ 1024) else inLenOf d == 0, outLenOf d == 0]]
  else if op = 0x0560 then
    [allOk 0x0402 [paramsZeroBut d []], allOk 0x0403 (noKeys ++ noOut), allOk 0x0404 [outLenOf d == 0]]
  else if op = 0x0570 then
    let n := param d 4 4
    [allOk 0x0402 [paramsZeroBut d [(0, 1), (4, 4)]],
     allOk 0x0403 ([decide (param d 0 1 ≤ 1), n % 512 == 0, decide (512 ≤ n), decide (n ≤ 2 ^ 27)] ++ noKeys ++ noIn),
     allOk 0x0404 [inLenOf d == 0, outLenOf d == n / 8]]
  else
    [allOk 0x0402 [paramsZeroBut d [(0, 8)]], allOk 0x0403 (noKeys ++ noIn ++ noOut), none_]

/-- The form checks of an opcode's own chapter. -/
def formOf (s : State) (f : FnId) (d : Bytes) (op : Nat) : List (Bool × Nat) :=
  if isQueueControl op then
    formControl s f d op ++ (if op = 2 then [(param d 0 8 % 64 == 0, 0x0403)] else [])
  else if op = 0x0101 then formPin d false
  else if op = 0x0102 then formPin d true
  else if op = 0x0110 then formMac d false
  else if op = 0x0111 then formMac d true
  else if op = 0x0120 then formArqc d
  else if op = 0x0130 then formCvv d false
  else if op = 0x0131 then formCvv d true
  else if op = 0x0201 then formAead d false
  else if op = 0x0202 then formAead d true
  else if op = 0x0210 || op = 0x0211 then formToken d
  else if op = 0x0220 then formDigest d
  else if op = 0x0221 then formHmac d
  else if op = 0x0230 then formRandom d
  else if op = 0x0301 || op = 0x0302 || op = 0x0303 then formSign s d op
  else if op = 0x0310 || op = 0x0311 || op = 0x0320 then formAgree s d op
  else if op = 0x0330 then formKeypair d
  else if op = 0x0340 then formAttest d
  else if isMgmt op then formMgmt d op
  else formKey s d op ++ (if op = 0x0405 && param d 1 1 = 1 then [(param d 8 8 % 64 == 0, 0x0403)] else [])

/-- Step 1 of R151: the MALFORMED status that refuses a descriptor, if any (R128 to R130, R150, R270). -/
def formStatus (s : State) (f : FnId) (q : Nat) (d : Bytes) : Option Nat :=
  let op := opcodeOf d
  if !knownOpcode op then some 0x0401
  else
    let c := formOf s f d op
    firstBad
      ([(decide (flagsOf d < 8) && field d 0x3C 4 == 0, 0x0402)] ++ c.filter (fun x => x.2 == 0x0402)
        ++ [allOk 0x0403 [if holdOf d then batchOf d != 0 else batchOf d == 0, handleOk s (key1Of d), handleOk s (key2Of d)]]
        ++ c.filter (fun x => x.2 == 0x0403) ++ c.filter (fun x => x.2 == 0x0404)
        ++ [(match s.qcfg f q with
             | some x => !(x.cls == 0 && deadlineOf d == 0 && decide (1 ≤ op / 256) && decide (op / 256 ≤ 4))
             | none => true, 0x0406)])

/-- A command names a persistent key (R322). -/
def namesPersistent (d : Bytes) : Bool :=
  (key1Of d != 0 && !hSession (key1Of d)) || (key2Of d != 0 && !hSession (key2Of d))

/-- Step 2 of R151: the device-state refusal of R154 and R322, if any; with no active Layout R51 stands in place of the table. -/
def deviceStatus (s : State) (f : FnId) (d : Bytes) : Option Nat :=
  let op := opcodeOf d
  let st := s.gateOp
  if s.lay.active.isNone then (if isPf0 f && isMgmt op then none else some 0x0205)
  else if isQueueControl op then none
  else
    let sealed_ (r : Nat) : Option Nat := if st == .sealed then some 0x0203 else if st == .restoreOnly then some r else none
    if op = 0x0230 then (if st == .booting then none else sealed_ 0x0204)
    else if !isMgmt op then
      if st == .booting then some 0x0201
      else if st == .maintenance then some 0x0202
      else if st == .serving && s.vlt.reload && (op / 256 == 4 || namesPersistent d) then some 0x0201
      else sealed_ 0x0204
    else if st == .booting then some 0x0201
    else if [0x0501, 0x0502, 0x0503, 0x0510, 0x0520].contains op then sealed_ 0x0204
    else if [0x0530, 0x0531, 0x0540, 0x0550].contains op then none
    else if op = 0x0560 then (if st == .restoreOnly then some 0x0204 else none)
    else if op = 0x0570 then (if st == .serving then some 0x0230 else sealed_ 0x0204)
    else if st == .restoreOnly then none
    else if st == .sealed then some 0x0203
    else some 0x0204

end Sys2Proof.Machine
end

