-- ==== Sys2Proof/Machine/Schedule.lean ====
section
/-! DEFINITION. Sluice's arithmetic (03, 07): pace, reservations, estimates, backlogs, feasibility, quotas, credit. Work is
in 1/8000 basin-ns, so that the products of R158 are exact. -/

namespace Sys2Proof.Machine

/-! ## Pace (R58, R59, R62) -/

/-- The largest of a list, 0 for none. -/
def maxOf (l : List Nat) : Nat := l.foldl max 0

/-- Admission pace of a basin: the largest of its last four window paces, once its monitor has completed four (R58, R59). -/
def Basin.admissionPace (x : Basin) : Option Nat := if 4 ≤ x.sinceStart then some (maxOf (x.windows.take 4)) else none

/-- The basin's pace counts in the device pace (R58): it serves, and one that drains still does. One that is reset or tested does not (log entry
154). -/
def Basin.paced (x : Basin) : Bool := x.serving || x.st == .draining

/-- Device pace (R58). -/
def State.devicePace (s : State) : Nat :=
  let srv := (basinNums.map s.basin).filter Basin.paced
  let adm := srv.filterMap Basin.admissionPace
  if !adm.isEmpty then maxOf adm
  else
    let last := (srv.filter (fun x => 1 ≤ x.sinceServe)).map (·.windowPs)
    if !last.isEmpty then maxOf last else 625

/-- The pace Sluice uses for a basin (R158). -/
def State.pace (s : State) (b : Nat) : Nat := (s.basin b).admissionPace.getD s.devicePace

/-- The pace floor of the active Layout. -/
def State.floorPs (s : State) : Nat := match s.lay.active with | some l => l.floorPs | none => 0

/-- Promised pace of a basin (R62). -/
def State.promised (s : State) (b : Nat) : Nat := max s.floorPs (s.pace b)

/-- Promised pace at the device pace, which scales a queue's credit (R156, log entry 20). -/
def State.promisedDevice (s : State) : Nat := max s.floorPs s.devicePace

/-! ## Pools and reservations (R157, R170) -/

/-- The POOL of a partition; PF0's is the shared basins (log entry 21). -/
def State.pool (s : State) (p : Nat) : BitVec 8 :=
  match s.lay.active with
  | none => 0
  | some l => if p = 0 then l.shared else match s.part? p with | some x => x.pool | none => 0

/-- Number of set bits of a mask of eight. -/
def popcount8 (m : BitVec 8) : Nat := (basinNums.filter (fun i => m.getLsbD i)).length

/-- A role may serve a partition: in its POOL, and shared or owned by it (R170). -/
def roleServes (s : State) (p r : Nat) : Bool :=
  (s.pool p).getLsbD r &&
    match s.lay.active with
    | none => false
    | some l => l.shared.getLsbD r || (l.owners.getD r 0 == p && p != 0)

/-- A basin may serve a partition in the role it fills (R170, R213). -/
def State.mayServe (s : State) (p b : Nat) : Bool := match (s.basin b).role with | none => false | some r => roleServes s p r

/-- The GUARANTEED reservation of the role a basin fills, in 1/840 per-mille (R157), over the roles `live` of each POOL. -/
def reserveOf (s : State) (b : Nat) (divisor : BitVec 8 → Nat) : Nat :=
  match s.lay.active, (s.basin b).role with
  | some l, some r =>
    ((l.queues.filter (fun q => q.cls == 0 && (s.pool q.part).getLsbD r)).map (fun q =>
      let t := if divisor (s.pool q.part) = 0 then 0 else q.share * 840 / divisor (s.pool q.part)
      if s.bsn.derated && 0 < s.promised b then t * s.floorPs / s.promised b else t)).sum
  | _, _ => 0

/-- g_b in 1/840 per-mille: parked and retired basins count in the divisor; only a serving basin carries one (R157). -/
def State.reserve (s : State) (b : Nat) : Nat := if (s.basin b).serving then reserveOf s b popcount8 else 0

/-! ## Estimates (R158, R159) -/

/-- The key records a command names: its live handles, each once. -/
def liveKeys (s : State) (c : Cmd) : List (BitVec 64) := ([key1Of c.desc, key2Of c.desc].filter (fun h => h != 0 && (s.record h).isSome)).eraseDups

/-- Key records named by a command and absent from a basin's key cache (R158). -/
def misses (s : State) (x : Cmd) (b : Nat) : Nat :=
  ((liveKeys s x).filter (fun h => !((s.basin b).cache.any (fun e => e.handle == h)))).length

/-- exec(x, b) of R158 in ns. -/
def execNs (s : State) (x : Cmd) (b : Nat) : Nat :=
  ceilDiv ((300 + x.ej + x.ek) * s.pace b) 1000 + misses s x b * ceilDiv (720 * s.pace b) 1000
    + (if 0 < inLenOf x.desc then 1500 else 0)

/-- work_j(x, b) of R158. -/
def workJ (s : State) (x : Cmd) (b : Nat) : Nat := x.ej * x.nj * s.pace b

/-- work_k(x, b) of R158. -/
def workK (s : State) (x : Cmd) (b : Nat) : Nat := 8 * x.ek * s.pace b

/-- The commands admitted to a basin and not finished there, with their entries. -/
def State.onBasin (s : State) (b : Nat) : List (Nat × Cmd) :=
  s.slu.retire.filter (fun p => p.2.basin == some b &&
    (p.2.phase == .backlog || p.2.phase == .running || p.2.phase == .retest ||
      p.2.phase == .awaitReplay true || p.2.phase == .awaitReplay false))

/-- Payload bytes of a command's segments not yet dispatched (R165). -/
def restBytes (x : Cmd) : Nat := payloadOf x.desc - (x.segsAll - x.segs) * 262144

/-- Work of a command not yet dispatched to the jets, its undispatched segments included (R159). -/
def waitJ (s : State) (x : Cmd) (b : Nat) : Nat :=
  if x.segs = 0 then 0 else if x.segs = x.segsAll then workJ s x b else workJ s x b * restBytes x / max (payloadOf x.desc) 1

/-- Work of the segment that is dispatched next: 256 KiB of payload, or what is left (R165). -/
def segmentWork (s : State) (x : Cmd) (b : Nat) : Nat :=
  if x.segsAll ≤ 1 then workJ s x b else workJ s x b * min 262144 (restBytes x) / max (payloadOf x.desc) 1

/-- Work of a command not yet started on the Cascade (R159). -/
def waitK (s : State) (x : Cmd) (b : Nat) : Nat := if x.onCascade then 0 else workK s x b

/-- Work left of what a command has dispatched to the jets, up to its next dispatch boundary (R159). -/
def runJ (s : State) (x : Cmd) : Nat :=
  if x.onJets && x.phase == .running && 0 < x.ej then x.jWork - (s.now - x.jMark) * x.nj * 1000 else 0

/-- Work left of a command that the Cascade runs (R159). -/
def runK (s : State) (x : Cmd) : Nat :=
  if x.onCascade && x.phase == .running && 0 < x.ek then x.kWork - (s.now - x.kMark) * 8000 else 0

/-- Re-scale what runs on a basin from an old pace to the present one (R159). -/
def State.rescale (s : State) (b old : Nat) : State :=
  let p := s.pace b
  if p = old || old = 0 then s
  else
    { s with slu := { s.slu with retire := s.slu.retire.map (fun e =>
        if e.2.basin = some b then
          (e.1, { e.2 with jWork := runJ s e.2 * p / old, jMark := s.now, kWork := runK s e.2 * p / old, kMark := s.now }) else e) } }

/-- ahead_j(p, b) of R160; priorities 0 G, 1 S, 2 B. -/
def aheadJ (s : State) (p b : Nat) : Nat :=
  ((s.onBasin b).map (fun c => runJ s c.2 + (if c.2.prio ≤ p then waitJ s c.2 b else 0))).sum

/-- ahead_k(p, b) of R160. -/
def aheadK (s : State) (p b : Nat) : Nat :=
  ((s.onBasin b).map (fun c => runK s c.2 + (if c.2.prio ≤ p then waitK s c.2 b else 0))).sum

/-- ceil(work / div(p, b)) in ns: the divisor is max(1000 - g_b, 50) per-mille for S and B (R160). -/
def overDiv (s : State) (p b work : Nat) : Nat :=
  if p = 0 then ceilDiv work 8000
  else ceilDiv (work * 840000) (8000 * max (840000 - s.reserve b) 42000)

/-- wait(x, b) of R160. -/
def waitNs (s : State) (x : Cmd) (b : Nat) : Nat :=
  max (if 0 < x.ej then overDiv s x.prio b (aheadJ s x.prio b) else 0)
      (if 0 < x.ek then overDiv s x.prio b (aheadK s x.prio b) else 0)

/-- A basin is parked or on its way out of parking, for R160's wake allowance. -/
def Basin.asleep (x : Basin) : Bool := x.st == .parked

/-- finish(x, b) of R160. -/
def finishNs (s : State) (x : Cmd) (b : Nat) : Nat :=
  s.now + (if (s.basin b).asleep then 50000 else 0) + waitNs s x b + execNs s x b

/-- pred_ret of a queue: the estimate of its newest unretired command, else now (R160). -/
def predRet (s : State) (f : FnId) (q : Nat) : Nat :=
  let es := (s.queue f q).order.filterMap (fun it => match it with | .cmd e => (s.cmd e).map (·.estRet) | _ => none)
  match es.getLast? with
  | some t => t
  | none => s.now

/-- ret(x, b) of R160. -/
def retNs (s : State) (x : Cmd) (b : Nat) : Nat := max (finishNs s x b) (predRet s x.fn x.q)

/-- feasible(x, b) of R160, with the single-fault allowance of R161. -/
def feasible (s : State) (x : Cmd) (b : Nat) : Bool :=
  deadlineOf x.desc == 0 ||
    decide (retNs s x b + (if 2000000 ≤ deadlineOf x.desc then 400000 else 0) ≤ x.deadlineAt)

/-- The basin of a list with the smallest finish; ties go to the lowest number. -/
def bestBasin (s : State) (x : Cmd) (l : List Nat) : Option Nat :=
  l.foldl (fun best b =>
    match best with
    | none => some b
    | some c => if finishNs s x b < finishNs s x c then some b else some c) none

/-- The choice of basin (R160): the best serving unparked candidate if feasible, else the best parked one if feasible. -/
def chooseBasin (s : State) (x : Cmd) (p : Nat) : Option Nat :=
  let up := basinNums.filter (fun b => (s.basin b).serving && s.mayServe p b)
  let dn := basinNums.filter (fun b => (s.basin b).asleep && s.mayServe p b)
  let parked := match bestBasin s x dn with | some b => if feasible s x b then some b else none | none => none
  match bestBasin s x up with
  | some b => if feasible s x b then some b else parked
  | none => parked

/-! ## Quotas and credit (R156, R162) -/

/-- Refill a bucket of R162 in 1/10^6 units: the cap per ms is the cap in these units per ns. -/
def refill (k : Bucket) (cap t : Nat) : Bucket :=
  { bal := min (cap * 1000000 : Int) (k.bal + (cap * (t - k.last) : Int)), last := t }

/-- Accrue a GUARANTEED queue's credit, scaled while DERATED holds and capped at SHARE × 1,000 basin-ns (R156). -/
def accrue (s : State) (k : Bucket) (share : Nat) : Bucket :=
  let g := 8 * share * (s.now - k.last)
  let g1 := if s.bsn.derated && 0 < s.promisedDevice then g * s.floorPs / s.promisedDevice else g
  { bal := min (share * 8000000 : Int) (k.bal + (g1 : Int)), last := s.now }

/-- Bring every GUARANTEED queue's credit up to now, before the scaling of R156 changes. -/
def State.accrueAll (s : State) : State :=
  { s with queues := s.queues.map (fun p =>
      (p.1, match s.qcfg (queueOfKey p.1).1 (queueOfKey p.1).2 with | some c => { p.2 with credit := accrue s p.2.credit c.share } | none => p.2)) }

/-- Bring the credits up to now where DERATED scales them, before a basin joins or leaves the device pace (R69, R156). -/
def State.accrueDerated (s : State) : State := s.when s.bsn.derated State.accrueAll

/-- The rule of a partition and opcode in the active Layout. -/
def State.rule (s : State) (p op : Nat) : Option Rule :=
  match s.lay.active with
  | none => none
  | some l => l.rules.find? (fun r => r.part == p && r.opcode == op)

/-- Key of a rule's bucket. -/
def ruleKey (p op : Nat) : Nat := p * 65536 + op

/-- The rule bucket, at its cap where nothing was charged since the launch (R162). -/
def State.ruleBucket (s : State) (p op cap : Nat) : Bucket := tabGet s.slu.rules (ruleKey p op) { bal := cap * 1000000, last := s.now }

/-- Kib of R162. -/
def kibOf (d : Bytes) : Nat := ceilDiv (inLenOf d + outLenOf d) 1024

/-- Refill a queue's buckets and credit at the admission instant. -/
def State.refillQueue (s : State) (f : FnId) (q : Nat) : State :=
  match s.qcfg f q with
  | none => s
  | some c =>
    let x := s.queue f q
    s.setQueue f q { x with
      cmdBal := refill x.cmdBal c.cmdQuota s.now
      kibBal := refill x.kibBal c.kibQuota s.now
      credit := accrue s x.credit c.share }

/-- Step 4 of R151: some quota refuses the command (R162), the buckets being refilled. -/
def quotaRefuses (s : State) (f : FnId) (q p : Nat) (d : Bytes) : Bool :=
  match s.qcfg f q with
  | none => false
  | some c =>
    let x := s.queue f q
    (decide (0 < c.cmdQuota) && decide (x.cmdBal.bal < 1000000))
    || (decide (0 < c.kibQuota) && decide (0 < kibOf d) && decide (x.kibBal.bal ≤ 0))
    || (match s.rule p (opcodeOf d) with
        | some r => decide (0 < r.limit) && decide ((refill (s.ruleBucket p (opcodeOf d) r.limit) r.limit s.now).bal < 1000000)
        | none => false)

/-- Charge the quotas and the credit of an admitted command (R156, R162). -/
def State.charge (s : State) (f : FnId) (q p : Nat) (x : Cmd) (b : Nat) : State :=
  match s.qcfg f q with
  | none => s
  | some c =>
    let y := s.queue f q
    let y1 := { y with
      cmdBal := { y.cmdBal with bal := y.cmdBal.bal - 1000000 }
      kibBal := { y.kibBal with bal := y.kibBal.bal - (kibOf x.desc * 1000000 : Int) }
      credit := if c.cls = 0 then { y.credit with bal := y.credit.bal - ((workJ s x b + workK s x b : Nat) : Int) } else y.credit }
    let s1 := s.setQueue f q y1
    match s.rule p (opcodeOf x.desc) with
    | none => s1
    | some r =>
      let k := refill (s.ruleBucket p (opcodeOf x.desc) r.limit) r.limit s.now
      { s1 with slu := { s1.slu with rules := tabSet s1.slu.rules (ruleKey p (opcodeOf x.desc)) { k with bal := k.bal - 1000000 } } }

/-- Priority and weight at admission (R155): 0 G, 1 S, 2 B; and whether OVER_SHARE sets. -/
def priorityOf (cls share : Nat) (credit : Int) : Nat × Nat × Bool :=
  if cls = 2 then (2, 1, false)
  else if cls = 1 then (1, max share 1, false)
  else if 0 ≤ credit then (0, 1, false)
  else (1, max share 1, true)

/-- A class is suspended for a queue (R171): its SUSPEND bit, or no serving or parked basin that R170 allows. -/
def noBasinFor (s : State) (p : Nat) : Bool :=
  !(basinNums.any (fun b => ((s.basin b).serving || (s.basin b).asleep) && s.mayServe p b))

/-- The partitions with queues in the active Layout that have no serving or parked basin (R171). -/
def lacking (s : State) : List Nat := match s.lay.active with | none => [] | some l => ((l.queues.map (·.part)).eraseDups).filter (noBasinFor s)

/-- AUTO_SUSPEND sets when a change leaves a partition without a basin it had before (R171). -/
def State.noteSuspended (s before : State) : State :=
  s.when ((lacking s).any (fun p => !(lacking before).contains p)) (fun a => a.sluEvent 2)

/-- The command takes jets: it has jet work, or, with none at all, the one jet of an empty payload (R357). -/
def Cmd.usesJets (c : Cmd) : Bool := decide (0 < c.ej) || c.ek == 0

/-- The virtual finish tags of a priority-S command on its basin (R164), work scaled by 10^6 over the weight. -/
def State.giveTags (s : State) (x : Cmd) (b : Nat) : Cmd × State :=
  if x.prio ≠ 1 then (x, s)
  else
    let y := s.basin b
    let k := qKey x.fn x.q
    let tj := max y.vJ (tabGet y.tagsJ k 0) + workJ s x b * 1000000 / max x.weight 1
    let tk := max y.vK (tabGet y.tagsK k 0) + workK s x b * 1000000 / max x.weight 1
    let y1 := if x.usesJets then { y with tagsJ := tabSet y.tagsJ k tj } else y
    let y2 := if 0 < x.ek then { y1 with tagsK := tabSet y1.tagsK k tk } else y1
    ({ x with finJ := tj, finK := tk }, s.setBasin b y2)

/-- While a resource holds no admitted, undispatched priority-S command, its V and previous tags return to 0 (R164). -/
def State.resetVirtual (s : State) (b : Nat) : State :=
  let l := s.onBasin b
  let y := s.basin b
  let y1 := if l.any (fun c => c.2.prio == 1 && c.2.usesJets && !c.2.onJets && c.2.segs == c.2.segsAll) then y else { y with vJ := 0, tagsJ := [] }
  let y2 := if l.any (fun c => c.2.prio == 1 && decide (0 < c.2.ek) && !c.2.onCascade) then y1 else { y1 with vK := 0, tagsK := [] }
  s.setBasin b y2

end Sys2Proof.Machine
end

