-- ==== Sys2Proof/Machine/Verdicts.lean ====
section
/-! DEFINITION. The verdict's checks (R168): the roles of the named keys (R292, R332, R349, R378 to R387), the checks their
chapters add under check 6, partner classes, translation pairs and key states. -/

namespace Sys2Proof.Machine

/-- A named key's role: the usage bits it needs, the ALGs it may have, and how its state is judged (0 by use, 1 export of
public components, 2 a state change). -/
structure Role where
  handle : BitVec 64
  usage : Nat
  algs : List Nat
  mode : Nat := 0

def aesAlgs : List Nat := [1, 2, 3]
def tdesAlgs : List Nat := [4, 5]

/-- ALGs of an input key (R330, R332): the format's cipher, or the DUKPT variant's. -/
def pinInAlgs (d : Bytes) : List Nat :=
  if bitAt (param d 2 1) 0 then (if bitAt (param d 2 1) 1 then aesAlgs else tdesAlgs)
  else if param d 0 1 = 4 then aesAlgs else tdesAlgs

/-- DUKPT set in a MAC command's FLAGS. -/
def macDukpt (d : Bytes) : Bool := bitAt (param d 3 1) 0

/-- ALGs of a MAC key (R330, R332). -/
def macAlgs (d : Bytes) : List Nat :=
  if macDukpt d then (if bitAt (param d 3 1) 1 then aesAlgs else tdesAlgs)
  else if param d 0 1 = 3 then [4] else aesAlgs ++ tdesAlgs

/-- The roles of the keys a descriptor names. -/
def roles (d : Bytes) : List Role :=
  let op := opcodeOf d
  let k1 := key1Of d
  let k2 := key2Of d
  let dukpt (b : Bool) : Nat := if b then 2 ^ 12 else 0
  if op = 0x0101 then
    [⟨k1, 2 ^ 6 + dukpt (bitAt (param d 2 1) 0), pinInAlgs d, 0⟩, ⟨k2, 2 ^ 7, if param d 1 1 = 4 then aesAlgs else tdesAlgs, 0⟩]
  else if op = 0x0102 then
    [⟨k1, 2 ^ 6 + dukpt (bitAt (param d 2 1) 0), pinInAlgs d, 0⟩, ⟨k2, 2 ^ 8, if param d 1 1 = 1 then [4] else aesAlgs ++ tdesAlgs, 0⟩]
  else if op = 0x0110 then [⟨k1, 2 ^ 4 + dukpt (macDukpt d), macAlgs d, 0⟩]
  else if op = 0x0111 then [⟨k1, 2 ^ 5 + dukpt (macDukpt d), macAlgs d, 0⟩]
  else if op = 0x0120 then [⟨k1, 2 ^ 11, 4 :: aesAlgs, 0⟩]
  else if op = 0x0130 then [⟨k1, 2 ^ 9, [4], 0⟩]
  else if op = 0x0131 then [⟨k1, 2 ^ 10, [4], 0⟩]
  else if op = 0x0201 || op = 0x0202 then
    let u := if op = 0x0201 then 2 ^ 0 else 2 ^ 1
    if param d 0 1 = 2 then [⟨k1, u, [1, 3], 0⟩, ⟨k2, u, [1, 3], 0⟩] else [⟨k1, u, aesAlgs, 0⟩]
  else if op = 0x0210 then [⟨k1, 2 ^ 2, aesAlgs, 0⟩]
  else if op = 0x0211 then [⟨k1, 2 ^ 3, aesAlgs, 0⟩]
  else if op = 0x0221 then [⟨k1, 2 ^ 4, [8], 0⟩]
  else if op = 0x0301 then [⟨k1, 2 ^ 16, signAlgs op, 0⟩]
  else if op = 0x0302 || op = 0x0303 then [⟨k1, 2 ^ 17, signAlgs op, 0⟩]
  else if op = 0x0310 then [⟨k1, 2 ^ 18, [0x31], 0⟩]
  else if op = 0x0311 then [⟨k1, 2 ^ 19, [0x31], 0⟩]
  else if op = 0x0320 then [⟨k1, 2 ^ 20, [0x20, 0x21], 0⟩]
  else if op = 0x0340 then (if k1 = 0 then [] else [⟨k1, 2 ^ 16, algCodes, 0⟩])
  else if op = 0x0401 then (if param d 0x20 1 = 0 then [⟨k2, 2 ^ 15, [3, 4, 5], 0⟩] else [])
  else if op = 0x0402 then
    if param d 0 1 = 2 then [⟨k1, 0, algCodes.filter (fun a => decide (0 < publicLen a)), 1⟩]
    else [⟨k1, 2 ^ 21, blockAlgs, 0⟩, ⟨k2, 2 ^ 14, if param d 0 1 = 0 then [3] else tdesAlgs, 0⟩]
  else if op = 0x0404 then
    let m := param d 0x20 1
    [⟨k1, if m = 0 then 2 ^ 13 else 2 ^ 12, if m = 0 then aesAlgs else if m = 1 then [1, 3] else tdesAlgs, 0⟩]
  else if op = 0x0405 || op = 0x0406 then [⟨k1, 0, algCodes, 2⟩]
  else []

/-! ## Key blocks (R294) -/

/-- A two-character field of a key block's header. -/
def hdr2 (bs : Bytes) (i : Nat) : Nat := beNat (slice bs i 2)

/-- Usage bits of a header's usage and mode of use (R294), none for a combination the table does not hold. -/
def blockUsage (use mode : Nat) : Option Nat :=
  let b (c1 c2 : Char) : Nat := c1.toNat * 256 + c2.toNat
  let e := mode == 'E'.toNat || mode == 'G'.toNat
  let v := mode == 'D'.toNat || mode == 'V'.toNat
  let c := mode == 'B'.toNat || mode == 'C'.toNat
  let n := mode == 'N'.toNat || mode == 'X'.toNat
  let pick (x y z : Nat) : Option Nat := if e && x != 0 then some x else if v && y != 0 then some y else if c && z != 0 then some z else none
  if use = b 'B' '0' then (if n then some (2 ^ 12) else none)
  else if use = b 'D' '0' then pick (2 ^ 0) (2 ^ 1) (2 ^ 0 + 2 ^ 1)
  else if use = b 'K' '0' then pick (2 ^ 14) (2 ^ 15) (2 ^ 14 + 2 ^ 15)
  else if use = b 'K' '1' then pick 0 0 (2 ^ 14 + 2 ^ 15)
  else if use = b 'M' '1' || use = b 'M' '3' || use = b 'M' '6' then pick (2 ^ 4) (2 ^ 5) (2 ^ 4 + 2 ^ 5)
  else if use = b 'P' '0' then pick (2 ^ 7) (2 ^ 6) (2 ^ 6 + 2 ^ 7)
  else if use = b 'V' '0' then pick 0 (2 ^ 8) 0
  else if use = b 'C' '0' then pick (2 ^ 9) (2 ^ 10) (2 ^ 9 + 2 ^ 10)
  else if use = b 'E' '0' then (if n then some (2 ^ 11) else none)
  else if use = b 'S' '0' then pick (2 ^ 16) (2 ^ 17) (2 ^ 16 + 2 ^ 17)
  else none

/-- Rows of R294 for an export: usage bits, usage code and mode. A K1 row is never needed, K0 maps the same bits. -/
def exportRows : List (Nat × String × Char) :=
  [(2 ^ 12, "B0", 'N'), (2 ^ 0, "D0", 'E'), (2 ^ 1, "D0", 'D'), (2 ^ 0 + 2 ^ 1, "D0", 'B'),
   (2 ^ 14, "K0", 'E'), (2 ^ 15, "K0", 'D'), (2 ^ 14 + 2 ^ 15, "K0", 'B'),
   (2 ^ 4, "M6", 'G'), (2 ^ 5, "M6", 'V'), (2 ^ 4 + 2 ^ 5, "M6", 'C'),
   (2 ^ 7, "P0", 'E'), (2 ^ 6, "P0", 'D'), (2 ^ 6 + 2 ^ 7, "P0", 'B'), (2 ^ 8, "V0", 'V'),
   (2 ^ 9, "C0", 'G'), (2 ^ 10, "C0", 'V'), (2 ^ 9 + 2 ^ 10, "C0", 'C'), (2 ^ 11, "E0", 'X'),
   (2 ^ 16, "S0", 'G'), (2 ^ 17, "S0", 'V'), (2 ^ 16 + 2 ^ 17, "S0", 'C')]

/-- The header row that fits a key's bits, EXPORTABLE apart (R294). -/
def exportRow (usage : Nat) : Option (Nat × String × Char) :=
  exportRows.find? (fun r => r.1 == usage - bitsAt usage 21 1 * 2 ^ 21)

/-- Optional blocks of a key block from an offset: identifier and data; none where the structure breaks (R294). -/
def optBlocks : Nat → Bytes → Nat → Option (List (Nat × Bytes))
  | 0, _, _ => some []
  | n + 1, bs, off =>
    let hex (c : Byte) : Nat := let v := c.toNat
      if 48 ≤ v && v ≤ 57 then v - 48 else if 65 ≤ v && v ≤ 70 then v - 55 else 99
    let len := hex (bs.getD (off + 2) 0) * 16 + hex (bs.getD (off + 3) 0)
    if len < 4 || 255 < len || bs.length < off + len then none
    else (optBlocks n bs (off + len)).map ((hdr2 bs off, slice bs (off + 4) (len - 4)) :: ·)

/-- Two ASCII decimal digits. -/
def ascii2 (bs : Bytes) (i : Nat) : Nat := ((bs.getD i 0).toNat - 48) * 10 + ((bs.getD (i + 1) 0).toNat - 48)

/-- Hexadecimal ASCII as a number. -/
def hexNat (bs : Bytes) : Nat :=
  bs.foldl (fun a c => let v := c.toNat; a * 16 + (if 48 ≤ v && v ≤ 57 then v - 48 else if 65 ≤ v && v ≤ 70 then v - 55 else 0)) 0

/-- The parts of a key block: version letter, algorithm letter, usage bits with EXPORTABLE, BDK_ID; none where the header is
outside what R294 supports (MALFORMED/FIELD). -/
def blockHeader (bs : Bytes) : Option (Nat × Nat × Nat × Nat) :=
  let ver := (bs.getD 0 0).toNat
  let alg := (bs.getD 7 0).toNat
  let expo := (bs.getD 11 0).toNat
  if !(ver == 'D'.toNat || ver == 'B'.toNat) || !(['A', 'T', 'E', 'R'].any (fun c => c.toNat == alg))
      || !(['E', 'N', 'S'].any (fun c => c.toNat == expo)) then none
  else
    match blockUsage (hdr2 bs 5) (bs.getD 8 0).toNat, optBlocks (ascii2 bs 12) bs 16 with
    | some u, some os =>
      let id (a b : Char) : Nat := a.toNat * 256 + b.toNat
      if os.any (fun o => !([id 'B' 'I', id 'P' 'B', id 'T' 'S', id 'K' 'P'].contains o.1)) then none
      else
        let bdk := match os.find? (fun o => o.1 == id 'B' 'I') with | some o => hexNat (o.2.drop 2) % 2 ^ 32 | none => 0
        some (ver, alg, u + (if expo = 'E'.toNat then 2 ^ 21 else 0), bdk)
    | _, _ => none

/-- Algorithm code of a header for an ALG (R294). -/
def blockAlgLetter (alg : Nat) : Nat := if isAes alg then 'A'.toNat else if isTdes alg then 'T'.toNat else if isRsa alg then 'R'.toNat else 'E'.toNat

/-! ## New records (R281, R295) -/

/-- The command creates a record (R271). -/
def creates (op : Nat) : Bool := [0x0401, 0x0403, 0x0404, 0x0330, 0x0320, 0x0310, 0x0311].contains op

/-- A KEY.IMPORT of FORMAT 1: PUBLIC_ONLY. -/
def publicImportOf (d : Bytes) : Bool := opcodeOf d == 0x0401 && param d 0x20 1 == 1

/-- USAGE of the new record: as the block states for an X9.143 import with USAGE 0, EXPORTABLE as its exportability says. -/
def newUsage (d input : Bytes) : Nat :=
  let u := attrUsage d
  if opcodeOf d = 0x0401 && param d 0x20 1 = 0 then
    match blockHeader input with
    | some (_, _, bu, _) => if u = 0 then bu else u - bitsAt u 21 1 * 2 ^ 21 + bitsAt bu 21 1 * 2 ^ 21
    | none => u
  else u

/-- Usage a key pair may carry (R384). -/
def pairUsage (alg : Nat) : Nat :=
  2 ^ 21 + (if isEc alg then 2 ^ 16 + 2 ^ 17 + 2 ^ 20 else if alg = 0x31 then 2 ^ 18 + 2 ^ 19 else 2 ^ 16 + 2 ^ 17)

/-- Check 6 on the new record (R271, R281, R292, R384), against the active and, while STAGED or SCHEDULED, the staged classes. -/
def newOk (s : State) (p : Nat) (d input : Bytes) : Bool :=
  let u := newUsage d input
  let ok (cs : List KeyClass) : Bool := newRecordOk cs (attrClass d) (attrAlg d) u (attrSession d)
  let staged := match s.lay.staged with
    | some l => if s.lay.stage == .staged || s.lay.stage == .scheduled then ok l.keyClasses else true
    | none => true
  ok s.classes && staged && (p != 0 || attrSession d)
    && (opcodeOf d != 0x0330 || bitsIn u (pairUsage (attrAlg d)))
    && (!publicImportOf d || bitsIn u (2 ^ 17 + 2 ^ 18))

/-! ## Check 6 beyond usage bits -/

/-- The checks that chapters place under check 6 (R290, R330, R332, R337, R339, R349, R294). -/
def extraUsage (s : State) (d : Bytes) : Bool :=
  let op := opcodeOf d
  match s.record (key1Of d) with
  | none => true
  | some r =>
    if op = 0x0101 || op = 0x0102 then
      let fl := param d 2 1
      !bitAt fl 0 ||
        (if bitAt fl 1 then
           decide (beNat (paramBytes d 8 4) = r.bdkId.toNat) && decide (symLen (param d 3 1) ≤ symLen r.alg) && param d 0 1 == 4
         else param d 0 1 != 4)
    else if op = 0x0110 || op = 0x0111 then
      let fl := param d 3 1
      let wkTdes := if bitAt fl 0 then !bitAt fl 1 else isTdes r.alg
      !(wkTdes && decide (8 < param d 2 1))
        && (!bitAt fl 0 || !bitAt fl 1 ||
             (decide (beNat (paramBytes d 8 4) = r.bdkId.toNat) && decide (symLen (param d 4 1) ≤ symLen r.alg) && param d 0 1 != 3))
    else if op = 0x0120 then
      if isAes r.alg then param d 0 1 != 1 && param d 1 1 == 0 else param d 1 1 == 1 || param d 1 1 == 2
    else if (op = 0x0201 || op = 0x0202) && param d 0 1 = 2 then
      match s.record (key2Of d) with | some r2 => r2.alg == r.alg | none => true
    else if op = 0x0402 && param d 0 1 ≠ 2 then (exportRow r.usage.toNat).isSome
    else true

/-- A role's key carries the usage bits and an ALG of the role; a key read as DESTROYED fails only check 9. -/
def roleOk (s : State) (x : Role) : Bool :=
  match s.record x.handle with
  | none => true
  | some r => bitsIn x.usage r.usage.toNat && x.algs.contains r.alg

/-- Check 5 on one key (R270, R271, R281). -/
def ownerOk (s : State) (f : FnId) (p : Nat) (d : Bytes) (h : BitVec 64) : Bool :=
  (p == 0 && (opcodeOf d == 0x0405 || opcodeOf d == 0x0406)) ||
    (hPart h == p &&
      match s.record h with
      | some r => !r.session || r.fn == f || s.peer f == some r.fn
      | none => true)

/-- Check 7 (R281). -/
def partnersOk (s : State) (d : Bytes) : Bool :=
  let op := opcodeOf d
  let named := ([key1Of d, key2Of d].filter (· != 0)).filterMap (fun h => (s.record h).map (·.cls))
  let l := if op = 0x0405 || op = 0x0406 then [] else if creates op then named ++ [attrClass d] else named
  match l with
  | [a, b] => partners s.classes a b
  | _ => true

/-- Check 8 (R31, R334). -/
def translationOk (s : State) (d : Bytes) : Bool :=
  if opcodeOf d = 0x0101 then
    let i := param d 0 1
    let o := param d 1 1
    match s.lay.active with
    | none => false
    | some l => !(o == 1 && i != 1) && l.translation.any (fun t => t.inFmt == i && t.outFmt == o && (!bitAt (param d 2 1) 0 || t.dukptIn))
  else true

/-- Check 9 on one key (R276, R277): the status it denies with. -/
def stateDenies (s : State) (d : Bytes) (x : Role) : Option Nat :=
  let st := s.keyState x.handle
  if x.mode = 1 then (if st = 4 then some (keyStatus 4) else none)
  else if x.mode = 2 then
    if opcodeOf d = 0x0406 then none
    else
      let t := param d 0 1
      if param d 1 1 = 1 then (if st = 4 then some (keyStatus 4) else none)
      else if st = t then none
      else if (t = 1 && (st = 0 || st = 2)) || (t = 2 && st = 1) || (t = 3 && (st = 0 || st = 1 || st = 2)) then none
      else some (keyStatus st)
  else if st = 1 then none
  else if st = 3 && bitsIn x.usage retiredUses then none
  else some (keyStatus st)

/-- The rule entry's checks 1 to 3. -/
def ruleDenies (s : State) (f : FnId) (cls : Option Nat) (p : Nat) (d : Bytes) : Option Nat :=
  let op := opcodeOf d
  if isQueueControl op || (isPf0 f && isMgmt op) then none
  else
    match s.rule p op with
    | none => some 0x0301
    | some r =>
      let kib := ceilDiv (max (inLenOf d) (outLenOf d)) 1024
      if !r.allowed then some 0x0301
      else if !(match cls with | some k => r.classes.getLsbD k | none => false) then some 0x0302
      else if 0 < r.maxKib && r.maxKib < kib then some 0x0303
      else none

/-- Check 4 (R90, R150). -/
def functionDenies (s : State) (f : FnId) (p : Nat) (d : Bytes) : Bool :=
  (isMgmt (opcodeOf d) && !isPf0 f) ||
    (opcodeOf d == 3 && !isPf0 f && (tabGet s.tbs.launch (param d 0 1) {}).origin != p)

/-- The class a command's rules are checked for: its queue's, or, for one that a re-attach moved, the one of its admission (R117). -/
def classFor (s : State) (c : Cmd) : Option Nat := if c.moved then some c.cls else (s.qcfg c.fn c.q).map (·.cls)

/-- The status the verdict denies with, none for ALLOW (R168). Where two named keys fail check 9, it is the status of the first role's
(log entry 156). -/
def denial (s : State) (f : FnId) (cls : Option Nat) (d input : Bytes) : Option Nat :=
  let op := opcodeOf d
  let p := (s.partOf f).getD 0
  let rs := roles d
  match ruleDenies s f cls p d with
  | some st => some st
  | none =>
    if functionDenies s f p d then some 0x0304
    else if rs.any (fun x => !ownerOk s f p d x.handle) then some 0x0305
    else if rs.any (fun x => !roleOk s x) || !extraUsage s d || (creates op && !newOk s p d input) then some 0x0306
    else if !partnersOk s d then some 0x0307
    else if !translationOk s d then some 0x0308
    else (rs.filterMap (stateDenies s d)).head?

end Sys2Proof.Machine
end

