-- ==== Sys2Proof/Machine/Demand.lean ====
section
/-! DEFINITION. The demand figures E_J, N_J and E_K of every command that uses a basin (R158, R225, R226, R232, R296, R331,
R334 to R344, R357 to R367, R389), and its segments (R165). -/

namespace Sys2Proof.Machine

/-- Some basin holds the record (R344). -/
def resident (s : State) (h : BitVec 64) : Bool := s.basins.any (fun b => b.2.holdsKey h)

/-- The ALG of a key resident on some basin, else the costliest the descriptor allows (R344). -/
def demandAlg (s : State) (h : BitVec 64) (costliest : Nat) : Nat :=
  match s.record h with | some r => if resident s h then r.alg else costliest | none => costliest

/-- k of R331: encipherments of one AES derivation. -/
def dukptK (alg : Nat) : Nat := if alg = 1 then 1 else 2

/-- D of R331. -/
def dukptCost (s : State) (d : Bytes) (fl wk : Nat) : Nat :=
  if !bitAt fl 0 then 0
  else
    let w := popcount (ksnCounter (bitAt fl 1) (paramBytes d 8 12))
    if bitAt fl 1 then
      let bdk := demandAlg s (key1Of d) 3
      (w + 1) * (2 + dukptK bdk * cyclesOf bdk) + (2 + dukptK wk * cyclesOf bdk)
    else 100 + 36 * w

/-- X_in of R334. -/
def pinInCost (s : State) (d : Bytes) : Nat :=
  if param d 0 1 = 4 then
    3 * cyclesOf (if bitAt (param d 2 1) 0 then param d 3 1 else demandAlg s (key1Of d) 3) + 2
  else 50

/-- Padded blocks of an ISO/IEC 9797-1 message (R337). -/
def macBlocks (method len b : Nat) : Nat := if method = 2 then ceilDiv (len + 1) b else max 1 (ceilDiv len b)

/-- The ALG of the key that a MAC command's MAC is computed with: the working key's of a DUKPT derivation, else KEY1's (R337). -/
def macAlg (s : State) (d : Bytes) : Nat :=
  if bitAt (param d 3 1) 0 then (if bitAt (param d 3 1) 1 then param d 4 1 else 4) else demandAlg s (key1Of d) 4

/-- E_J of a MAC under R226. -/
def macCost (algorithm method len alg : Nat) : Nat :=
  let b := blockLen alg
  if algorithm = 0 then max 1 (ceilDiv len b) * cyclesOf alg
  else
    let p := macBlocks method len b
    if algorithm = 3 then 16 * (p - 1) + 48 else p * cyclesOf alg

/-- E_J of ARQC.VERIFY (R340). -/
def arqcCost (s : State) (d : Bytes) : Nat :=
  let alg := demandAlg s (key1Of d) (if param d 1 1 = 0 then 3 else 4)
  let len2 := 12 + param d 0x24 1
  if isAes alg then
    let r := if param d 0 1 = 2 then ceilDiv len2 16 * cyclesOf alg else 0
    2 * (2 + dukptK alg * cyclesOf alg) + max 1 (ceilDiv (inLenOf d) 16) * cyclesOf alg + r
  else
    let r := if param d 0 1 = 1 then 50 else if param d 0 1 = 2 then 16 * (macBlocks 2 len2 8 - 1) + 48 else 0
    196 + 16 * (macBlocks (param d 1 1) (inLenOf d) 8 - 1) + 48 + r

/-! ## Stripes (R225, R230) -/

/-- Payload bytes of a full stripe, and cipher blocks of `n` bytes of it. -/
def stripeBytes (du : Nat) : Nat := if du = 0 then 4096 else if du ≤ 4096 then 4096 / du * du else du

/-- Cipher blocks of a stripe's bytes: one extra per data unit in XTS (R226). -/
def stripeBlocks (du n : Nat) : Nat := ceilDiv n 16 + (if du = 0 then 0 else ceilDiv n du)

/-- Stripes of a payload, at least one. -/
def stripeCount (du p : Nat) : Nat := max 1 (ceilDiv p (stripeBytes du))

/-- Blocks that jet i carries of a payload on `n` jets: stripe s goes to jet s mod n, the last stripe may be shorter (R225). -/
def jetBlocks (du p n i : Nat) : Nat :=
  let sb := stripeBytes du
  let k := stripeCount du p
  let mine := (k + n - 1 - i) / n
  let full := stripeBlocks du sb
  if (k - 1) % n = i then (mine - 1) * full + stripeBlocks du (p - (k - 1) * sb) else mine * full

/-- E_J and N_J of an AEAD command (R357). -/
def aeadCost (s : State) (d : Bytes) (openCmd : Bool) : Nat × Nat :=
  let m := param d 0 1
  let p := aeadP d
  let c := cyclesOf (demandAlg s (key1Of d) 3)
  let release := if openCmd && m != 2 then ceilDiv p 32 else 0
  if m = 1 then
    let a := if param d 2 2 = 0 then 0 else ceilDiv (param d 2 2 + 2) 16
    ((a + ceilDiv p 16 + 2) * c + release, 2)
  else
    let du := if m = 2 then param d 4 4 else 0
    let n := min 8 (stripeCount du p)
    let excess := if m = 0 then 140 + 6 * ceilDiv (param d 2 2) 16 - 200 else 0
    (jetBlocks du p n 0 * c + excess + release, n)

/-- b of R231: bytes of half a numeral string. -/
def ff1B (radix n : Nat) : Nat :=
  let top := radix ^ ((n + 1) / 2) - 1
  ceilDiv (if top = 0 then 0 else Nat.log2 top + 1) 8

/-- E_J of the token commands (R361). -/
def tokenCost (s : State) (d : Bytes) : Nat :=
  let c := cyclesOf (demandAlg s (key1Of d) 3)
  param d 8 2 * ((1 + 10 * ceilDiv (param d 7 1 + ff1B (param d 0 4) (param d 4 2) + 1) 16) * c + 40)

/-! ## Hashes (R232) -/

/-- Rate and cycles of a hash. -/
def hashRate (alg : Nat) : Nat × Nat :=
  if alg = 0x10 then (64, 64) else if alg = 0x11 || alg = 0x12 then (128, 80)
  else if alg = 0x18 || alg = 0x1D then (136, 48) else if alg = 0x19 then (104, 48) else if alg = 0x1A then (72, 48) else (168, 48)

/-- Padded blocks of a message. -/
def hashBlocks (alg len : Nat) : Nat :=
  let r := (hashRate alg).1
  if alg = 0x10 then ceilDiv (len + 9) 64 else if alg = 0x11 || alg = 0x12 then ceilDiv (len + 17) 128 else len / r + 1

def digestCost (d : Bytes) : Nat :=
  let a := param d 0 1
  let extra := if a = 0x1C || a = 0x1D then ceilDiv (outLenOf d) (hashRate a).1 - 1 else 0
  (hashBlocks a (inLenOf d) + extra) * (hashRate a).2

/-! ## Public keys (R267, R389) -/

/-- E_J of a signature or verification. -/
def sigCost (alg sch hash msgLen ctxLen : Nat) (verify : Bool) : Nat :=
  let ed := 80 * ((if verify then 0 else ceilDiv (msgLen + 49) 128) + ceilDiv (msgLen + 81) 128)
  let ml := 48 * ceilDiv (msgLen + ctxLen + 67) 136
  if alg = 0x22 then ed
  else if isEc alg then
    if sch = 1 then 0 else if alg = 0x20 then 64 * ceilDiv (msgLen + 9) 64 else 80 * ceilDiv (msgLen + 17) 128
  else if isRsa alg then hashBlocks hash msgLen * (hashRate hash).2
  else if alg = 0x30 then ml
  else ed + ml

/-- Compressions and permutations of a signature or verification on its hash jet. -/
def sigBlocks (alg sch hash msgLen ctxLen : Nat) (verify : Bool) : Nat :=
  let ed := (if verify then 0 else ceilDiv (msgLen + 49) 128) + ceilDiv (msgLen + 81) 128
  let ml := ceilDiv (msgLen + ctxLen + 67) 136
  if alg = 0x22 then ed
  else if isEc alg then
    if sch = 1 then 0 else if alg = 0x20 then ceilDiv (msgLen + 9) 64 else ceilDiv (msgLen + 17) 128
  else if isRsa alg then hashBlocks hash msgLen
  else if alg = 0x30 then ml
  else ed + ml

/-- The hash jet's algorithm of a public-key command (R267): the curve's or RSA's hash, SHAKE256 for the lattices. -/
def sigHash (alg hash : Nat) : Nat :=
  if alg = 0x20 then 0x10 else if alg = 0x21 then 0x11 else if alg = 0x22 || alg = 0x23 && hash = 0 then 0x12
  else if isRsa alg then hash else 0x1D

/-- E_K of a signature, ML-DSA-65 at 16 iterations (R390). -/
def signK (alg : Nat) : Nat :=
  if alg = 0x20 then 100479 else if alg = 0x21 then 227273 else if alg = 0x22 then 71770 else if alg = 0x23 then 454545
  else if alg = 0x24 then 1534000 else if alg = 0x25 then 3468900 else if alg = 0x30 then 590158 else 661928

/-- E_K of a verification. -/
def verifyK (alg : Nat) : Nat :=
  if alg = 0x20 then 188000 else if alg = 0x21 then 425000 else if alg = 0x22 then 179426 else if alg = 0x23 then 9000
  else if alg = 0x24 then 19000 else if alg = 0x25 then 33000 else if alg = 0x30 then 131579 else 311005

/-- E_K of KEYPAIR.GENERATE. -/
def pairK (alg : Nat) : Nat :=
  if alg = 0x20 then 350000 else if alg = 0x21 then 780000 else if alg = 0x22 then 300000 else if alg = 0x30 then 781737
  else if alg = 0x31 then 135478 else 1081737

/-- E_K of a public import's validation (R373). -/
def importK (alg : Nat) : Nat :=
  if alg = 0x20 then 6000 else if alg = 0x21 then 12000 else if alg = 0x22 || alg = 0x38 then 24000 else if alg = 0x31 then 2000 else 0

/-- The ALG of a public-key command's key, from Cistern's directory; the costliest where it reads as DESTROYED. -/
def pubAlg (s : State) (h : BitVec 64) (costliest : Nat) : Nat := match s.record h with | some r => r.alg | none => costliest

/-- h + 2p of an ANSI X9.143 block of `n` characters (R296): exact for version D, whose header, payload and MAC fill 16-byte blocks; of version B
the header is taken as one block, its length being in the block. -/
def blockWork (n : Nat) (tdes : Bool) : Nat := if tdes then 1 + 2 * ceilDiv ((n - 32) / 2) 16 else ceilDiv (n - 32) 16

/-- E_J of a key command (R296), c and k from the ALGs of Cistern's directory. -/
def keyCost (s : State) (d : Bytes) (op : Nat) : Nat :=
  if op = 0x0401 then
    if publicImportOf d then 2880
    else
      let a := pubAlg s (key2Of d) 4
      (7 + blockWork (inLenOf d) (isTdes a)) * cyclesOf a + 2880
  else if op = 0x0402 then
    if param d 0 1 = 2 then 40
    else
      let c := cyclesOf (if param d 0 1 = 0 then 3 else 4)
      let n := match s.record (key1Of d) with | some r => (r.comps.map (fun x => x.2.length)).sum | none => 32
      (7 + 1 + 2 * ceilDiv (2 + n) 16) * c + 2880
  else if op = 0x0403 then cyclesOf (if isTdes (attrAlg d) then 4 else if isAes (attrAlg d) then attrAlg d else 3) + 2880
  else if op = 0x0404 then
    let k := ceilDiv (if attrAlg d = 8 then 32 else symLen (attrAlg d)) 16
    if param d 0x20 1 = 0 then (k + 2) * 14 + 2880
    else (k + 3) * cyclesOf (if param d 0x20 1 = 1 then pubAlg s (key1Of d) 3 else 4) + 2880
  else 480

/-- (E_J, N_J, E_K) of a descriptor. -/
def demandOf (s : State) (d : Bytes) : Nat × Nat × Nat :=
  let op := opcodeOf d
  if op = 0x0101 then
    (dukptCost s d (param d 2 1) (param d 3 1) + pinInCost s d
      + (if param d 1 1 = 4 then 2 * cyclesOf (demandAlg s (key2Of d) 3) + 2 else 50), 1, 0)
  else if op = 0x0102 then
    (dukptCost s d (param d 2 1) (param d 3 1) + pinInCost s d + 2 + cyclesOf (demandAlg s (key2Of d) 4), 1, 0)
  else if op = 0x0110 || op = 0x0111 then
    (dukptCost s d (param d 3 1) (param d 4 1) + macCost (param d 0 1) (param d 1 1) (inLenOf d) (macAlg s d), 1, 0)
  else if op = 0x0120 then (arqcCost s d, 1, 0)
  else if op = 0x0130 || op = 0x0131 then (68, 1, 0)
  else if op = 0x0201 || op = 0x0202 then ((aeadCost s d (op == 0x0202)).1, (aeadCost s d (op == 0x0202)).2, 0)
  else if op = 0x0210 || op = 0x0211 then (tokenCost s d, 1, 0)
  else if op = 0x0220 then (digestCost d, 1, 0)
  else if op = 0x0221 then ((hashBlocks (param d 0 1) (inLenOf d) + 3) * (hashRate (param d 0 1)).2, 1, 0)
  else if op = 0x0230 then (24 * ceilDiv (outLenOf d) 16 + (if param d 0 1 = 1 then 16000 else 0), 1, 0)
  else if op = 0x0301 then
    let a := pubAlg s (key1Of d) 0x25
    (sigCost a (param d 0 1) (param d 1 1) (param d 4 4) (param d 2 1) false, 1, signK a)
  else if op = 0x0302 || op = 0x0303 then
    let a := if op = 0x0303 then 0x38 else pubAlg s (key1Of d) 0x21
    (sigCost a (param d 0 1) (param d 1 1) (param d 4 4) (param d 2 1) true, 1, verifyK a)
  else if op = 0x0310 then (80, 1, 43062)
  else if op = 0x0311 then (80, 1, 57416)
  else if op = 0x0320 then (80, 1, if pubAlg s (key1Of d) 0x21 = 0x20 then 95000 else 215000)
  else if op = 0x0330 then (80, 1, pairK (attrAlg d))
  else if op = 0x0340 then (992, 1, 661928)
  else (keyCost s d op, 1, if op = 0x0401 && publicImportOf d then importK (attrAlg d) else 0)

/-! ## Blocks (JET_BLOCKS) -/

/-- Encipherments of a DUKPT derivation (R331). -/
def dukptBlocks (s : State) (d : Bytes) (fl wk : Nat) : Nat :=
  if !bitAt fl 0 then 0
  else
    let w := popcount (ksnCounter (bitAt fl 1) (paramBytes d 8 12))
    if bitAt fl 1 then (w + 1) * dukptK (demandAlg s (key1Of d) 3) + dukptK wk else 2 + 2 * w

/-- Encipherments of ARQC.VERIFY (R340). -/
def arqcBlocks (s : State) (d : Bytes) : Nat :=
  let alg := demandAlg s (key1Of d) (if param d 1 1 = 0 then 3 else 4)
  let len2 := 12 + param d 0x24 1
  if isAes alg then 2 * dukptK alg + max 1 (ceilDiv (inLenOf d) 16) + (if param d 0 1 = 2 then ceilDiv len2 16 else 0)
  else 4 + macBlocks (param d 1 1) (inLenOf d) 8 + (if param d 0 1 = 1 then 1 else if param d 0 1 = 2 then macBlocks 2 len2 8 else 0)

/-- Blocks or compressions that the first jet of a command outside the parallel modes carries, by the block counts that its E_J rests on (R225,
R229, R231 to R233, R296, R331 to R340; log entry 142). -/
def jetWork (s : State) (d : Bytes) : Nat :=
  let op := opcodeOf d
  let pinIn := if param d 0 1 = 4 then 3 else 1
  if op = 0x0101 then dukptBlocks s d (param d 2 1) (param d 3 1) + pinIn + (if param d 1 1 = 4 then 2 else 1)
  else if op = 0x0102 then dukptBlocks s d (param d 2 1) (param d 3 1) + pinIn + 1
  else if op = 0x0110 || op = 0x0111 then
    dukptBlocks s d (param d 3 1) (param d 4 1)
      + (if param d 0 1 = 0 then max 1 (ceilDiv (inLenOf d) (blockLen (macAlg s d))) else macBlocks (param d 1 1) (inLenOf d) (blockLen (macAlg s d)))
  else if op = 0x0120 then arqcBlocks s d
  else if op = 0x0130 || op = 0x0131 then 2
  else if op = 0x0201 || op = 0x0202 then (if param d 2 2 = 0 then 0 else ceilDiv (param d 2 2 + 2) 16) + ceilDiv (aeadP d) 16 + 2
  else if op = 0x0210 || op = 0x0211 then param d 8 2 * (1 + 10 * ceilDiv (param d 7 1 + ff1B (param d 0 4) (param d 4 2) + 1) 16)
  else if op = 0x0220 then digestCost d / (hashRate (param d 0 1)).2
  else if op = 0x0221 then hashBlocks (param d 0 1) (inLenOf d) + 3
  else if op = 0x0301 then sigBlocks (pubAlg s (key1Of d) 0x25) (param d 0 1) (param d 1 1) (param d 4 4) (param d 2 1) false
  else if op = 0x0302 || op = 0x0303 then
    sigBlocks (if op = 0x0303 then 0x38 else pubAlg s (key1Of d) 0x21) (param d 0 1) (param d 1 1) (param d 4 4) (param d 2 1) true
  else if op = 0x0340 then 14
  else if op / 256 = 3 then 1
  else if op = 0x0401 then (if publicImportOf d then 0 else 7 + blockWork (inLenOf d) (isTdes (pubAlg s (key2Of d) 4)))
  else if op = 0x0402 then
    (if param d 0 1 = 2 then 0
     else 8 + 2 * ceilDiv (2 + (match s.record (key1Of d) with | some r => (r.comps.map (fun x => x.2.length)).sum | none => 32)) 16)
  else if op = 0x0403 then 1
  else if op = 0x0404 then ceilDiv (if attrAlg d = 8 then 32 else symLen (attrAlg d)) 16 + (if param d 0x20 1 = 0 then 2 else 3)
  else 0

/-- Segments of a jet phase: 256 KiB of payload each (R165), a run only for more than 256 KiB. -/
def segmentsOf (d : Bytes) : Nat := max 1 (ceilDiv (payloadOf d) 262144)

end Sys2Proof.Machine
end

