-- ==== Sys2Proof/Machine/LaunchTable.lean ====
section
/-! DEFINITION. The launch table (04): arming under R86, cancelling under R90, and its effect on held batches (R134). -/

namespace Sys2Proof.Machine

/-- The numbers of the launch entries. -/
def launchNums : List Nat := List.range 64

/-- A launch entry. -/
def State.launch (s : State) (n : Nat) : LaunchEntry := tabGet s.tbs.launch n {}

/-- Put a launch entry. -/
def State.setLaunch (s : State) (n : Nat) (x : LaunchEntry) : State :=
  { s with tbs := { s.tbs with launch := tabSet s.tbs.launch n x } }

/-- The KIND code (R85), 0 for none. -/
def kindCode : Option LaunchKind → Nat
  | none => 0
  | some .layout => 1
  | some .weirSwap => 2
  | some .keyActivate => 3
  | some .keyRetire => 4
  | some .batchRelease => 5
  | some .basinRetire => 6
  | some .basinAdmit => 7

/-- The STATE code (R84). -/
def LaunchState.code : LaunchState → Nat
  | .free => 0
  | .armed => 1
  | .fired => 2
  | .missed => 3
  | .failed => 4
  | .cancelled => 5

/-- Both kinds name a key. -/
def keyKind (k : Option LaunchKind) : Bool := k == some .keyActivate || k == some .keyRetire

/-- Both kinds name a basin. -/
def basinKind (k : Option LaunchKind) : Bool := k == some .basinRetire || k == some .basinAdmit

/-- The ARMED entries. -/
def State.armed (s : State) : List LaunchEntry := (launchNums.map s.launch).filter (fun x => x.state == .armed)

/-- Check 2 of R86: an ARMED entry names the same key or basin at the same instant, or is a second LAYOUT. -/
def launchConflict (s : State) (kind : LaunchKind) (instant arg : Nat) : Bool :=
  s.armed.any (fun x =>
    (keyKind (some kind) && keyKind x.kind && x.arg == arg && x.instant == instant)
    || (basinKind (some kind) && basinKind x.kind && x.arg % 8 == arg % 8 && x.instant == instant)
    || (kind == .layout && x.kind == some .layout))

/-- Where a new entry goes (R86): the lowest FREE entry, else the final-state entry with the lowest SEQ. -/
def State.launchRoom (s : State) : Option Nat :=
  match launchNums.find? (fun n => (s.launch n).state == .free) with
  | some n => some n
  | none =>
    launchNums.foldl (fun best n =>
      if (s.launch n).state == .armed then best
      else
        match best with
        | none => some n
        | some m => if (s.launch n).seq < (s.launch m).seq then some n else some m) none

/-- Check 3 of R86: the limits of partitions. -/
def launchQuota (s : State) (origin : Nat) : Bool :=
  origin != 0 &&
    (decide (2 ≤ (s.armed.filter (fun x => x.origin == origin)).length)
     || decide (48 ≤ (s.armed.filter (fun x => x.origin != 0)).length))

/-- Arm an entry after the checks of R86 made at arming: its number, or the status that refuses it. -/
def State.arm (s : State) (kind : LaunchKind) (instant arg origin : Nat) (owner : FnId) : Nat ⊕ (Nat × State) :=
  if instant < s.now + 1000000 || s.now + 2 ^ 56 < instant then .inl 0x0222
  else if launchConflict s kind instant arg then .inl 0x0223
  else
    match s.launchRoom with
    | none => .inl 0x0102
    | some n =>
      if launchQuota s origin then .inl 0x0102
      else
        let x : LaunchEntry := { instant := instant, kind := some kind, state := .armed, origin := origin, cause := 0,
                                 seq := s.tbs.nextSeq, arg := arg, firedAt := 0, owner := owner }
        let s1 := s.setLaunch n x
        .inr (n, { s1 with tbs := { s1.tbs with nextSeq := (s1.tbs.nextSeq + 1) % 2 ^ 32 } })

/-- RESULT of an arming command: the entry number in byte 0, its SEQ in bytes 4 to 7. -/
def armResult (n seq : Nat) : Bytes := natLe 4 n ++ natLe 4 seq

/-- The queue a BATCH_RELEASE entry names (R133): its function's queue. -/
def batchQueue (x : LaunchEntry) : FnId × Nat := (⟨bitAt x.arg 40, x.owner.vf⟩, bitsAt x.arg 32 6)

/-- Abandon every held command of a queue's batch in submission order, at once (R134); fetching may resume. -/
def State.abandonBatch (s : State) (f : FnId) (q : Nat) : State :=
  let x := s.queue f q
  let x1 := { x with
    batchId := 0, releaseAt := none
    order := x.order.map (fun it => match it with | .held slot d n => .refused { abandonment s slot d n with windowed := true } | o => o) }
  if x.batchId = 0 then s else (s.setQueue f q x1).drain f q

/-- An ARMED entry leaves for a final state without firing; a BATCH_RELEASE entry then cancels the batch it names and is
recorded in its queue (R134). -/
def State.endLaunch (s : State) (n : Nat) (st : LaunchState) (cause : Nat) : State :=
  let x := s.launch n
  let s1 := s.setLaunch n { x with state := st, cause := cause }
  if x.kind == some .batchRelease then
    let fq := batchQueue x
    let b := bitsAt x.arg 0 32
    let y := s1.queue fq.1 fq.2
    let s2 := s1.setQueue fq.1 fq.2 { y with batchRecord := some (b, false, s.now) }
    if y.batchId = b && b ≠ 0 then s2.abandonBatch fq.1 fq.2 else s2
  else if x.kind == some .layout && st != .fired then
    -- an image whose LAYOUT entry is gone is staged, not scheduled (R36 step 6)
    { s1 with lay := { s1.lay with stage := if s1.lay.stage == .scheduled then .staged else s1.lay.stage, launchAt := 0 } }
  else s1

/-- Cancel every ARMED entry that satisfies a condition. -/
def State.cancelWhere (s : State) (cause : Nat) (c : LaunchEntry → Bool) : State :=
  launchNums.foldl (fun a n => if (a.launch n).state == .armed && c (a.launch n) then a.endLaunch n .cancelled cause else a) s

end Sys2Proof.Machine
end

