-- ==== Sys2Proof/Machine/Admission.lean ====
section
/-! DEFINITION. What happens to a fetched descriptor (R129 to R134, R145, R151 to R163): duplicate answer, hold, form and state
checks, suspension, quotas, slots, feasibility, admission; and the release of a held batch. -/

namespace Sys2Proof.Machine

/-- Begin waking a parked basin (R173). -/
def State.wake (s : State) (b : Nat) : State :=
  if (s.basin b).asleep && !(s.basin b).waking then s.setBasin b { s.basin b with waking := true } else s

/-! ## Host reads -/

/-- The extents of a command's input buffer (R130). -/
def inExtents (c : Cmd) : List (Nat × Nat) :=
  if inSgl c.desc then (sglEntries 4096 c.inList).getD [] else if inLenOf c.desc = 0 then [] else [(inAddrOf c.desc, inLenOf c.desc)]

/-- Issue reads for a command (R94, R351), unless its queue is detached (R114). -/
def State.readAll (s : State) (c : Cmd) (l : List (Nat × Nat)) : State :=
  if (s.queue c.fn c.q).detached then s else l.foldl (fun a x => a.readHost c.fn x.1 x.2) s

/-- The lists a command still awaits. -/
def listReads (c : Cmd) : List (Nat × Nat) :=
  (if inSgl c.desc && c.inList.isEmpty then [(inAddrOf c.desc, 16)] else [])
    ++ (if outSgl c.desc && c.outList.isEmpty then [(outAddrOf c.desc, 16)] else [])

/-- Start the reads of an attempt (R21): its lists first, else its payload. -/
def State.startReads (s : State) (e : Nat) : State :=
  match s.cmd e with
  | none => s
  | some c =>
    let c1 := { c with inList := [], outList := [], input := [], listsDone := !(inSgl c.desc || outSgl c.desc), inputDone := inLenOf c.desc == 0 }
    let s1 := s.setCmd e c1
    if c1.listsDone then s1.readAll c1 (inExtents c1) else s1.readAll c1 (listReads c1)

/-- The management command at the head of the order begins, and its input is read (R153). -/
def State.beginMgmt (s : State) : State :=
  match s.slu.mgmt with
  | [] => s
  | e :: _ =>
    match s.cmd e with
    | none => s
    | some c => if (c.execStart.isNone && s.fnt.restartAt.isNone) then (s.setCmd e { c with execStart := some s.now, phase := .running }).startReads e else s

/-- The DRBG that serves a basin's commands is not seeded. -/
def drbgUnseeded (s : State) (b : Option Nat) : Bool := match b with | some n => !(s.drbg n).inst | none => true

/-- A RANDOM admitted without a feasibility test because its DRBG is not seeded (R365): that of its best serving candidate, or, of a device that
boots, none yet (R154). One whose partition has only parked basins takes the choice of R160 and wakes one. -/
def heldRandom (s : State) (d : Bytes) (b : Option Nat) : Bool :=
  opcodeOf d == 0x0230 && (match b with | some n => !(s.drbg n).inst | none => s.fnt.op == .booting)

/-- A candidate basin for a held RANDOM: the best serving one of the partition, if any. -/
def anyBasin (s : State) (x : Cmd) (p : Nat) : Option Nat :=
  bestBasin s x (basinNums.filter (fun b => (s.basin b).serving && s.mayServe p b))

/-- A descriptor that Sluice takes: its slot, its start instant (R129), what steps of the counter added to its deadline while it was held (R78),
and whether it was held. -/
structure Fetched where
  slot : Nat
  desc : Bytes
  start : Nat
  add : Nat := 0
  held : Bool := false
  deriving DecidableEq, Repr

/-- A management command of PF0: it runs in Fountainhead and uses no basin (R153). -/
def runsInFnt (f : FnId) (d : Bytes) : Bool := isMgmt (opcodeOf d) && isPf0 f

/-- The new entry of an admitted command, before its basin is chosen. -/
def newCmd (s : State) (f : FnId) (q : Nat) (x : Fetched) (e : Nat) : Cmd :=
  let d := x.desc
  let w := demandOf s d
  let basinCmd := !(isQueueControl (opcodeOf d) || isMgmt (opcodeOf d))
  { fn := f, q := q, slot := x.slot, desc := d, start := x.start, dlAdd := x.add, epoch := s.lay.epoch, seq := s.slu.launchSeq, admitted := s.now
    order := s.slu.nextOrder, inst := tabGet s.slu.insts e 0 + 1
    ej := if basinCmd then w.1 else 0, nj := if basinCmd then w.2.1 else 1, ek := if basinCmd then w.2.2 else 0
    segs := segmentsOf d, segsAll := segmentsOf d, cls := match s.qcfg f q with | some c => c.cls | none => 1 }

/-- Enter an admitted command: its entry, the queue's order and the tag window (R143, R151). -/
def State.enter (s : State) (e : Nat) (c : Cmd) (held : Bool) : State :=
  let s1 := { s with slu := { s.slu with insts := tabSet s.slu.insts e c.inst, nextOrder := s.slu.nextOrder + 1, admitted := s.slu.admitted + 1 } }
  let x := s1.queue c.fn c.q
  (s1.setQueue c.fn c.q { x with
    order := x.order ++ [.cmd e]
    window := if held then x.window else windowEnter x.window (tagOf c.desc) c.slot }).setCmd e c

/-- Refuse a descriptor, counting the capacity refusals (SLU_REFUSED_DEADLINE, SLU_REFUSED_QUOTA). A refused command of a
released batch keeps its tag until its completion is posted (R143). -/
def State.refuseWith (s : State) (f : FnId) (q : Nat) (x : Fetched) (status : Nat) : State :=
  let s1 := if status = 0x0101 then { s with slu := { s.slu with refusedDeadline := s.slu.refusedDeadline + 1 } }
            else if status = 0x0102 then { s with slu := { s.slu with refusedQuota := s.slu.refusedQuota + 1 } } else s
  s1.enqueue f q (.refused { refusal s1 x.slot x.desc x.start status with windowed := x.held })

/-- The suspension of step 3 (R171): the class's SUSPEND bit, or no basin that may serve the partition; a RANDOM of a device that boots waits
instead (R154). -/
def suspended (s : State) (f : FnId) (q p : Nat) (d : Bytes) : Bool :=
  let cls := match s.qcfg f q with | some c => c.cls | none => 1
  s.slu.suspend.getLsbD cls || (noBasinFor s p && !(opcodeOf d == 0x0230 && s.fnt.op == .booting))

/-- Reserve the slots and fix the handle of a creating command (R295). -/
def State.reserveKey (s : State) (e slot ext : Nat) : State :=
  { s with cis := { s.cis with reserved := tabSet s.cis.reserved slot (e, 1 + ext) } }

/-- A command that ends with a status of its own at its admission, before any attempt (R365: a RANDOM that needs a DRBG while the fatal alarm stands); its
verdict comes first (R149). -/
def endedAtOnce (c : Cmd) (status : Nat) : Cmd := { c with phase := .done, status := some status, readsStopped := true }

/-- Admit a command that uses a basin, after steps 1 to 3 of R151 (R155 to R162, R295, R365). A persistent record for PF0, which has no slots for one,
reserves none: its command fails check 6 (R271). -/
def State.admitBasin (s : State) (f : FnId) (q : Nat) (x : Fetched) (p e : Nat) : State :=
  let d := x.desc
  let s1 := s.refillQueue f q
  if quotaRefuses s1 f q p d then s1.refuseWith f q x 0x0102
  else
    let ext := extFor (materialLen (attrAlg d) (publicImportOf d) (if opcodeOf d = 0x0403 then param d 0x20 1 else 32))
    let reserves := creates (opcodeOf d) && (p != 0 || attrSession d)
    let place : Option Nat := if reserves then allocSlot s1 p (attrSession d) ext else some 0
    match place with
    | none => (s1.cisEvent 1).refuseWith f q x 0x0102
    | some keyAt =>
      let cfg := (s1.qcfg f q).getD { part := p, port := f.port, index := q, cls := 1, log2Depth := 6, share := 1, cmdQuota := 0, kibQuota := 0 }
      let pw := priorityOf cfg.cls cfg.share (s1.queue f q).credit.bal
      let c0 := { newCmd s1 f q x e with prio := pw.1, weight := pw.2.1 }
      let waits := heldRandom s1 d (anyBasin s1 c0 p)
      match (if waits then some (anyBasin s1 c0 p) else (chooseBasin s1 c0 p).map some) with
      | none => s1.refuseWith f q x 0x0101
      | some bo =>
        let b := bo.getD 0
        let est := if bo.isSome then retNs s1 c0 b else s1.now
        let s2 := s1.charge f q p c0 b
        let fails := opcodeOf d == 0x0230 && drbgUnseeded s bo && s.spg.fatal
        let t := if bo.isSome && !fails then s2.giveTags c0 b else (c0, s2)
        let c := if fails then endedAtOnce t.1 0x0502 else t.1
        let handle := if reserves then some (handleAt s1 p (attrSession d) keyAt) else none
        let c1 := { c with basin := bo, firstBasin := bo, estRet := est, reserved := handle }
        let s3 := if reserves then t.2.reserveKey e keyAt ext else t.2
        let s4 := s3.enter e c1 x.held
        let s5 := if pw.2.2 then s4.sluEvent 3 else s4
        if bo.isSome then s5.wake b else s5

/-- Steps 2 to 5 of R151 at the admission instant. Without a free entry the descriptor is kept until one is free (R152). -/
def State.admitCmd (s : State) (f : FnId) (q : Nat) (x : Fetched) : State :=
  let d := x.desc
  let p := (s.partOf f).getD 0
  match s.freeEntry with
  | none => s.setQueue f q { s.queue f q with parkedDesc := some (x.slot, d, x.start) }
  | some e =>
    match deviceStatus s f d with
    | some st => s.refuseWith f q x st
    | none =>
      if isQueueControl (opcodeOf d) then
        s.enter e { newCmd s f q x e with execStart := some s.now, phase := .running, estRet := s.now, listsDone := true, inputDone := true } x.held
      else if runsInFnt f d then
        let s1 := s.enter e { newCmd s f q x e with estRet := s.now } x.held
        (({ s1 with slu := { s1.slu with mgmt := s1.slu.mgmt ++ [e] } }).irq 8 0).beginMgmt
      else if suspended s f q p d then s.refuseWith f q x 0x0103
      else s.admitBasin f q x p e

/-- Held commands in a queue's order. -/
def heldCount (x : Queue) : Nat := (x.order.filter (fun it => match it with | .held _ _ _ => true | _ => false)).length

/-- A HOLD descriptor of sound form (R132 to R134): admitted where its batch has been released, abandoned where it has been cancelled or the
queue is disabled, else held. -/
def State.hold (s : State) (f : FnId) (q : Nat) (y : Fetched) : State :=
  let x := s.queue f q
  let outcome := match x.batchRecord with | some r => if r.1 = batchOf y.desc then some r.2.1 else none | none => none
  if outcome = some true then s.admitCmd f q y
  else if outcome = some false || !x.enabled then s.enqueue f q (.refused (abandonment s y.slot y.desc 0))
  else
    s.setQueue f q { x with
      batchId := batchOf y.desc, order := x.order ++ [.held y.slot y.desc 0], window := windowEnter x.window (tagOf y.desc) y.slot }

/-- A fetched descriptor reaches Sluice (R132 to R134, R143, R145, R151); it is kept while the queue's fetching pauses for a held batch that it
is no part of, or for one whose release has not finished. -/
def State.arrive (s : State) (f : FnId) (q : Nat) (y : Fetched) : State :=
  let x := s.queue f q
  let d := y.desc
  if x.batchId ≠ 0 && (x.releaseAt.isSome || !(holdOf d && batchOf d == x.batchId && decide (heldCount x < 256))) then
    s.setQueue f q { x with parkedDesc := some (y.slot, d, y.start) }
  else
    match windowFind x.window (tagOf d) with
    | some st => s.enqueue f q (dupItem s x y.slot d y.start st)
    | none =>
      match formStatus s f q d with
      | some st => s.refuseWith f q y st
      | none => if holdOf d then s.hold f q y else s.admitCmd f q y

/-- Take the items of a released batch again, in submission order, while entries are free; the rest stays held. Their start is the release
instant (R129). -/
def State.releaseItems (f : FnId) (q t : Nat) : List QItem → State → State
  | [], s => s
  | it :: r, s =>
    match it with
    | .held slot d n =>
      if s.freeEntry.isNone then
        s.setQueue f q { s.queue f q with order := (s.queue f q).order ++ (it :: r) }
      else State.releaseItems f q t r (s.admitCmd f q { slot := slot, desc := d, start := t, add := n, held := true })
    | .dup slot tag own => State.releaseItems f q t r (s.enqueue f q (dupAgain (s.queue f q) slot tag own))
    | o => State.releaseItems f q t r (s.enqueue f q o)

/-- Release the batch a queue holds, from the release instant t on; a release that runs out of entries goes on later (R133, R152). -/
def State.releaseBatch (s : State) (f : FnId) (q t : Nat) : State :=
  let x := s.queue f q
  let isHeld (it : QItem) : Bool := match it with | .held _ _ _ => true | _ => false
  let pre := x.order.takeWhile (fun it => !isHeld it)
  let rest := x.order.dropWhile (fun it => !isHeld it)
  let s1 := State.releaseItems f q t rest (s.setQueue f q { x with order := pre })
  if heldCount (s1.queue f q) = 0 then s1.setQueue f q { s1.queue f q with batchId := 0, releaseAt := none }
  else s1.setQueue f q { s1.queue f q with releaseAt := some t }

/-- The descriptor a queue kept when its fetching paused, or for want of an entry, is taken once neither holds (R122, R132, R152). -/
def State.takeParked (s : State) (f : FnId) (q : Nat) : State :=
  let x := s.queue f q
  match x.parkedDesc with
  | none => s
  | some (slot, d, start) =>
    if x.batchId ≠ 0 || s.freeEntry.isNone || s.fnt.op == .halted then s
    else (s.setQueue f q { x with parkedDesc := none }).arrive f q { slot := slot, desc := d, start := start }

/-- A queue goes on with what waited for an entry: its release, then its kept descriptor. -/
def State.resumeQueue (s : State) (f : FnId) (q : Nat) : State :=
  let s1 := match (s.queue f q).releaseAt with | some t => s.releaseBatch f q t | none => s
  s1.takeParked f q

/-- Every queue goes on with what waited for an entry (R133, R152). -/
def State.resumeAll (s : State) : State :=
  s.queues.foldl (fun a p => a.resumeQueue (queueOfKey p.1).1 (queueOfKey p.1).2) s

end Sys2Proof.Machine
end

