-- ==== Sys2Proof/Machine/Drbg.lean ====
section
/-! DEFINITION. Generation by the DRBGs and draws from their pools (R466, R469, R470, R473), and the mask generators' seeds (R235). -/

namespace Sys2Proof.Machine

/-- A DRBG may generate: instantiated, within its call limit, no fatal alarm (R467, R469, R473). -/
def canGenerate (s : State) (n : Nat) : Bool :=
  let d := s.drbg n
  d.inst && decide (d.calls < 2 ^ 20) && !s.spg.fatal

/-- Generate `len` bytes in calls of at most 65,536 (R466). -/
def genBytes : Nat → Drbg → Nat → Bytes × Drbg
  | 0, d, _ => ([], d)
  | k + 1, d, len =>
    if len = 0 then ([], d)
    else
      let n := min 65536 len
      let g := Config.drbgGenerate d.state n
      let r := genBytes k { d with state := g.2, calls := d.calls + 1 } (len - n)
      (padTo n g.1 ++ r.1, r.2)

/-- Draw from the pool of DRBG n, generating what it does not hold (R470); none where it cannot be generated. -/
def State.draw (s : State) (n len : Nat) : Option (Bytes × State) :=
  let d := s.drbg n
  if len ≤ d.pool.length then some (d.pool.take len, s.setDrbg n { d with pool := d.pool.drop len })
  else if canGenerate s n then
    let g := genBytes (len / 65536 + 1) { d with pool := [] } (len - d.pool.length)
    some (d.pool ++ g.1, s.setDrbg n g.2)
  else none

/-! ## Mask generators (R235, R473) -/

/-- The mask generators of `n` jets of basin b can be reseeded: each takes 256 bits of the basin's pool, or advances by itself while the fatal
alarm holds. -/
def masksReady (s : State) (b n : Nat) : Bool := (s.drbg b).inst && (s.spg.fatal || canGenerate s b || decide (32 * n ≤ (s.drbg b).pool.length))

/-- The seed of one jet's mask generator; what a generator advances to by itself is open (R473, log entry 142). -/
def State.maskSeed (s : State) (b : Nat) : Bytes × State :=
  if s.spg.fatal then s.freeBytes 32
  else
    match s.draw b 32 with
    | some r => r
    | none => s.freeBytes 32

end Sys2Proof.Machine
end

