-- ==== Sys2Proof/Machine/HostCmd.lean ====
section
/-! DEFINITION. Shared operations on admitted commands: host reads (R109, R130), key lookups and fills (R177), work buffers
(R303), readiness and completion of execution (R18), removal of an attempt and squash (R184), and the dispatch choice
(R164 to R166). -/

namespace Sys2Proof.Machine

/-! ## Keys of a command (R177) -/

/-- Entries that a record takes: one and its extensions (R285). -/
def State.recordSlots (s : State) (h : BitVec 64) : Nat := match s.record h with | some r => r.slots | none => 1

/-- A basin's fill buffer has room for a record (R177). -/
def fillRoom (s : State) (b : Nat) (h : BitVec 64) : Bool :=
  decide (((s.basin b).fill.map (fun k => s.recordSlots k.handle)).sum + s.recordSlots h ≤ 64)

/-- Look up one key on the command's basin: a hit, a mark on a buffered fill, a new fill, or a wait for free entries. -/
def State.lookupKey (s : State) (e : Nat) (c : Cmd) (h : BitVec 64) : State :=
  match c.basin with
  | none => s
  | some b =>
    let x := s.basin b
    if x.cache.any (fun k => k.handle == h) then
      s.setBasin b { x with cache := x.cache.map (fun k => if k.handle = h then { k with used := s.now } else k) }
    else if x.fill.any (fun k => k.handle == h) then
      s.setBasin b { x with fill := x.fill.map (fun k => if k.handle = h then { k with marks := (e :: k.marks).eraseDups } else k) }
    else if fillRoom s b h then s.setBasin b { x with fill := x.fill ++ [{ handle := h, marks := [e] }] }
    else match s.cmd e with | some y => s.setCmd e { y with waitsFill := true } | none => s

/-- Look up every key of a command. -/
def State.markKeys (s : State) (e : Nat) : State :=
  match s.cmd e with
  | none => s
  | some c => (liveKeys s c).foldl (fun a h => a.lookupKey e c h) s

/-- A fill arrives: into the key cache when a marking command has its ALLOW and unpinned entries leave room there (log entry 155), else into the
fill buffer. -/
def State.fillArrives (s : State) (b : Nat) (h : BitVec 64) (r : Record) : State :=
  let x := s.basin b
  let allowed := x.fill.any (fun k => k.handle == h && k.marks.any (fun e => match s.cmd e with | some c => c.verdict == .allow | none => false))
  if allowed && s.cacheFits b h r then (s.setBasin b { x with fill := x.fill.filter (fun k => k.handle != h) }).cachePut b h r
  else s.setBasin b { x with fill := x.fill.map (fun k => if k.handle = h then { k with record := some r } else k) }

/-- Records of a command's keys that a basin's fill buffer holds move into the key cache where a marking command has its ALLOW (R177). -/
def State.settleFills (s : State) (b : Nat) (ks : List (BitVec 64)) : State :=
  ks.foldl (fun a h =>
    match (a.basin b).fill.find? (fun k => k.handle == h) with
    | some k => (match k.record with | some r => a.fillArrives b h r | none => a)
    | none => a) s

/-- The key lookups of an attempt (R177). -/
def State.lookupKeys (s : State) (e : Nat) : State :=
  let s1 := s.markKeys e
  match s1.cmd e with
  | some c => (match c.basin with | some b => s1.settleFills b (liveKeys s1 c) | none => s1)
  | none => s1

/-- Every live named key is held by the command's basin. -/
def keysHeld (s : State) (c : Cmd) : Bool :=
  match c.basin with | none => true | some b => (liveKeys s c).all (fun h => (s.basin b).holdsKey h)

/-- Take a command's marks off a basin's fill buffer; an entry without marks is zeroised and freed (R177, R184 step 3). -/
def State.unmark (s : State) (e b : Nat) : State :=
  let x := s.basin b
  s.setBasin b { x with fill := (x.fill.map (fun k => { k with marks := k.marks.filter (· != e) })).filter (fun k => !k.marks.isEmpty) }

/-! ## Work buffers (R303) -/

/-- Free bytes of a die's work region. -/
def State.workFree (s : State) (d : Nat) : Nat :=
  if (s.die d).present then (3488 - 128 * dieCopies s.keyUnits d) * 1048576 - (s.die d).workUsed else 0

/-- The work buffer a command needs: the held plaintext of an open above 256 KiB (R356). -/
def workNeed (d : Bytes) : Nat :=
  if opcodeOf d = 0x0202 && param d 0 1 ≠ 2 && 262144 < aeadP d then ceilDiv (aeadP d) 65536 * 65536 else 0

/-- Allocate a work buffer: the present die with most free space, ties to the lowest; else the command waits. -/
def State.allocWork (s : State) (e : Nat) : State :=
  match s.cmd e with
  | none => s
  | some c =>
    let n := workNeed c.desc
    if n = 0 || c.work.isSome then s.setCmd e { c with waitsWork := false }
    else
      let p := (s.partOf c.fn).getD 0
      let quota := match s.part? p with | some x => x.workMib * 1048576 | none => 0
      let best := [0, 1, 2, 3].foldl (fun b d => if s.workFree b < s.workFree d then d else b) 0
      if s.workFree best < n || (p ≠ 0 && quota < tabGet s.vlt.workPart p 0 + n) then s.setCmd e { c with waitsWork := true }
      else
        let s1 := s.setDie best { s.die best with workUsed := (s.die best).workUsed + n }
        let s2 := if p = 0 then s1 else { s1 with vlt := { s1.vlt with workPart := tabSet s1.vlt.workPart p (tabGet s1.vlt.workPart p 0 + n) } }
        s2.setCmd e { c with waitsWork := false, work := some (best, n) }

/-- Free a command's work buffer. -/
def State.freeWork (s : State) (e : Nat) : State :=
  match s.cmd e with
  | none => s
  | some c =>
    match c.work with
    | none => s
    | some (d, n) =>
      let p := (s.partOf c.fn).getD 0
      let s1 := s.setDie d { s.die d with workUsed := (s.die d).workUsed - n }
      let s2 := if p = 0 then s1 else { s1 with vlt := { s1.vlt with workPart := tabSet s1.vlt.workPart p (tabGet s1.vlt.workPart p 0 - n) } }
      s2.setCmd e { c with work := none }

/-! ## Lanes -/

/-- The command's jet phase runs on the hash jets. -/
def usesHash (op : Nat) : Bool := op == 0x0220 || op == 0x0221 || op / 256 == 3

/-- Free lanes of a kind, lowest first. -/
def freeLanes (x : Basin) (hash : Bool) : List Nat :=
  ((if hash then [8, 9] else [0, 1, 2, 3, 4, 5, 6, 7]).filter (fun i => !(tabGet x.lanes i {}).busy && !(tabGet x.lanes i {}).cascade))

/-- ALG and MODE of JET_STATUS for a command (R244). -/
def laneCodes (s : State) (d : Bytes) : Nat × Nat :=
  let op := opcodeOf d
  if op = 0x0220 then (param d 0 1, 0)
  else if op = 0x0221 then (param d 0 1, 0xB)
  else if op = 0x0201 || op = 0x0202 then (demandAlg s (key1Of d) 3, 4 + param d 0 1)
  else if op = 0x0210 || op = 0x0211 then (demandAlg s (key1Of d) 3, 0xA)
  else if op = 0x0110 || op = 0x0111 then (macAlg s d, if param d 0 1 = 0 then 7 else if param d 0 1 = 1 then 8 else 9)
  else if op / 256 = 3 then (sigHash (pubAlg s (key1Of d) 0x31) (param d 1 1), 0)
  else if op = 0x0401 then (if publicImportOf d then 0 else pubAlg s (key2Of d) 3, 2)
  else if op = 0x0402 then (if param d 0 1 = 2 then 0 else pubAlg s (key2Of d) 3, 2)
  else if op = 0x0403 then (attrAlg d, if isTdes (attrAlg d) then 1 else 7)
  else if op = 0x0404 then (pubAlg s (key1Of d) 3, if param d 0x20 1 = 2 then 1 else 7)
  else if op = 0x0130 || op = 0x0131 then (4, 1)
  else if op / 16 = 0x40 || op = 0x0230 then (0, 0)
  else (demandAlg s (key1Of d) 3, 1)

/-- The handle whose key a command's lanes load: the block key of an import or export, else KEY1 (R222). -/
def laneKey (d : Bytes) : BitVec 64 := if opcodeOf d = 0x0401 || opcodeOf d = 0x0402 then key2Of d else key1Of d

/-- The key registers of the lanes of a basin's commands take a key that the basin holds and a lane has not loaded yet (R222), and ALG then
shows that key's. -/
def State.loadLanes (s : State) (b : Nat) : State :=
  let x := s.basin b
  let load (l : Lane) : Lane :=
    if l.busy && l.secret.key.isEmpty then
      match s.cmd l.entry with
      | some c =>
        (match x.copyOf (laneKey c.desc) with
         | some r => { l with alg := (laneCodes s c.desc).1, secret := { l.secret with key := r.key } }
         | none => l)
      | none => l
    else l
  s.setBasin b { x with lanes := x.lanes.map (fun p => (p.1, load p.2)) }

/-- Start work on lanes: their status, and what they hold while they run: the key, of a cipher jet the seed of its mask generator, and values
that are open (R222, R235, log entry 142). -/
def State.claimLanes (s : State) (b e : Nat) (ls : List Nat) (codes : Nat × Nat) (key : Bytes) : State :=
  ls.foldl (fun a i =>
    let m := if i < 8 then a.maskSeed b else ([], a)
    let f := m.2.freeBytes 96
    let x := f.2.basin b
    f.2.setBasin b { x with lanes := tabSet x.lanes i { tabGet x.lanes i {} with
      busy := true, alg := codes.1, mode := codes.2, entry := e
      secret := { key := key, masks := m.1, chain := f.1.take 64, ghash := slice f.1 64 16, out := slice f.1 80 16 } } }) s

/-- Take lanes for a command. -/
def State.takeLanes (s : State) (b e : Nat) (c : Cmd) : State :=
  let ls := (freeLanes (s.basin b) (usesHash (opcodeOf c.desc))).take c.nj
  (s.claimLanes b e ls (laneCodes s c.desc) []).loadLanes b

/-- A lane at the end of its work: zeroised, its blocks counted (R222, JET_BLOCKS). -/
def Lane.freed (l : Lane) (n : Nat) : Lane := { l with busy := false, cascade := false, secret := {}, blocks := l.blocks + n }

/-- Free the lanes of an entry (R222), the i-th of them with `n i` blocks. -/
def freeLanesOf (x : Basin) (e : Nat) (n : Nat → Nat) : Basin :=
  let mine := (x.lanes.filter (fun p => p.2.busy && p.2.entry == e && !p.2.cascade)).map (·.1)
  { x with lanes := x.lanes.map (fun p => match mine.findIdx? (· == p.1) with | some i => (p.1, p.2.freed (n i)) | none => p) }

/-- Payload bytes of the segment a command's jets run (R165). -/
def segmentBytes (c : Cmd) : Nat :=
  if c.segsAll ≤ 1 then payloadOf c.desc else min 262144 (payloadOf c.desc - (c.segsAll - c.segs - 1) * 262144)

/-- Blocks that the i-th jet of a command carries in what it runs now (R225, R229): in the bulk modes its stripes, in CCM the MAC jet's and the
CTR jet's, else the command's on its one jet. -/
def cmdBlocks (s : State) (c : Cmd) (i : Nat) : Nat :=
  let d := c.desc
  let aead := opcodeOf d == 0x0201 || opcodeOf d == 0x0202
  if aead && param d 0 1 != 1 then
    (if aeadP d = 0 then 0 else jetBlocks (if param d 0 1 = 2 then param d 4 4 else 0) (segmentBytes c) c.nj i)
  else if i = 0 then jetWork s d
  else ceilDiv (aeadP d) 16 + 1

/-- A hash jet's claim by the Cascade ends (R233). -/
def unclaim (m : Tab Lane) (blocks : Nat) : Tab Lane := m.map (fun (p : Nat × Lane) => if p.2.cascade then (p.1, p.2.freed blocks) else p)

/-! ## Execution -/

/-- The Cascade runs and queues nothing, has no sequence open and no slot touched: the sequences of its owner are closed (R255, R261, R266). -/
def Cascade.closed (x : Cascade) : Bool := x.running.isNone && x.queue.isEmpty && !x.seqOpen && !x.slots.any (fun t => t.2.u)

/-- The Cascade of a command's basin is closed: a command with a Cascade phase ends only then (R255, R263). -/
def cascadeStill (s : State) (c : Cmd) : Bool := match c.basin with | some b => (s.basin b).cas.closed | none => true

/-- A basin command's attempt may end: lists and input are in, keys held, no wait is outstanding, its phases are
dispatched, and a seal holds its nonce. -/
def basinReady (s : State) (c : Cmd) : Bool :=
  c.phase == .running && c.status.isNone && c.listsDone && c.inputDone && !c.waitsFill && !c.waitsWork && !c.wantsBlock
    && keysHeld s c && (!c.usesJets || c.segs == 0) && (c.ek == 0 || c.onCascade && cascadeStill s c)

/-- A queue-control or management command may execute: its verdict is ALLOW and, for management, it is Fountainhead's
present one, whose restart is over (R153, R175, R496). -/
def directReady (s : State) (e : Nat) (c : Cmd) : Bool :=
  c.phase == .running && c.status.isNone && c.verdict == .allow && c.listsDone && c.inputDone
    && (!isMgmt (opcodeOf c.desc) || (s.slu.mgmt.head? == some e && s.fnt.restartAt.isNone))

/-- The command of an entry, when it has one of the opcodes and may end its execution. -/
def State.ready (s : State) (e : Nat) (ops : Nat → Bool) : Option Cmd :=
  match s.cmd e with
  | none => none
  | some c =>
    if ops (opcodeOf c.desc) && (if c.usesBasin then basinReady s c else directReady s e c) then some c else none

/-- What an execution answers: status, RESULT, output and further output. -/
structure Answer where
  status : Nat := 0
  result : Bytes := []
  output : Bytes := []
  extra : List (Nat × Bytes) := []
  effect : Effect := .none
  newRec : Option Record := none

/-- A management command leaves Fountainhead; the next one begins. -/
def State.leaveMgmt (s : State) (e : Nat) : State :=
  if s.slu.mgmt.contains e then
    let s1 := { s with slu := { s.slu with mgmt := s.slu.mgmt.filter (· != e) } }
    s1.beginMgmt
  else s

/-- The Cascade of an entry whose sequences are closed is idle (R255). -/
def releaseCascade (x : Basin) (e : Nat) : Basin :=
  if x.cas.owner = some e && x.cas.closed then { x with cas := { x.cas with owner := none } } else x

/-- The record a command creates, with the components that its Cascade sequences stored (R176, R260). -/
def stored (own made : Option Record) : Option Record :=
  match own, made with
  | some k, some r =>
    some { r with comps := r.comps.map (fun p => match k.comps.find? (fun q => q.1 == p.1) with | some q => (p.1, padTo p.2.length q.2) | none => p) }
  | _, m => m

/-- The answer is held plaintext, during whose release to Wellhead the command's jets stay allocated (R356, R357). -/
def releases (c : Cmd) (a : Answer) : Bool := opcodeOf c.desc == 0x0202 && param c.desc 0 1 != 2 && a.status == 0 && decide (256 ≤ a.output.length)

/-- A command's execution ends with its answer; its lanes, but in a release, and the Cascade are freed and idleness is dated. -/
def State.finish (s : State) (e : Nat) (a : Answer) : State :=
  match s.cmd e with
  | none => s
  | some c =>
    let s1 := s.setCmd e { c with status := some a.status, result := a.result, output := a.output, extraOut := a.extra
                                  effect := a.effect, newRec := stored c.newRec a.newRec, phase := .done, onJets := false }
    match c.basin with
    | some b =>
      let x := if releases c a then s1.basin b else freeLanesOf (s1.basin b) e (cmdBlocks s c)
      s1.setBasin b { releaseCascade x e with idleSince := s.now }
    | none => s1.leaveMgmt e

/-- Execute an entry's command when it may: `f` gives its answer and the state it leaves. -/
def State.run (s : State) (e : Nat) (ops : Nat → Bool) (f : Cmd → Answer × State) : State :=
  match s.ready e ops with
  | none => s
  | some c =>
    let r := f c
    r.2.finish e r.1

/-! ## Removal and squash (R184) -/

/-- Stop a keeper job that belongs to an entry (R244, R245). -/
def stopJob (x : Basin) (e : Nat) : Basin :=
  let x1 := if bitsAt x.job.toNat 192 14 = e then { x with jobNonce := 0 } else x
  if x1.jobState = 1 && bitsAt x1.job.toNat 192 14 = e then
    { x1 with jobState := 3, jobError := 5, jobDone := true, jobErr := true, jetEvent := x1.jetEvent.set 2 }
  else x1

/-- Step 5 of R184: queued Cascade commands of the entry are discarded, each with STOPPED (R263), the slots wait for their wipe. -/
def stopCascade (x : Basin) (e : Nat) (c : Cmd) : Basin :=
  if x.cas.owner = some e || (c.onCascade && c.status.isNone) then
    let stopped := !x.cas.queue.isEmpty
    { x with cas := { x.cas with
      queue := [], wiping := true, wipeFor := some (c.epoch, c.seq, c.fn), wipeOrder := c.order
      error := if stopped then 8 else x.cas.error, cmdError := x.cas.cmdError || stopped
      event := x.cas.queue.foldl (fun v _ => v.set 1) x.cas.event } }
  else x

/-- A keeper job of entry e is running on basin b. -/
def State.jobRuns (s : State) (b e : Nat) : Bool := (s.basin b).jobState = 1 && bitsAt (s.basin b).job.toNat 192 14 = e

/-- The pair of basin b serves entry e: it runs a keeper job of it, or a Cascade sequence (log entry 80). -/
def State.serves (s : State) (b e : Nat) : Bool := s.jobRuns b e || (s.basin b).cas.owner == some e

/-- Local SRAM of basin b in the fabric map (R398). -/
def localBase (b : Nat) : Nat := 0x10000000 + 0x400000 * b

/-- Remove a command's attempt from its basin (steps 2, 3 and 5 of R184). SQUASH is raised for one that firmware serves, and JOB for
the end of its job (R246, R450). -/
def State.clearAttempt (s : State) (e : Nat) : State :=
  match s.cmd e with
  | none => s
  | some c =>
    let s1 := s.setCmd e { c with
      input := [], inList := [], outList := [], output := [], extraOut := [], newRec := none, bufs := [], effect := .none, nonce := none, status := none, result := []
      window := 0, onJets := false, onCascade := false, segs := c.segsAll, written := [], waitsFill := false, waitsWork := false
      wantsBlock := false }
    let s2 := match c.basin with
      | some b =>
        let y := stopCascade (stopJob (freeLanesOf (s1.basin b) e (fun _ => 0)) e) e c
        let u := ({ s1 with mem := c.bufs.foldl (fun m (r : Nat × Nat) => memWriteN m (localBase b + r.1) (List.replicate r.2 0)) s1.mem }.setBasin b { y with idleSince := if c.phase == Phase.backlog then y.idleSince else s.now }).unmark e b
        let w := (u.when (s.serves b e) (fun a => a.irq b 0)).when (s.jobRuns b e) (fun a => a.irq b 2)
        if y.cas.error = 8 && !(s1.basin b).cas.queue.isEmpty then w.irq b 3 else w
      | none => s1
    s2.freeWork e

/-- Copies that only this command pinned, of keys destroyed since, are zeroised, and such a key's counter leaves (R192, R286). -/
def State.unpin (s : State) (c : Cmd) : State :=
  c.kept.foldl (fun a p => if (a.record p.1).isNone then (a.dropCopies p.1).dropCounter p.1 else a) s

/-- The virtual times of the basin of a command that left it (R164). -/
def State.leftBasin (s : State) (c : Cmd) : State := match c.basin with | some b => s.resetVirtual b | none => s

/-- The squash of a command denied at verdict (R183 to R186, R297): it may then retire with its status. -/
def State.squash (s : State) (e status : Nat) : State :=
  match s.cmd e with
  | none => s
  | some c =>
    let s1 := if c.early then { s with slu := { s.slu with squashed := s.slu.squashed + 1 } } else s
    let s2 := (s1.clearAttempt e).freeReserved e
    match s2.cmd e with
    | none => s2
    | some x => (((s2.setCmd e { x with phase := .squashed, verdict := .deny status, vEpoch := some s.lay.epoch, kept := [], readsStopped := true }).leaveMgmt e).leftBasin c).unpin c

/-- A command ends with a status of its own before a result (R109, R130, R365, R503): its attempt is removed, nothing it drew
or made is kept, and it retires with that status. -/
def State.endCmd (s : State) (e status : Nat) : State :=
  let s1 := (s.clearAttempt e).freeReserved e
  match s1.cmd e with
  | none => s1
  | some x => (((s1.setCmd e { x with phase := .squashed, verdict := .deny status, kept := [], readsStopped := true }).leaveMgmt e).leftBasin x).unpin x

/-- A status that arises in execution ends a command's attempt (R109, R206, R365, R366): at once where its verdict is recorded; an open verdict is
awaited, since a denial's status comes before one of execution (R149). -/
def State.endLate (s : State) (e status : Nat) : State :=
  match s.cmd e with
  | none => s
  | some c =>
    if c.verdict != .open then s.endCmd e status
    else
      let s1 := s.clearAttempt e
      match s1.cmd e with
      | none => s1
      | some x => (s1.setCmd e { x with readsStopped := true, status := some status, phase := .done }).leftBasin x

/-! ## Dispatch (R164 to R166) -/

/-- The command still has work to dispatch to a basin's jets or Cascade; one that waits for a fill-buffer entry executes no further (R177). -/
def wantsResource (c : Cmd) (cascade : Bool) : Bool :=
  (c.phase == .backlog || c.phase == .running) && c.status.isNone && !c.waitsFill &&
    (if cascade then decide (0 < c.ek) && !c.onCascade else c.usesJets && decide (0 < c.segs) && !c.onJets)

/-- A command awaiting its first dispatch that an earlier command of its queue on this basin must precede. -/
def behindQueue (l : List (Nat × Cmd)) (c : Cmd) : Bool :=
  l.any (fun x => x.2.fn == c.fn && x.2.q == c.q && decide (x.2.order < c.order) && (x.2.phase == .backlog))

/-- x is chosen before y on a resource (R164). -/
def before (cascade : Bool) (x y : Cmd) : Bool :=
  if x.front ≠ y.front then x.front
  else if x.prio ≠ y.prio then decide (x.prio < y.prio)
  else if x.prio = 1 then
    let t (c : Cmd) : Nat := if cascade then c.finK else c.finJ
    decide (t x < t y) || (t x == t y && decide (x.order < y.order))
  else decide (x.order < y.order)

/-- Commands a basin may choose among: its own, and a held RANDOM without a basin that it may serve (R365). -/
def State.dispatchable (s : State) (b : Nat) (cascade : Bool) : List (Nat × Cmd) :=
  let own := s.onBasin b
  let wild := s.slu.retire.filter (fun p => p.2.basin.isNone && p.2.usesBasin && p.2.phase == .backlog && p.2.status.isNone
    && s.mayServe ((s.partOf p.2.fn).getD 0) b)
  let x := (s.basin b).cas
  (own ++ wild).filter (fun p => wantsResource p.2 cascade && !(p.2.front && x.wiping && x.wipeOrder == p.2.order) && !(p.2.phase == .backlog && behindQueue own p.2)
    && !(p.2.phase == .backlog && opcodeOf p.2.desc == 0x0230 && drbgUnseeded s (some b)))

/-- The candidate of R164. -/
def State.candidate (s : State) (b : Nat) (cascade : Bool) : Option (Nat × Cmd) :=
  (s.dispatchable b cascade).foldl (fun best p =>
    match best with | none => some p | some x => if before cascade p.2 x.2 then some p else some x) none

/-- The stream window of a command (R351). -/
def windowOf (d : Bytes) : Nat := min 262144 (ceilDiv (inLenOf d + outLenOf d) 4096 * 4096)

/-- Stream-window bytes in use: of the commands, and of the output that detached queues still hold (R351, R369). -/
def State.windowsUsed (s : State) : Nat := (s.slu.retire.map (fun p => p.2.window)).sum + (s.queues.map (fun p => p.2.heldWindow)).sum

/-- The jets of a basin can take the command. -/
def lanesFit (x : Basin) (c : Cmd) : Bool := decide (c.nj ≤ (freeLanes x (usesHash (opcodeOf c.desc))).length)

/-- A command admitted after this one has been dispatched to the resource before it, as it comes to its own first dispatch there (R166). -/
def yields (x : Basin) (c : Cmd) (cascade : Bool) : Bool :=
  decide (c.attempts = if c.phase == .backlog then 0 else 1) && (cascade || c.segs == c.segsAll)
    && decide (c.order + 1 < if cascade then x.newestK else x.newestJ)

/-- An allowed seal waits for the next block of its key; with the counter spent it ends KEY_RETIRED (R239, log entry 11). -/
def State.awaitBlock (s : State) (h : BitVec 64) (e : Nat) : State := if s.counterSpent h then s.endCmd e 0x0212 else s.reserveBlock h e

/-- The record of the key a command draws from: the key's own, or, of a key destroyed since, the one its final ALLOW keeps (R191, R192). -/
def State.nonceRec (s : State) (c : Cmd) : Option Record :=
  match s.record (key1Of c.desc) with
  | some r => some r
  | none => (c.kept.find? (fun k => k.1 == key1Of c.desc)).map (·.2)

/-- What an attempt takes once its keys wait for nothing: its work buffer, and the nonce of a seal (R177, R178, R239, R356). -/
def State.goOn (s : State) (e : Nat) : State :=
  let s1 := s.allocWork e
  match s1.cmd e with
  | none => s
  | some c =>
    if c.waitsFill then s
    else if opcodeOf c.desc = 0x0201 && param c.desc 0 1 ≠ 2 && c.nonce.isNone then
      match s1.nonceRec c with
      | none => s1
      | some r =>
        if s1.canDraw (key1Of c.desc) then
          let d := s1.drawNonce (key1Of c.desc) r.nonceField
          (d.2.setCmd e { c with nonce := some d.1 }).noteSpent e (key1Of c.desc)
        else
          let s2 := s1.setCmd e { c with wantsBlock := true }
          if c.verdict == .allow then s2.awaitBlock (key1Of c.desc) e else s2
    else s1

/-- The start of an attempt: lookups and reads, then, unless a key miss waits, what execution takes (R175, R177). -/
def State.startAttempt (s : State) (e : Nat) : State := ((s.lookupKeys e).startReads e).goOn e

/-- Dispatch an entry to a resource of basin b. -/
def State.dispatchTo (s : State) (e : Nat) (c : Cmd) (b : Nat) (cascade : Bool) : State :=
  let first := c.phase == .backlog
  let c1 := { c with
    basin := some b, firstBasin := if c.firstBasin.isSome then c.firstBasin else some b
    front := false, phase := .running, dispatchedAt := if c.dispatchedAt.isSome then c.dispatchedAt else some s.now
    attempts := if first then c.attempts + 1 else c.attempts
    early := c.early || c.verdict == .open
    replayed := c.replayed || (first && decide (0 < c.attempts))
    yielded := c.yielded || yields (s.basin b) c cascade
    inst := if first && decide (0 < c.attempts) then c.inst + 1 else c.inst
    window := if first then windowOf c.desc else c.window
    onCascade := c.onCascade || cascade, kWork := if cascade then workK s c b else c.kWork, kMark := if cascade then s.now else c.kMark
    jWork := if cascade then c.jWork else segmentWork s c b, jMark := if cascade then c.jMark else s.now
    onJets := c.onJets || !cascade, segAt := if cascade then c.segAt else s.now, segs := if cascade then c.segs else c.segs - 1
    estRet := max (s.now + execNs s c b) (s.now) }
  let s1 := s.setCmd e c1
  let s2 := { s1 with slu := { s1.slu with insts := tabSet s1.slu.insts e c1.inst } }
  let x := s2.basin b
  let x1 := if cascade then { x with vK := if c.prio = 1 then c.finK else x.vK, newestK := max x.newestK (c.order + 1), cas := { x.cas with owner := some e } }
            else { x with vJ := if c.prio = 1 then c.finJ else x.vJ, newestJ := max x.newestJ (c.order + 1) }
  let s3 := (s2.setBasin b x1).when (!cascade) (fun a => a.takeLanes b e c1)
  if first then s3.startAttempt e else s3

/-- One choice of a basin for its jets or its Cascade (R164); nothing where it has no candidate or its candidate waits for
jets, for the Cascade or for a stream window (R351). -/
def State.dispatchOn (s : State) (b : Nat) (cascade : Bool) : State :=
  let x := s.basin b
  if !x.serving || x.waking || !(s.drbg b).inst then s
  else
    match s.candidate b cascade with
    | none => s
    | some (e, c) =>
      if (if cascade then (s.onBasin b).any (fun p => p.2.onCascade && p.2.phase == .running && p.2.status.isNone) || x.cas.wiping || x.cas.slots.any (fun t => t.2.u)
          else !lanesFit x c || (!usesHash (opcodeOf c.desc) && !masksReady s b c.nj)) then s
      else if c.phase == .backlog && decide (10485760 < s.windowsUsed + windowOf c.desc) then s
      else (s.dispatchTo e c b cascade).resetVirtual b

end Sys2Proof.Machine
end

