-- ==== Sys2Proof/Machine/Tamper.lean ====
section
/-! DEFINITION. Grotto's shared operations (22): assertion and end of a source, events and corroboration, Seal and Erase on
main power; and the zeroising of Cistern and the vault (R283, R324). -/

namespace Sys2Proof.Machine

/-! ## Zeroising -/

/-- Cistern zeroises every derived key, cached copy and counter, and destroys the session records (R283). -/
def State.cisZeroise (s : State) : State :=
  let s1 := s.purgeSessions (fun _ => true)
  { s1 with
    cis := { s1.cis with rootReady := false, counters := [], persisted := [], reserving := [] }
    basins := s1.basins.map (fun p => (p.1, { p.2 with cache := [], fill := [] })) }

/-- The vault zeroises its line keys and NB: everything in it, the completion store included, becomes unreadable (R324). -/
def State.vaultZeroise (s : State) : State :=
  let gone (st : TagState) : TagState := match st with | .retained _ _ => .expired | o => o
  { s with
    vmem := {}
    cis := { s.cis with records := [], reserved := [] }
    vlt := { s.vlt with unlocked := false, nb := [], loaded := false, dirty := [], generation := 0, rewrap := false }
    queues := s.queues.map (fun p => (p.1, { p.2 with window := p.2.window.map (fun w => (w.1, gone w.2)) })) }

/-- Entry to HALTED (R481, R496). -/
def State.halt (s : State) : State :=
  ((s.endSession.cisZeroise).vaultZeroise).setOp .halted

/-- What a Seal ends: a command that uses a basin (R503 step 4) and a COMMIT of QUORUM.CLOSE (R489), not yet retired. -/
def Cmd.endsAtSeal (c : Cmd) : Bool :=
  (c.usesBasin || (opcodeOf c.desc == 0x0531 && param c.desc 0 1 == 1)) && c.phase != .squashed

/-- Every command a Seal ends completes ABANDONED/DEVICE_SEALED (R503 step 4, R489). -/
def State.abandonAll (s : State) : State :=
  s.slu.retire.foldl (fun a p => if p.2.endsAtSeal then a.endCmd p.1 0x0705 else a) s

/-! ## Grotto's clock (R76, R508) -/

/-- The value at which the Timebase starts (R76): the sync pair's with the night count since, and 2^30 ns more; 0 with no pair. -/
def startValue (s : State) : Nat :=
  match s.gro.retained, s.gro.sync with
  | true, some p => (p.1 + (s.gro.night + 2 ^ 48 - p.2) % 2 ^ 48 * 30517578125 / 1000000 + 2 ^ 30) % 2 ^ 64
  | _, _ => 0

/-- The instant now as Grotto counts it: the Timebase, or while the device is down the value that the Timebase would start with, so that an
event which is open when main power returns goes on (R508; log entry 169). -/
def groNow (s : State) : Nat := if s.pwr.main && !s.pwr.por then s.now else startValue s

/-! ## Sources (R497 to R502) -/

/-- The OTP floor of a source. -/
def GroState.floor (g : GroState) (src : Nat) : Nat := bitsAt g.floors.toNat (2 * src) 2


/-- A source is fused off (R513). -/
def GroState.off (g : GroState) (src : Nat) : Bool := g.disabled.getLsbD src

/-- The effective response of a source: 0 Record, 1 Seal, 2 Erase (R499); the TAMPER entry of a source that is fused off has no effect (R35). -/
def State.response (s : State) (src : Nat) : Nat :=
  max (s.gro.floor src) (match s.lay.active with | some l => if s.gro.off src then 0 else l.tamper.getD src 0 | none => 0)

/-- All effective responses as GRO_RESPONSE shows them. -/
def State.responses (s : State) : BitVec 32 :=
  BitVec.ofNat 32 (((List.range 16).map (fun i => min 2 (s.response i) * 2 ^ (2 * i))).sum)

/-- A source counts as a corroborating one at an instant: active then, or asserted or ended within the last ms (R501). -/
def corroborates (s : State) (other src : Nat) : Bool :=
  other != src && other != 15 && !s.gro.off other &&
    (s.gro.active.getLsbD other
     || (match tabFind s.gro.assertedAt other with | some t => decide (groNow s ≤ t + 1000000) | none => false)
     || (match tabFind s.gro.endedAt other with | some t => decide (groNow s ≤ t + 1000000) | none => false))

/-- Both meshes are active (R500). -/
def bothMeshes (s : State) : Bool := s.gro.active.getLsbD 0 && s.gro.active.getLsbD 1 && !s.gro.off 0 && !s.gro.off 1

/-- The item of a source that has just asserted (R499 to R501). -/
def newItem (s : State) (src : Nat) : TamperItem :=
  let r := s.response src
  let mesh := src == 0 || src == 1
  let erased := if mesh then bothMeshes s || r == 2 else r == 2 && (List.range 16).any (fun o => corroborates s o src)
  { source := src, asserted := groNow s
    reached := if erased then 2 else min 1 r
    pending := !mesh && r == 2 && !erased
    corroborated := erased && !mesh }

/-- What a newly asserted source does to the items already in the event: it corroborates pending ones asserted within the last
ms, and completes the pair of meshes. -/
def corroborateItem (s : State) (src : Nat) (i : TamperItem) : TamperItem :=
  if i.pending && src != 15 && i.source != src && decide (groNow s ≤ i.asserted + 1000000) then
    { i with reached := 2, pending := false, corroborated := true }
  else if (i.source == 0 || i.source == 1) && bothMeshes s then { i with reached := 2 }
  else i

/-- The strongest response an event's sources have reached (R502). -/
def TamperEvent.strongest (v : TamperEvent) : Nat := (v.items.map (·.reached)).foldl max 0

/-- DETAIL of a KIND 1 entry: source mask, response, corroborated flag (R518). -/
def TamperEvent.detail (v : TamperEvent) : Bytes :=
  natLe 2 ((v.items.map (fun i => 2 ^ i.source)).eraseDups.sum) ++ natLe 1 v.applied ++ natLe 1 (bitNat (v.items.any (·.corroborated)))

/-- The Gauge entry of an event (R499, R502). -/
def State.logTamper (s : State) : State :=
  match s.gro.open_ with
  | some v => s.gaugeLog 1 9 v.opened v.detail
  | none => s

/-! ## Seal and Erase (R503, R504) -/

/-- A Seal at its instant: the seal bit and the pins; while the device is neither SEALED nor past it, also the end of
admission, the zeroising and the removal of every attempt (steps 1 to 4 of R503). -/
def State.seal (s : State) : State :=
  let s1 := ({ s with gro := { s.gro with sealBit := true } }).groEvent 1
  if s1.gro.sealAt.isSome || s1.fnt.op == .sealed || s1.fnt.op == .restoreOnly || s1.fnt.op == .halted then s1.pins
  else
    let s2 := { s1 with gro := { s1.gro with sealAt := some s1.now } }
    ((s2.cisZeroise).vaultZeroise).abandonAll.pins

/-- The Reservoir wipe, powered by the hold-up capacitor (R504, R507). -/
def State.wipeReservoir (s : State) : State :=
  { s with gro := { s.gro with rootHalf := none, holdupOk := false } }

/-- An Erase on main power: the wipe, then the Seal (R504). -/
def State.erase (s : State) : State :=
  let s1 := s.wipeReservoir.groEvent 2
  ({ s1 with gro := { s1.gro with erasing := true } }).seal

/-- Apply an event's strongest response as soon as it is reached (R502); an Erase while already sealed is logged at once. -/
def State.applyResponse (s : State) : State :=
  match s.gro.open_ with
  | none => s
  | some v =>
    let r := v.strongest
    if r ≤ v.applied then s
    else
      let s1 := { s with gro := { s.gro with open_ := some { v with applied := r } } }
      let s2 := if r = 2 then s1.erase else s1.seal
      if s2.gro.sealAt.isSome then s2 else s2.logTamper.writeCondition

/-- An event can close: its collecting ms is over and no corroboration is pending (R502). -/
def eventOver (s : State) : Bool :=
  match s.gro.open_ with
  | none => false
  | some v => decide (v.opened + 1000000 < groNow s) && !(v.items.any (·.pending))

/-- Write a battery event buffer entry over the oldest (R509). -/
def GroState.writeBeb (g : GroState) (b : Beb) : GroState :=
  let i := if g.bebValid = 0 then 0 else (g.bebNewest + 1) % 16
  { g with beb := tabSet g.beb i b, bebNewest := i, bebValid := min 16 (g.bebValid + 1) }

/-- The entries of the battery sources whose response has become final (R502, R509). -/
def State.writeOwed (s : State) : State :=
  match s.gro.open_ with
  | none => s
  | some v =>
    let g := v.items.foldl (fun (a : GroState) (i : TamperItem) =>
      if i.owed && !i.pending then
        a.writeBeb { source := i.source, response := i.reached, corroborated := i.corroborated, night := v.night, cycles := s.gau.acc.cycles }
      else a) s.gro
    { s with gro := { g with open_ := some { v with items := v.items.map (fun i => { i with owed := i.owed && i.pending }) } } }

/-- Close the open event; with response Record its flag sets. -/
def State.closeEvent (s : State) : State :=
  match s.gro.open_ with
  | none => s
  | some v =>
    let s1 := { s with gro := { s.gro with open_ := none } }
    if v.applied = 0 then s1.groEvent 0 else s1

/-- Sources 12 to 15 become inactive 1 µs after their event (R497). -/
def State.endBrief (s : State) (src : Nat) : State :=
  match tabFind s.gro.assertedAt src with
  | some t =>
    if 12 ≤ src && s.gro.active.getLsbD src && t + 1000 ≤ groNow s then
      { s with gro := { s.gro with active := s.gro.active &&& ~~~ BitVec.ofNat 16 (2 ^ src), endedAt := tabSet s.gro.endedAt src (t + 1000) } }
    else s
  | none => s

/-- A source becomes active and so asserts on main power (R498 to R502). Its new assertion takes the place of an earlier one in the event, whose
pending Erase is given up if its window has closed; an entry owed to the battery event buffer stays owed (R501, R509). -/
def State.assertActive (s : State) (src : Nat) : State :=
  if s.gro.active.getLsbD src then s
  else
    let s0 := { s with gro := { s.gro with active := s.gro.active ||| BitVec.ofNat 16 (2 ^ src) } }
    if s0.gro.off src then s0
    else
      let g := s0.gro
      let s1 := { s0 with
        gro := { g with
          sticky := g.sticky ||| BitVec.ofNat 16 (2 ^ src)
          counts := tabSet g.counts src (min 0xFFFF (tabGet g.counts src 0 + 1))
          assertedAt := tabSet g.assertedAt src (groNow s0) }
        gau := { s0.gau with acc := { s0.gau.acc with tamper := tabAdd s0.gau.acc.tamper src 1 } } }
      let s2a := if eventOver s1 then s1.closeEvent else s1
      let v : TamperEvent := s2a.gro.open_.getD { opened := groNow s2a, night := s2a.gro.night }
      let fresh := s2a.gro.open_.isNone
      let old := v.items.filter (fun i => i.source == src)
      let s2 := if old.any (fun i => i.pending && decide (i.asserted + 1000000 < groNow s2a)) then s2a.groEvent 3 else s2a
      let items := (v.items.filter (fun i => i.source != src)).map (corroborateItem s2 src) ++ [{ newItem s2 src with owed := old.any (·.owed) }]
      let s3 := ({ s2 with gro := { s2.gro with open_ := some { v with items := items } } }).applyResponse.writeOwed
      if fresh && (match s3.gro.open_ with | some w => w.applied == 0 | none => false) then s3.logTamper else s3

/-- A source's event (R497, R498). -/
def State.assertSource (s : State) (src : Nat) : State := (s.endBrief src).assertActive src

end Sys2Proof.Machine
end

