-- ==== Sys2Proof/Machine/BasinOps.lean ====
section
/-! DEFINITION. Detected faults, their classification, replay, transfer, retirement and substitution (09): the shared
operations of the basin rows. -/

namespace Sys2Proof.Machine

/-! ## Codes -/

/-- Basin state code (R195). -/
def BasinSt.code : BasinSt → Nat
  | .off => 0
  | .serving => 1
  | .parked => 2
  | .spare => 3
  | .draining => 4
  | .resetting => 5
  | .testing => 6
  | .retired => 7

/-- Fault class code (BSN_FAULT_LOG_i.CLASS). -/
def FaultClass.code : FaultClass → Nat
  | .transient => 0
  | .persistent => 1
  | .basinReset => 2
  | .external => 3

/-- The 128 bits of a fault-log entry. -/
def FaultLog.bits (l : FaultLog) : Nat :=
  l.time % 2 ^ 48 + l.basin % 8 * 2 ^ 48 + l.detector % 16 * 2 ^ 52 + l.element % 16 * 2 ^ 56 + l.cls.code * 2 ^ 60
    + l.action % 4 * 2 ^ 64 + l.tagLo % 65536 * 2 ^ 72 + l.queue % 64 * 2 ^ 88 + bitNat l.port * 2 ^ 94 + l.part % 32 * 2 ^ 95

/-- A KIND 4 entry: basin, role, new state (R518). -/
def State.logBasin (s : State) (b : Nat) : State :=
  let x := s.basin b
  s.gaugeLog 4 b s.now (natLe 1 b ++ natLe 1 (x.role.getD b) ++ natLe 1 x.st.code)

/-! ## Roles (R196) -/

/-- A basin fills its role: it serves, is parked, drains without having given it away, or is away and returns to it. -/
def Basin.fills (x : Basin) (r : Nat) : Bool :=
  x.role == some r && (x.st == .serving || x.st == .parked || (x.st == .testing && x.testFor == 1) || (x.st == .draining && x.testFor == 4))

/-- The basin is being retired: it drains, or is reset, on its way to RETIRED. -/
def Basin.retiring (x : Basin) : Bool := (x.st == .resetting || x.st == .draining) && x.testFor == 0

/-- Another basin fills a role. -/
def roleFilled (s : State) (b r : Nat) : Bool := basinNums.any (fun n => n != b && (s.basin n).fills r)

/-- The spare, if one exists. -/
def State.spare? (s : State) : Option Nat := basinNums.find? (fun n => (s.basin n).st == .spare)

/-- A basin begins to serve: a powered one keeps its windows (R57, R60), its virtual times start at 0 (R164), queues with commands still waiting on it
keeping their previous tags, and the voltage loop runs from the first such basin on (R66). -/
def State.beginServing (s0 : State) (b : Nat) (role : Option Nat) : State :=
  let s := s0.accrueDerated
  let x := s.basin b
  let y : Basin := { x with st := .serving, role := role, sinceServe := 0
                            waking := false, idleSince := s.now, testFor := 0, subFor := none, drainFrom := none, diagOk := false
                            vJ := 0, vK := 0 }
  State.resetVirtual { s.setBasin b y with bsn := { s.bsn with loopOn := true } } b

/-- What a reset leaves of a basin (R199, R213, R564): its identity, role, totals and firmware, the faults whose classification is still to come (R204),
Sluice's virtual times and tags (R164), and of a keeper job that it ended the STOPPED of R245; its keeper pair and DRBG start anew (R446, R468). -/
def State.resetBasin (s : State) (b : Nat) (advance : Bool) : State :=
  let x := s.basin b
  let stopped := x.jobState == 1 || (x.jobState == 3 && x.jobError == 5)
  let x1 : Basin := { st := x.st, role := x.role, diagOk := x.diagOk, generation := if advance then (x.generation + 1) % 2 ^ 32 else x.generation
                      fwVersion := x.fwVersion, fwDigest := x.fwDigest, faultsTotal := x.faultsTotal, faultTimes := x.faultTimes
                      testFor := x.testFor, subFor := x.subFor, fastest := x.fastest, windowPs := x.windowPs, windows := x.windows, sinceStart := x.sinceStart
                      newestJ := x.newestJ, newestK := x.newestK, vJ := x.vJ, vK := x.vK, tagsJ := x.tagsJ, tagsK := x.tagsK, retest := x.retest
                      jobState := if stopped then 3 else 0, jobError := if stopped then 5 else 0 }
  ((s.setBasin b x1).setPair b {}).setDrbg b { reseeds := (s.drbg b).reseeds }

/-! ## Re-dispatch (R206 to R209, R214) -/

/-- Completion with FAULT_UNRECOVERED/REPLAY_EXHAUSTED; an open verdict is awaited (R149). -/
def State.exhaust (s : State) (e : Nat) : State := s.endLate e 0x0601

/-- The ns until a basin has the lanes a command needs: the earliest end of the segments that run after which enough are free. -/
def jetsFreeIn (s : State) (b : Nat) (c : Cmd) : Nat :=
  let hash := usesHash (opcodeOf c.desc)
  let runs := ((s.onBasin b).filter (fun p => p.2.onJets && p.2.phase == .running && usesHash (opcodeOf p.2.desc) == hash)).map (fun p =>
    (ceilDiv (runJ s p.2) (1000 * max p.2.nj 1), p.2.nj))
  let free (t : Nat) : Nat := (freeLanes (s.basin b) hash).length + ((runs.filter (fun r => decide (r.1 ≤ t))).map (·.2)).sum
  if c.nj ≤ free 0 then 0
  else
    let ends := (runs.map (·.1)).filter (fun t => decide (c.nj ≤ free t))
    ends.foldl min (maxOf (runs.map (·.1)))

/-- The ns until a basin's Cascade is free for a command: what runs there ends, and its wipe, of which the model takes the bound of step 5 of R184. -/
def cascadeFreeIn (s : State) (b : Nat) : Nat :=
  if (s.basin b).cas.wiping then 2905000 else ceilDiv (maxOf ((s.onBasin b).map (fun p => runK s p.2))) 8000

/-- The ns until a basin's resource is free for a command's next dispatch (R208). -/
def freesIn (s : State) (b : Nat) (c : Cmd) : Nat :=
  max (if 0 < c.ej then jetsFreeIn s b c else 0) (if 0 < c.ek then cascadeFreeIn s b else 0)

/-- A spare under test, or a substitute still to come, that will fill a role of the partition's pool (R208). -/
def substituteComes (s : State) (p : Nat) : Bool :=
  basinNums.any (fun n => (s.basin n).testFor == 3 && (match (s.basin n).subFor with | some r => roleServes s p r | none => false))

/-- A spare under test will fill this role. -/
def substituteFor (s : State) (role : Option Nat) : Bool :=
  role.isSome && basinNums.any (fun n => (s.basin n).testFor == 3 && (s.basin n).subFor == role)

/-- Replay on the same basin (R208). -/
def State.sendSame (s : State) (e : Nat) : State :=
  match s.cmd e with
  | none => s
  | some c => s.setCmd e { c with phase := .backlog, front := true, usedSame := true }

/-- A basin other than a command's present and first one may take its replay. -/
def mayReplay (s : State) (c : Cmd) (n : Nat) : Bool := s.mayServe ((s.partOf c.fn).getD 0) n && c.firstBasin != some n && c.basin != some n

/-- Some other basin can take a command's replay: a serving or parked one, or a substitute to come (R208). -/
def otherComes (s : State) (c : Cmd) : Bool :=
  basinNums.any (fun n => ((s.basin n).serving || (s.basin n).asleep) && mayReplay s c n) || substituteComes s ((s.partOf c.fn).getD 0)

/-- Dispatch on another basin than the present and the first one (R208): the serving one that frees first, else a parked one,
else a substitute to come, else none. -/
def State.sendOther (s : State) (e : Nat) : State :=
  match s.cmd e with
  | none => s
  | some c =>
    let up := basinNums.filter (fun n => (s.basin n).serving && mayReplay s c n)
    let best := up.foldl (fun a n => match a with | none => some n | some m => if freesIn s n c < freesIn s m c then some n else some m) (none : Option Nat)
    match best with
    | some n => (s.setCmd e { c with phase := .backlog, front := true, basin := some n }).leftBasin c
    | none =>
      match basinNums.find? (fun n => (s.basin n).asleep && mayReplay s c n) with
      | some n => ((s.setCmd e { c with phase := .backlog, front := true, basin := some n }).leftBasin c).wake n
      | none => if substituteComes s ((s.partOf c.fn).getD 0) then s.setCmd e { c with phase := .awaitReplay true } else s.exhaust e

/-- Count a replay (BSN_REPLAYS, R516). -/
def State.noteReplay (s : State) : State := ({ s with bsn := { s.bsn with replays := s.bsn.replays + 1 } }).gauFault 12

/-- Transfer: an attempt removed for a reason other than its own fault goes to another basin (R209). -/
def State.transfer (s : State) (e : Nat) : State :=
  let s1 := s.clearAttempt e
  (({ s1 with bsn := { s1.bsn with transfers := s1.bsn.transfers + 1 } }).gauFault 13).sendOther e

/-- Every attempt running on a basin transfers, but that of `skip`. -/
def State.transferAll (s : State) (b : Nat) (skip : Option Nat) : State :=
  (s.onBasin b).foldl (fun a p => if p.2.phase == .running && p.2.status.isNone && some p.1 != skip then a.transfer p.1 else a) s

/-- An undispatched command moves to a basin with fresh estimates; a replay waiting for its basin keeps its precedence. -/
def State.moveTo (s : State) (e n : Nat) : State :=
  match s.cmd e with
  | none => s
  | some c =>
    let t := s.giveTags { c with basin := some n } n
    (t.2.setCmd e { t.1 with basin := some n, firstBasin := if c.attempts = 0 then some n else c.firstBasin,
                               usedOther := c.usedOther || (c.front && c.usedSame && c.basin == c.firstBasin), estRet := retNs s c n }).leftBasin c |>.unpin c

/-- Move a basin's undispatched backlog to its substitute (step 6 of R213), or each command to the allowed serving basin with the
smallest finish, else a parked one, else it completes FAULT_UNRECOVERED (R206, R214). -/
def State.moveBacklog (s : State) (b : Nat) (tgt : Option Nat) : State :=
  (s.onBasin b).foldl (fun a p =>
    if p.2.phase != .backlog then a
    else
      match tgt with
      | some n => a.moveTo p.1 n
      | none =>
        let q := (a.partOf p.2.fn).getD 0
        match bestBasin a p.2 (basinNums.filter (fun n => (a.basin n).serving && a.mayServe q n && n != b)) with
        | some n => a.moveTo p.1 n
        | none =>
          match basinNums.find? (fun n => (a.basin n).asleep && a.mayServe q n && n != b) with
          | some n => (a.moveTo p.1 n).wake n
          | none => a.exhaust p.1) s

/-- Commands awaiting a substitute try again, or end when none can come (R208). -/
def State.retryAwaiting (s : State) : State :=
  s.slu.retire.foldl (fun a p => if p.2.phase == .awaitReplay true then a.sendOther p.1 else a) s

/-! ## Classification (R204, R206) -/

/-- The Next column of R206 for a command: 0 same basin, 1 another basin, 2 exhausted, with R208's ending where no other basin can take it. -/
def nextAttempt (s : State) (b : Nat) (c : Cmd) (cls : FaultClass) : Nat :=
  if c.usedOther then 2
  else if !c.usedSame && (cls == .transient || cls == .external) && !(s.basin b).retiring then 0
  else if otherComes s c then 1
  else 2

/-- Classify a fault: complete its log entry, write Gauge's KIND 3 entry, and send the command on under R206. -/
def State.classify (s : State) (b idx : Nat) (e : Option Nat) (cls : FaultClass) : State :=
  let c := match e.bind s.cmd with | some y => if y.phase == .retest then some y else none | none => none
  let act := match c with | some y => nextAttempt s b y cls | none => 3
  let l := { tabGet s.bsn.log idx {} with cls := cls, action := act }
  let s1 := ({ s with bsn := { s.bsn with log := tabSet s.bsn.log idx l } }).gaugeLog 3 b l.time (natLe 16 l.bits)
  match e, c with
  | some n, some y =>
    if act = 0 then s1.noteReplay.sendSame n
    else if act = 1 then (s1.noteReplay.setCmd n { y with usedOther := true }).sendOther n
    else s1.exhaust n
  | _, _ => s1

/-! ## Retirement of a basin (R205, R213, R214) -/

/-- The spare starts its admission self-test for a role; without a spare NO_SPARE sets (R213, R214). -/
def State.callSpare (s : State) (role : Option Nat) : State :=
  match s.spare? with
  | some n => s.setBasin n { s.basin n with st := .testing, testFor := 3, subFor := role }
  | none => s.bsnEvent 6

/-- The rolling update ends: DONE, or FAILED with its result (R217, R218). -/
def State.endUpdate (s : State) (done : Bool) (result : Nat) : State :=
  ({ s with bsn := { s.bsn with updState := if done then 2 else 3, updResult := result } }).bsnEvent 7

/-- A basin is retired (R205, R213, R214): it is RESETTING with its generation advanced; the spare is called for its role first, so that a
substitute is known to come; then its attempts leave (the faulting command `skip` goes its own way), and without a substitute its backlog
moves. Its Cascade ends and is wiped before the diagnosis. An update of this basin fails. -/
def State.retireBasin (s0 : State) (b : Nat) (skip : Option Nat) : State :=
  let s := s0.accrueDerated
  let x := s.basin b
  let s1 := s.setBasin b { x with st := .resetting, generation := (x.generation + 1) % 2 ^ 32, testFor := 0, subFor := none, drainFrom := none
                                  retest := [], diagOk := false }
  let s2 := ((s1.bsnEvent 2).gauFault 15).logBasin b
  let spare := x.st == .spare || x.testFor == 3 || x.testFor == 6
  let open_ := x.role.isSome && !(match x.role with | some r => roleFilled s2 b r | none => false)
  let s3 := if spare then s2.bsnEvent 6 else if open_ then s2.callSpare x.role else s2
  let s4 := x.retest.foldl (fun a r => a.classify b r.2.2 r.2.1 .persistent) (s3.transferAll b skip)
  let s5 := if substituteFor s4 x.role then s4 else (s4.moveBacklog b none).retryAwaiting
  (s5.when (s5.bsn.updState == 1 && s5.bsn.updBasin == b) (fun a => a.endUpdate false 3)).noteSuspended s0

/-- A basin reset by a fault of codes 8 to 10 (R205): its attempts transfer and its generation advances. One that serves, is parked or drains for
an update returns to its role by way of its self-test, its backlog moving meanwhile; the spare returns to be the spare; one that is being
retired stays on its way; a self-test begins again. Faults of codes 1 to 7 that wait for their retest keep waiting (R204). -/
def State.resetForFault (s0 : State) (b : Nat) (skip : Option Nat) : State :=
  let s := s0.accrueDerated
  let x := s.basin b
  let s1 := s.setBasin b { x with st := .resetting, testFor := if x.retiring then 0 else if x.st == .spare then 6 else if x.testFor = 0 then 1 else x.testFor }
  let s2 := s1.transferAll b skip
  let s3 := (if x.retiring then s2 else s2.moveBacklog b none).resetBasin b true
  let y := s3.basin b
  (if x.retiring || y.testFor = 4 then s3 else s3.setBasin b { y with st := .testing }).noteSuspended s0

/-! ## Detection (R201 to R203) -/

/-- Record a detected fault: counters, the log entry, BSN_EVENT.FAULT; answers the log index. -/
def State.recordFault (s : State) (b det el : Nat) (e : Option Nat) : Nat × State :=
  let x := s.basin b
  let idx := if s.bsn.total = 0 then 0 else (s.bsn.newest + 1) % 16
  let c := e.bind s.cmd
  let entry : FaultLog := {
    time := s.now, basin := b, detector := det, element := el, cls := .transient, action := 3
    tagLo := match c with | some y => (tagOf y.desc).toNat % 65536 | none => 0
    queue := match c with | some y => y.q | none => 0
    port := match c with | some y => y.fn.port | none => false
    part := match c with | some y => (s.partOf y.fn).getD 0 | none => 0 }
  let times := if det = 11 then x.faultTimes else (s.now :: x.faultTimes.filter (fun t => decide (s.now ≤ t + 10000000000))).take 3
  let s1 := s.setBasin b { x with faultTimes := times, faultsTotal := sat32 (x.faultsTotal + 1) }
  (idx, (({ s1 with bsn := { s1.bsn with log := tabSet s1.bsn.log idx entry, newest := idx, total := sat32 (s1.bsn.total + 1) } }).gauFault det).bsnEvent 0)

/-- The keeper pair's basin fault notice (R203), with the entry concerned or, where none is, an open value (log entry 1). -/
def State.faultNotice (s : State) (b : Nat) (e : Option Nat) : State :=
  match e with
  | some n => s.setPair b { s.pair b with notice := some n }
  | none =>
    let v := s.freeBits 14
    v.2.setPair b { v.2.pair b with notice := some v.1.toNat }

/-- The attempt of an entry that a fault of basin b affects: one running there. -/
def affected (s : State) (b : Nat) (e : Option Nat) : Option Nat :=
  match e with
  | none => none
  | some n => match s.cmd n with
    | some c => if c.basin == some b && c.phase == .running && c.status.isNone then some n else none
    | none => none

/-- A fault inside the Cascade ends its running command early: its completion is withheld (R263). -/
def Basin.cascadeEnds (x : Basin) (el : Nat) : Basin :=
  if el = 10 && x.cas.running.isSome then
    { x with lanes := unclaim x.lanes x.cas.blocks, cas := { x.cas with running := none, runCycles := 0 } }
  else x

/-- A detected fault of basin b (R201 to R205). -/
def State.detected (s : State) (b det el : Nat) (e : Option Nat) : State :=
  let x := s.basin b
  if x.st == .off || x.st == .retired then s
  else
    let e1 := affected s b e
    let r := (s.setBasin b (x.cascadeEnds el)).recordFault b det el e1
    let s1 := match e1 with
      | some n =>
        let t := r.2.clearAttempt n
        (match t.cmd n with | some c => t.setCmd n { c with phase := .retest } | none => t)
      | none => r.2
    let byCount := det ≠ 11 && decide (3 ≤ (s1.basin b).faultTimes.length)
    if det = 8 || det = 9 || det = 10 then
      ((if byCount && !x.retiring then s1.retireBasin b e1 else s1.resetForFault b e1)).classify b r.1 e1 .basinReset
    else
      let s2 := s1.faultNotice b e1
      if det = 11 then s2.classify b r.1 e1 .external
      else if x.retiring then s2.classify b r.1 e1 .persistent
      else if byCount then (s2.retireBasin b e1).classify b r.1 e1 .persistent
      else s2.setBasin b { s2.basin b with retest := (s2.basin b).retest ++ [(det, e1, r.1)] }

end Sys2Proof.Machine
end

