-- ==== Sys2Proof/Machine/HostQueues.lean ====
section
/-! DEFINITION. The queue rows of the table (05, 06): doorbells, descriptor fetch, admission, posting, MSI-X coalescing and
unmasking, retention, enabling and disabling. -/

namespace Sys2Proof.Machine

/-- The queue exists and its function is not RESETTING (R110, R120). -/
def State.queueExists (s : State) (f : FnId) (q : Nat) : Bool :=
  s.fnExists f && decide (q < s.queuePairs f) && !(s.fn f).resetting

/-- A queue that takes doorbells: it exists, is enabled and attached (R123). -/
def State.queueLive (s : State) (f : FnId) (q : Nat) : Bool :=
  s.queueExists f q && (s.queue f q).enabled && !(s.queue f q).detached

/-- SUBMISSION_TAIL_DOORBELL (R123 to R125): a new tail makes descriptors visible, with this instant as their start (R129). -/
def execSubmissionTailDoorbell (f : FnId) (q : Nat) (v : BitVec 32) (s : State) : Host.Outcome State Fault Refusal :=
  let x := s.queue f q
  let t := v.toNat % 65536
  if !s.queueLive f q || x.errorCause ≠ 0 || t = x.sqTail then .next s
  else if x.depth ≤ t then .next (s.setQueue f q { x with errorCause := 1 })
  else
    let n := (t + x.depth - x.sqTail) % x.depth
    .next (s.setQueue f q { x with sqTail := t, starts := x.starts ++ List.replicate n s.now })

/-- COMPLETION_HEAD_DOORBELL (R123 to R125): acts in ERROR too; a head that passes the tail is cause 2. -/
def execCompletionHeadDoorbell (f : FnId) (q : Nat) (v : BitVec 32) (s : State) : Host.Outcome State Fault Refusal :=
  let x := s.queue f q
  let h := v.toNat % 65536
  if !s.queueLive f q || h = x.cqHead then .next s
  else if x.depth ≤ h || (x.cqTail + x.depth - x.cqHead) % x.depth < (h + x.depth - x.cqHead) % x.depth then
    .next (s.setQueue f q { x with errorCause := if x.errorCause = 0 then 2 else x.errorCause })
  else .next (s.setQueue f q { x with cqHead := h })

/-- Fetching may go on: R121, R125, R132, R152, R154 (HALTED fetches nothing), and no D3hot (R568). -/
def State.mayFetch (s : State) (f : FnId) (q : Nat) : Bool :=
  let x := s.queue f q
  s.queueLive f q && x.errorCause == 0 && x.fetching.isNone && s.fnt.op != .halted && !(s.fn f).d3hot
    && (s.port f.port).linkUp && s.freeEntry.isSome

/-- DESCRIPTOR_FETCH (R131, R132): the read of the next descriptor, or the one kept when fetching paused. -/
def execDescriptorFetch (f : FnId) (q : Nat) (s : State) : Host.Outcome State Fault Refusal :=
  let x := s.queue f q
  if !s.mayFetch f q then .next s
  else
    match x.parkedDesc with
    | some _ => .next (s.takeParked f q)
    | none =>
      if x.sqHead = x.sqTail then .next s
      else .next ((s.setQueue f q { x with fetching := some x.sqHead }).readHost f (x.sqBase.toNat + 128 * x.sqHead) 128)

/-- The position of a queue in the QUEUES section of the active image (R302). -/
def queuePosition (s : State) (key : Nat) : Option Nat :=
  match s.lay.active with
  | none => none
  | some l => l.queues.findIdx? (fun x => s.qcfg (fnOfKey (key / 64)) (key % 64) == some x)

/-- The die that holds a queue's completions is not lost (R302, R310). -/
def State.retains (s : State) (f : FnId) (q : Nat) : Bool := match queuePosition s (qKey f q) with | some i => !(s.die (i % 4)).lost | none => true

/-- Completions that a lost die would hold are no longer retained (R302, R310). -/
def windowLost (w : List (BitVec 64 × TagState)) : List (BitVec 64 × TagState) :=
  w.map (fun (p : BitVec 64 × TagState) => match p.2 with | .retained _ _ => (p.1, TagState.expired) | _ => p)

/-- The completion ring has room (R126). -/
def Queue.hasRoom (x : Queue) : Bool := decide ((x.cqTail + x.depth - x.cqHead) % x.depth < x.depth - 1)

/-- A completion still waits for a command using an old key state: one admitted in that order that has neither retired nor been squashed (R192). -/
def stillWaits (s : State) (c : Completion) : Bool :=
  c.waitsFor.any (fun w => match s.cmd w.1 with | some x => x.order == w.2 && x.phase != .squashed | none => false)

/-- The message once the pending count has reached max(COAL_COUNT, 1), judged at a posting and at a change of COAL_COUNT (R142). -/
def State.coalesce (s : State) (f : FnId) (q : Nat) : State :=
  let x := s.queue f q
  if max x.coalCount 1 ≤ x.coalPending then (s.setQueue f q { x with coalPending := 0 }).msix f x.vector else s

/-- POST_COMPLETION (R20, R126, R136, R137, R142, R144). -/
def execPostCompletion (f : FnId) (q : Nat) (s : State) : Host.Outcome State Fault Refusal :=
  let x := s.queue f q
  match x.toPost with
  | [] => .next s
  | c :: r =>
    if !x.hasRoom || s.holds f q || stillWaits s c || s.fnt.op == .halted then .next s
    else
      let t := (x.cqTail + 1) % x.depth
      let x1 := { x with
        toPost := r, cqTail := t, phase := if t = 0 then !x.phase else x.phase
        window := if s.retains f q then windowPosted x.window c (s.now + retentionNs) else windowLost (windowPosted x.window c s.now)
        coalPending := x.coalPending + 1, coalSince := if x.coalPending = 0 then s.now else x.coalSince }
      .next (((s.setQueue f q x1).emit (.completion f q ((x.cqBase.toNat + 32 * x.cqTail) % 2 ^ 64) false (completionBytes c x.phase))).coalesce f q)

/-- MSIX_COALESCE_TIMEOUT (R142). -/
def execMsixCoalesceTimeout (f : FnId) (q : Nat) (s : State) : Host.Outcome State Fault Refusal :=
  let x := s.queue f q
  if x.coalTime ≠ 0 && decide (0 < x.coalPending) && decide (x.coalSince + x.coalTime * 1000 ≤ s.now) then
    .next ((s.setQueue f q { x with coalPending := 0 }).msix f x.vector)
  else .next s

/-- Send every pending message whose vector and function are unmasked (R107, R568). -/
def State.sendPending (s : State) (f : FnId) : State :=
  (List.range 64).foldl (fun a v =>
    let x := a.fn f
    if x.vecPending.getLsbD v && !x.vecMask.getLsbD v && !x.fnMask && !x.d3hot && !x.resetting && (a.port f.port).linkUp then
      (a.setFn f { x with vecPending := x.vecPending &&& ~~~ BitVec.ofNat 64 (2 ^ v) }).emit (a.message f v)
    else a) s

/-- MSIX_VECTOR_UNMASK (R107): a vector, or the function mask, is cleared and pending messages are sent. -/
def execMsixVectorUnmask (f : FnId) (vector : Option Nat) (s : State) : Host.Outcome State Fault Refusal :=
  if !s.fnExists f then .next s
  else
    let x := s.fn f
    let x1 := match vector with
      | some v => { x with vecMask := x.vecMask &&& ~~~ BitVec.ofNat 64 (2 ^ (v % 64)) }
      | none => { x with fnMask := false }
    .next ((s.setFn f x1).sendPending f)

/-- RETENTION_EXPIRY (R144): a retained completion's 250 ms have passed. -/
def execRetentionExpiry (f : FnId) (q : Nat) (tag : BitVec 64) (s : State) : Host.Outcome State Fault Refusal :=
  let x := s.queue f q
  match windowFind x.window tag with
  | some (.retained _ till) =>
    if till ≤ s.now && !x.detached then .next (s.setQueue f q { x with window := windowSet x.window tag .expired }) else .next s
  | _ => .next s

/-- The fields of WEL_Q_CTRL beside ENABLE. -/
def ctrlFields (x : Queue) (v : BitVec 32) : Queue :=
  { x with vector := bitsAt v.toNat 1 6, coalCount := bitsAt v.toNat 8 8, coalTime := bitsAt v.toNat 16 10 }

/-- A queue as enabling leaves it (R121, R134, R156, R162). -/
def enabledQueue (x : Queue) (c : QueueCfg) (t : Nat) : Queue :=
  { x with
    enabled := true, log2Depth := c.log2Depth, errorCause := 0, sqHead := 0, sqTail := 0, cqHead := 0, cqTail := 0, phase := true
    starts := [], batchRecord := none
    cmdBal := { bal := c.cmdQuota * 1000000, last := t }, kibBal := { bal := c.kibQuota * 1000000, last := t }
    credit := { bal := if c.cls = 0 then c.share * 8000000 else 0, last := t } }

/-- Clearing ENABLE (R122, R134): fetching stops, the queue's launch entry is cancelled and what the queue holds is abandoned, unless its release is
under way; a descriptor kept in the cache is handled as fetched. -/
def State.disableQueue (s : State) (f : FnId) (q : Nat) : State :=
  let x := s.queue f q
  let s1 := s.setQueue f q { x with enabled := false, fetching := none, starts := [] }
  let s2 := s1.cancelWhere 4 (fun e => e.kind == some .batchRelease && batchQueue e == (f, q))
  (if (s2.queue f q).releaseAt.isSome then s2 else s2.abandonBatch f q).takeParked f q

/-- A write of WEL_Q_CTRL (R121, R122). -/
def State.writeQueueCtrl (s : State) (f : FnId) (q : Nat) (v : BitVec 32) : State :=
  if !s.queueExists f q then s
  else
    let x := s.queue f q
    if v.getLsbD 0 && !x.enabled then
      match s.qcfg f q with
      | some c => if x.idle && !x.detached then (s.setQueue f q (enabledQueue (ctrlFields x v) c s.now)).coalesce f q else s
      | none => s
    else if !v.getLsbD 0 && x.enabled then ((s.setQueue f q (ctrlFields x v)).coalesce f q).disableQueue f q
    else (s.setQueue f q (ctrlFields x v)).coalesce f q

/-- QUEUE_ENABLE: a write of WEL_Q_CTRL with ENABLE set (R121). -/
def execQueueEnable (f : FnId) (q : Nat) (v : BitVec 32) (s : State) : Host.Outcome State Fault Refusal :=
  .next (s.writeQueueCtrl f q (v ||| 1))

/-- QUEUE_DISABLE: a write of WEL_Q_CTRL with ENABLE clear (R122, R134). -/
def execQueueDisable (f : FnId) (q : Nat) (v : BitVec 32) (s : State) : Host.Outcome State Fault Refusal :=
  .next (s.writeQueueCtrl f q (v &&& ~~~ 1))

end Sys2Proof.Machine
end

