-- ==== Sys2Proof/Machine/VaultOps.lean ====
section
/-! DEFINITION. The vault's shared operations (13): MAC failures and lost dies. -/

namespace Sys2Proof.Machine

/-- The 64 bits of VLT_DIE_n (13). -/
def Die.bits (x : Die) : Nat :=
  bitNat x.present + x.rate % 4 * 2 + bitNat x.retraining * 8 + min 255 x.retrainFails * 2 ^ 8 + min 65535 x.macFails * 2 ^ 16

/-- A KIND 6 entry: VLT_DIE_n of the die (R518). -/
def State.logDie (s : State) (d : Nat) : State := s.gaugeLog 6 11 s.now (natLe 8 (s.die d).bits)

/-- Free a work buffer on a lost die and take its command's fault of code 11 (R310, R312), also where it has executed and not yet retired. -/
def State.loseWork (s : State) (e : Nat) : State :=
  match s.cmd e with
  | none => s
  | some c => match c.basin with
    | some b =>
      let s1 := if c.phase == .done then s.setCmd e { c with phase := .running, status := none } else s
      (s1.detected b 11 15 (some e)).freeWork e
    | none => s.freeWork e

/-- Some die is lost, and more than one is. -/
def diesLost (s : State) (n : Nat) : Bool := decide (n ≤ (([0, 1, 2, 3] : List Nat).filter (fun d => (s.die d).lost)).length)

/-- DEGRADED and FAILED show the dies lost since the power-on reset (R312, R313). -/
def State.markLost (s : State) : State := { s with vlt := { s.vlt with degraded := diesLost s 1, failed := diesLost s 2 } }

/-- Retained completions held on a die are no longer retained (R302, R310, R312). -/
def State.loseCompletions (s : State) (d : Nat) : State :=
  { s with queues := s.queues.map (fun (p : Nat × Queue) =>
      if (queuePosition s p.1).any (fun i => i % 4 == d) then
        (p.1, { p.2 with window := windowLost p.2.window })
      else p) }

/-- A die is lost (R312, R313): its root is discarded, work buffers on it fault, its completions are
no longer retained, its capacity leaves the work region. -/
def State.loseDie (s : State) (d : Nat) : State :=
  if !(s.die d).present then s
  else
    let x := s.die d
    let s1 := s.setDie d { x with present := false, lost := true, rate := 0, retraining := false }
    let s2 := s1.markLost
    let owners := s2.slu.retire.filter (fun p => match p.2.work with | some w => w.1 == d | none => false)
    owners.foldl (fun a p => a.loseWork p.1) ((((s2.dropDie d).loseCompletions d |>.vltEvent 2).gauMisc 5).logDie d)

/-- A MAC failure on a die is counted; the 64th within 1 s loses the die (R310, R312). -/
def State.noteMac (s : State) (d : Nat) : State :=
  let x := s.die d
  let times := (s.now :: x.macTimes.filter (fun t => decide (s.now ≤ t + 1000000000))).take 64
  let s1 := s.setDie d { x with macFails := min 0xFFFF (x.macFails + 1), macTimes := times }
  if 64 ≤ times.length then s1.loseDie d else s1

/-- LINE_LOST: no good copy of a line (R310), with its KIND 6 entry (R518). -/
def State.lineLost (s : State) (d : Nat) : State := (s.vltEvent 1).logDie d

end Sys2Proof.Machine
end

