-- ==== Sys2Proof/Machine/Flow.lean ====
section
/-! DEFINITION. The rows that carry an admitted command to its result (03, 05, 07, 08, 12, 13, 15): parking and waking, dispatch
and segment boundaries, host data and timeouts, key fills, grants, stripes, the verdict, and nonce reservations. -/

namespace Sys2Proof.Machine

/-! ## Parking and waking (R171 to R173) -/

/-- Some pool's least loaded unparked basin has more than SLU_WAKE_BACKLOG ahead: its lowest parked basin wakes (R173). -/
def State.wakeForBacklog (s : State) : State :=
  match s.lay.active with
  | none => s
  | some l =>
    (l.shared :: l.partitions.map (·.pool)).foldl (fun a m =>
      let inPool (n : Nat) : Bool := match (a.basin n).role with | some r => m.getLsbD r | none => false
      let up := basinNums.filter (fun n => inPool n && (a.basin n).serving)
      let dn := basinNums.filter (fun n => inPool n && (a.basin n).asleep && !(a.basin n).waking)
      match dn with
      | [] => a
      | n :: _ => if !up.isEmpty && up.all (fun b => decide (8000 * a.slu.wakeBacklog < aheadJ a 1 b)) then a.wake n else a) s

/-- The condition of R172 on the pools and reservations, with b parked too. -/
def parkable (s : State) (b : Nat) : Bool :=
  match s.lay.active with
  | none => false
  | some l =>
    let stay := basinNums.filter (fun n => n != b && (s.basin n).serving)
    let roleIn (m : BitVec 8) (n : Nat) : Bool := match (s.basin n).role with | some r => m.getLsbD r | none => false
    let unparked (m : BitVec 8) : Nat := (stay.filter (roleIn m)).length
    ((l.shared :: l.partitions.map (·.pool)).all (fun m => !roleIn m b || decide (0 < unparked m)))
      && stay.all (fun n => decide (reserveOf s n unparked ≤ 840000))

/-- PARK_BASIN (R59, R172, R468): its DRBG state is lost, and the windows from before parking count no more. -/
def execParkBasin (b : Nat) (s : State) : Host.Outcome State Fault Refusal :=
  let x := s.basin b
  if s.slu.parkEn && x.serving && (s.onBasin b).isEmpty && decide (x.idleSince + 1000 * s.slu.parkIdle ≤ s.now) && parkable s b then
    .next (((s.accrueDerated.setBasin b { x with st := .parked, sinceStart := 0 }).setDrbg b { reseeds := (s.drbg b).reseeds }).sluEvent 0)
  else .next s

/-- WAKE_COMPLETE (R59, R173, R468): the basin serves again; its DRBG must have been instantiated. -/
def execWakeComplete (b : Nat) (s : State) : Host.Outcome State Fault Refusal :=
  let x := s.basin b
  if x.asleep && x.waking && (s.drbg b).inst then .next ((s.beginServing b x.role).sluEvent 1) else .next s

/-- SLU_CTRL_WRITE (R171, R173): clearing PARK_EN wakes every parked basin. -/
def execSluCtrlWrite (f : FnId) (v : BitVec 32) (s : State) : Host.Outcome State Fault Refusal :=
  if !(isPf0 f && s.fnExists f) then .next s
  else
    let s1 := { s with slu := { s.slu with suspend := v.extractLsb' 0 3, parkEn := v.getLsbD 3 } }
    .next (if v.getLsbD 3 then s1 else basinNums.foldl (fun a n => a.wake n) s1)

/-! ## Dispatch (R164, R165) -/

/-- DISPATCH (R164): one choice of a basin for its jets or its Cascade. -/
def execDispatch (b : Nat) (cascade : Bool) (s : State) : Host.Outcome State Fault Refusal := .next ((s.dispatchOn b cascade).wakeForBacklog)

/-- The segmented command whose segment has run longest on a basin. -/
def segmentAt (s : State) (b : Nat) : Option (Nat × Cmd) :=
  ((s.onBasin b).filter (fun p => p.2.onJets && p.2.phase == .running && decide (0 < p.2.segs))).foldl (fun best p =>
    match best with | none => some p | some x => if p.2.segAt < x.2.segAt then some p else some x) none

/-- SEGMENT_BOUNDARY (R159, R165): a segment ends, its lanes are free and the basin chooses again. -/
def execSegmentBoundary (b : Nat) (s : State) : Host.Outcome State Fault Refusal :=
  match segmentAt s b with
  | none => .next s
  | some (e, c) =>
    let s1 := s.setCmd e { c with onJets := false, estRet := s.now + execNs s c b * (if c.segs = 0 then 0 else restBytes c) / max (payloadOf c.desc) 1 }
    .next ((s1.setBasin b (freeLanesOf (s1.basin b) e (cmdBlocks s c))).dispatchOn b false)

/-! ## Host data (R21, R109, R130) -/

/-- The lists are in: they satisfy R130 and the payload is read, or the command completes MALFORMED/SGL. -/
def State.listsIn (s : State) (e : Nat) : State :=
  match s.cmd e with
  | none => s
  | some c =>
    if (inSgl c.desc && c.inList.isEmpty) || (outSgl c.desc && c.outList.isEmpty) then s
    else if (inSgl c.desc && !sglOk (inAddrOf c.desc) (inLenOf c.desc) c.inList)
        || (outSgl c.desc && !sglOk (outAddrOf c.desc) (outLenOf c.desc) c.outList) then s.endCmd e 0x0405
    else (s.setCmd e { c with listsDone := true }).readAll c (inExtents c)

/-- HOST_READ_COMPLETION (R21, R24, R99, R109, R181): a reply of an older generation of the function is discarded, and one for a
detached queue, whose command waits (R114); data of a list or the payload; a failure ends the command ABANDONED, by AER. -/
def execHostReadCompletion (a : Attempt) (gen : Nat) (k : ReadKind) (r : ReadResult) (s : State) : Host.Outcome State Fault Refusal :=
  let e := a.entry
  match s.live e a.inst with
  | none => .next s
  | some c =>
    if c.readsStopped || c.phase != .running || c.status.isSome || gen != (s.fn c.fn).generation || (s.queue c.fn c.q).detached then .next s
    else
      match r with
      | .unsupported => .next ((s.endLate e 0x0701).aerError c.fn 20)
      | .poisoned => .next ((s.endLate e 0x0702).aerError c.fn 12)
      | .data bs =>
        match k with
        | .inList => if c.listsDone then .next s else .next ((s.setCmd e { c with inList := bs }).listsIn e)
        | .outList => if c.listsDone then .next s else .next ((s.setCmd e { c with outList := bs }).listsIn e)
        | .payload =>
          if c.listsDone && !c.inputDone then .next (s.setCmd e { c with input := padTo (inLenOf c.desc) bs, inputDone := true })
          else .next s

/-- COMPLETION_TIMEOUT (R109, R125): a descriptor read in flight puts the queue in ERROR; a read of entry e ends its command. -/
def execCompletionTimeout (f : FnId) (q : Nat) (e : Option Nat) (s : State) : Host.Outcome State Fault Refusal :=
  match e with
  | none =>
    let x := s.queue f q
    if x.fetching.isSome then .next ((s.setQueue f q { x with fetching := none, errorCause := 3 }).aerError f 14) else .next s
  | some n =>
    match s.cmd n with
    | none => .next s
    | some c =>
      if c.fn == f && c.q == q && c.phase == .running && c.status.isNone && !(c.listsDone && c.inputDone)
          && !(s.queue f q).detached then
        .next ((s.endLate n 0x0703).aerError f 14)
      else .next s

/-! ## Key fills (R177, R285, R310) -/

/-- The failing copy of a record on a die is rewritten from its partner (R310). -/
def State.repairCopy (s : State) (d : Nat) (h : BitVec 64) (r : Record) : State :=
  (Machine.recordSlots s r).zipIdx.foldl (fun a p => if a.dieServed d then a.vaultWrite d (slotOffset d (keySlot s h + p.2)) (padTo 256 p.1) else a) s

/-- KEY_FILL_COMPLETE (R181, R200, R285, R310): a reply of another instance or generation is discarded; the record from the copy that reads whole, a repair from the partner, or a detected fault of
code 11; while the only copy lies on a die that retrains it waits (R311, R313). -/
def execKeyFillComplete (a : Attempt) (g : ReplyGen) (handle : BitVec 64) (ends : LineEnd × LineEnd) (s : State) : Host.Outcome State Fault Refusal :=
  let e := a.entry
  let line := ends.1
  let partner := ends.2
  match s.live e a.inst with
  | none => .next s
  | some c =>
    match c.basin with
    | none => .next s
    | some b =>
      if !(s.fresh (unitNum .cistern) b g && (s.basin b).fill.any (fun k => k.handle == handle && k.record.isNone && k.marks.contains e)) then .next s
      else
        match s.record handle with
        | none => .next (s.setBasin b { s.basin b with fill := (s.basin b).fill.filter (fun k => k.handle != handle) })
        | some r =>
          let ds := diePair (keySlot s handle / 524288)
          let firstUp := (s.die ds.1).present && !(s.die ds.1).retraining
          let d := if firstUp then ds.1 else ds.2
          let o := if firstUp then ds.2 else ds.1
          let otherUp := (s.die o).present && !(s.die o).retraining
          if !(s.die ds.1).present && !(s.die ds.2).present then .next (s.detected b 11 15 (some e))
          else if !firstUp && (!(s.die d).present || (s.die d).retraining) then .next s
          else if line == .ok then .next ((s.fillArrives b handle r).loadLanes b)
          else
            let s1 := if line == .macFail then s.noteMac d else s
            if otherUp && partner == .ok then
              .next (((if line == .macFail then (s1.repairCopy d handle r).vltEvent 0 else s1).fillArrives b handle r).loadLanes b)
            else
              let s2 := if otherUp && partner == .macFail then s1.noteMac o else s1
              let s3 := if line == .macFail then s2.lineLost d else s2.cisEvent 3
              .next (s3.detected b 11 15 (some e))

/-- FILL_BUFFER_GRANT (R177): a freed entry goes to a waiting command. -/
def execFillBufferGrant (e : Nat) (handle : BitVec 64) (s : State) : Host.Outcome State Fault Refusal :=
  match s.cmd e with
  | none => .next s
  | some c =>
    match c.basin with
    | none => .next s
    | some b =>
      if c.waitsFill && fillRoom s b handle && (liveKeys s c).contains handle then
        .next (((s.setCmd e { c with waitsFill := false }).lookupKeys e).goOn e)
      else .next s

/-- WORK_BUFFER_GRANT (R303). -/
def execWorkBufferGrant (e : Nat) (s : State) : Host.Outcome State Fault Refusal :=
  match s.cmd e with
  | none => .next s
  | some c => if c.waitsWork then .next (s.allocWork e) else .next s

/-! ## Output stripes (R18, R19, R352) -/

/-- Bytes of an output stripe (R225, R230): 4 KiB, for XTS whole data units. -/
def outStripe (d : Bytes) : Nat :=
  if (opcodeOf d == 0x0201 || opcodeOf d == 0x0202) && param d 0 1 == 2 then stripeBytes (param d 4 4) else 4096

/-- The host writes of a stripe of a command's output. -/
def stripeWrites (c : Cmd) (stripe : Nat) : List (Nat × Bytes) :=
  let n := outStripe c.desc
  let off := n * stripe
  let ws := scatter (outExtents c) (List.replicate off (0 : Byte) ++ slice c.output off n)
  (ws.foldl (fun (a : Nat × List (Nat × Bytes)) w =>
    (a.1 + w.2.length, if a.1 + w.2.length ≤ off then a.2 else a.2 ++ [(w.1 + (off - a.1), w.2.drop (off - a.1))])) (0, [])).2

/-- The bytes of a list of writes. -/
def writeBytes (ws : List (Nat × Bytes)) : Nat := (ws.map (fun w => w.2.length)).sum

/-- The writes of a command would not fit its stream window, or, for a small output, its retire-buffer entry, while its queue holds them back
(R19, R114, R351). -/
def State.windowFull (s : State) (c : Cmd) (ws : List (Nat × Bytes)) : Bool :=
  s.holds c.fn c.q && decide (256 ≤ c.staged + writeBytes ws) && decide (c.window < c.staged + writeBytes ws)

/-- Count the writes of a command that its queue holds back. -/
def State.stage (s : State) (e : Nat) (c : Cmd) (ws : List (Nat × Bytes)) : State :=
  if s.holds c.fn c.q then s.setCmd e { c with staged := c.staged + writeBytes ws } else s

/-- Issue host writes of a command's queue, in payloads of the programmed size (R20, R94). -/
def State.deliverAll (s : State) (c : Cmd) (ws : List (Nat × Bytes)) : State :=
  (ws.flatMap (fun w => s.writesOf c.fn (some c.q) w.1 w.2)).foldl (fun (a : State) o => a.deliver c o) s

/-! ## The verdict (R168, R177, R178, R190 to R192) -/

/-- A command that changes a key's state when it retires: KEY.STATE without an instant, or KEY.DESTROY (R192). -/
def changesKey (d : Bytes) : Option (BitVec 64) :=
  if opcodeOf d == 0x0406 || (opcodeOf d == 0x0405 && param d 1 1 == 0) then some (key1Of d) else none

/-- The command names the key. -/
def namesKey (d : Bytes) (h : BitVec 64) : Bool := h != 0 && (key1Of d == h || key2Of d == h)

/-- An earlier unretired command of the same queue changes the state of a key this one names (R192). -/
def keyBlocked (s : State) (c : Cmd) : Bool :=
  s.slu.retire.any (fun p => p.2.fn == c.fn && p.2.q == c.q && decide (p.2.order < c.order) &&
    (match changesKey p.2.desc with | some h => namesKey c.desc h | none => false))

/-- Sluice has what the checks of R168 need: the key records on the basin, the lists whose form outranks the verdict (R149, log entry 139), and
the input of an import that takes its usage from its block; of a command that host memory ended it needs none. -/
def verdictReady (s : State) (c : Cmd) : Bool :=
  c.verdict == .open && !keyBlocked s c && (c.readsStopped || keysHeld s c && (c.listsDone || !(inSgl c.desc || outSgl c.desc)))
    && (c.readsStopped || opcodeOf c.desc != 0x0401 || param c.desc 0x20 1 != 0 || attrUsage c.desc != 0 || c.inputDone)

/-- What ALLOW lets happen: fills enter the key cache, the records of named keys are kept (R191), and a spent nonce block is reserved anew. A command that host memory
ended meanwhile ends now (R109). -/
def State.allow (s : State) (e : Nat) (c : Cmd) : State :=
  if c.readsStopped then s.endCmd e (c.status.getD 0x0701)
  else
  let ks := liveKeys s c
  let s1 := s.setCmd e { c with verdict := .allow, recheck := false, vEpoch := some s.lay.epoch
                                kept := if c.usesBasin then ks.filterMap (fun h => (s.record h).map (fun r => (h, r))) else [] }
  let s2 := match c.basin with | none => s1 | some b => s1.settleFills b ks
  if c.wantsBlock then s2.awaitBlock (key1Of c.desc) e else s2

/-! ## Nonce blocks (R178, R288) -/

/-- Waiting seals of a key draw from the new block, in entry order; one that still finds it spent reserves the next, and with the counter spent one with ALLOW ends. -/
def State.serveWaiting (s : State) (h : BitVec 64) : State :=
  s.slu.retire.foldl (fun a p =>
    match a.cmd p.1, (a.cmd p.1).bind a.nonceRec with
    | some c, some r =>
      if c.wantsBlock && key1Of c.desc == h then
        if a.canDraw h then
          let d := a.drawNonce h r.nonceField
          (d.2.setCmd p.1 { c with nonce := some d.1, wantsBlock := false }).noteSpent p.1 h
        else if c.verdict == .allow then a.awaitBlock h p.1 else a
      else a
    | _, _ => a) s

/-- NONCE_RESERVATION_PERSISTED (R178, R288): the journal entry is written; with the journal full it waits. -/
def execNonceReservationPersisted (handle : BitVec 64) (s : State) : Host.Outcome State Fault Refusal :=
  match tabFind s.cis.reserving handle.toNat with
  | none => .next s
  | some (block, e) =>
    if s.journalFull && !tabHas s.cis.journal handle.toNat then .next s
    else
      let s1 := { s with cis := { s.cis with
        journal := tabSet s.cis.journal handle.toNat (block, journalMac s handle block)
        persisted := tabSet s.cis.persisted handle.toNat block
        reserving := tabDel s.cis.reserving handle.toNat } }
      let s2 := match s1.cmd e with
        | some c => if key1Of c.desc == handle then s1.setCmd e { c with block := some block } else s1
        | none => s1
      .next (s2.serveWaiting handle)

end Sys2Proof.Machine
end

