-- ==== Sys2Proof/Machine/BasinRows.lean ====
section
/-! DEFINITION. The rows of faults and basins (03, 09, 17, 18): detectors, retests, self-tests, drains, diagnosis, the rolling
update, and the restart of the Fountainhead pair (R496). -/

namespace Sys2Proof.Machine

/-! ## The Fountainhead pair (R496) -/

/-- A restart of the Fountainhead pair: `fault` for a lockstep difference or a Refuge halt, which makes the device HALTED
when a second follows within 10 s. The management command in service completes FAULT_UNRECOVERED. The code of the cause in Gauge's entry
is an open value (log entry 1). -/
def State.restartFnt (s : State) (fault : Bool) (cause : Nat) : State :=
  let again := fault && (match s.fnt.lastFault with | some t => decide (s.now ≤ t + 10000000000) | none => false)
  if again then s.halt
  else
    let s1 := { s with
      fnt := { s.fnt with
        generation := (s.fnt.generation + 1) % 2 ^ 32, restartAt := some s.now, restartSwitch := cause == 2
        lastFault := if fault then some s.now else s.fnt.lastFault, collect := none }
      ccb := { s.ccb with trans := s.ccb.trans.filter (fun t => !t.forCollect) }
      cls := { s.cls with mode := if s.cls.mode = 2 then 0 else s.cls.mode } }
    let fr := ((s1.endSession.setPair 8 {}).gauMisc 6).freeBytes 1
    let s2 := (fr.2.gaugeLog 7 8 s.now fr.1).fntEvent 7
    match s2.slu.mgmt with
    | e :: _ =>
      (match s2.cmd e with
       | some c => if c.execStart.isSome && c.status.isNone then (s2.endLate e 0x0601).dropStaged else s2
       | none => s2)
    | [] => s2

/-! ## Faults of units (R55, R56, R416) -/

/-- A result withheld from an entry by a unit outside the basins. R55 has the output withheld and says nothing of what becomes of the
operation: a command on a basin is handled as after a fault of code 11, any other completes FAULT_UNRECOVERED (DESIGN CHOICE, log entry
130). -/
def State.withhold (s : State) (e : Option Nat) : State :=
  match e with
  | none => s
  | some n =>
    match s.cmd n with
    | none => s
    | some c =>
      match c.basin with
      | some b => if (affected s b e).isSome then s.detected b 11 15 e else s
      | none => if c.execStart.isSome && c.status.isNone then s.endLate n 0x0601 else s

/-- A fault reported by a unit of the compute die (R55, R56): a detected fault of a basin; of any other unit one that Gauge counts under its
detector (R516), its output being withheld. -/
def State.unitFault (s : State) (u : Unit) (det : Nat) (el : Element) (e : Option Nat) : State :=
  match u with
  | .basin n => if n < 8 then s.detected n det el e else s
  | _ => (s.gauFault det).withhold e

/-- RAIL_COLLISION (R55, R201): withheld, recorded by Grotto, a detected fault of its basin. -/
def execRailCollision (u : Unit) (el : Element) (e : Option Nat) (s : State) : Host.Outcome State Fault Refusal :=
  .next ((s.unitFault u 1 el e).assertSource 13)

/-- A permitted debug access whose target stalls returns the deny response (R413). -/
def State.stallDebug (s : State) (u : Unit) : State :=
  match s.wei.debugAcc with
  | some x => if x.unit = unitNum u then { s with wei := { s.wei with debugAcc := some { x with denied := true } } } else s
  | none => s

/-- STALL (R56, R201, R413): as a rail collision, but counted by Gauge as a stall and not recorded by Grotto. -/
def execStall (u : Unit) (el : Element) (e : Option Nat) (s : State) : Host.Outcome State Fault Refusal :=
  .next (((s.stallDebug u).unitFault u 2 el e).gauMisc 1)

/-- CHECKING_PIPE_MISMATCH (R237): JET_EVENT.MISMATCH and a detected fault of code 3. -/
def execCheckingPipeMismatch (b jet e : Nat) (s : State) : Host.Outcome State Fault Refusal :=
  if b < 8 && jet < 8 then
    .next ((s.setBasin b { s.basin b with jetEvent := (s.basin b).jetEvent.set 0 }).detected b 3 jet (some e))
  else .next s

/-- HASH_PARITY_FAILURE (R234): JET_EVENT.HASH_PARITY and a detected fault of code 4. -/
def execHashParityFailure (b jet e : Nat) (s : State) : Host.Outcome State Fault Refusal :=
  if b < 8 && (jet == 8 || jet == 9) then
    .next ((s.setBasin b { s.basin b with jetEvent := (s.basin b).jetEvent.set 1 }).detected b 4 jet (some e))
  else .next s

/-- The unit is a basin. -/
def unitBasin : Unit → Option Nat
  | .basin n => if n < 8 then some n else none
  | _ => none

/-- A failed transfer between units other than basins: sent again up to three times, then the receiving unit is reset and its
generation advances (R416). -/
def State.resend (s : State) (k : Nat) : State :=
  let n := tabGet s.wei.retries k 0
  if n < 3 then { s with wei := { s.wei with retries := tabSet s.wei.retries k (n + 1) } }
  else if k = 8 then ({ s with wei := { s.wei with retries := tabDel s.wei.retries k } }).restartFnt false 3
  else { s with wei := { s.wei with retries := tabDel s.wei.retries k, gens := tabSet s.wei.gens k ((tabGet s.wei.gens k 1 + 1) % 2 ^ 32) } }

/-- A tag failure discarded and recorded (R416). -/
def State.tagFailure (s : State) : State :=
  (({ s with wei := { s.wei with tagFails := s.wei.tagFails + 1 } }).weiEvent 5).assertSource 14

/-- FABRIC_TAG_FAILURE (R416): discarded and recorded; a detected fault of each basin concerned; between other units, sent again. -/
def execFabricTagFailure (sender receiver : Unit) (e : Option Nat) (s : State) : Host.Outcome State Fault Refusal :=
  match unitBasin sender, unitBasin receiver with
  | none, none => .next (s.tagFailure.resend (unitNum receiver))
  | some b, none => .next (s.tagFailure.detected b 6 12 e)
  | none, some b => .next (s.tagFailure.detected b 6 12 e)
  | some a, some b => .next (if a = b then s.tagFailure.detected b 6 12 e else (s.tagFailure.detected a 6 12 e).detected b 6 12 e)

/-- A key-cache entry is invalidated; the commands on the basin that run with its key have it fetched again (R202). -/
def State.dropEntryKey (s : State) (b : Nat) (h : BitVec 64) : State :=
  let s1 := s.setBasin b { s.basin b with cache := (s.basin b).cache.filter (fun k => k.handle != h) }
  (s1.onBasin b).foldl (fun a p => if p.2.phase == .running && p.2.status.isNone && (liveKeys a p.2).contains h then a.lookupKeys p.1 else a) s1

/-- The core halts: a push onto the Refuge stack failed (R206, R449, R496). -/
def State.refugeHalt (s : State) (p : Nat) (e : Option Nat) : State :=
  let s1 := s.setPair p { s.pair p with halted := true }
  if p = 8 then s1.restartFnt true 4 else s1.detected p 9 13 e

/-- SRAM_UNCORRECTABLE (R201, R202, R449): a detected fault of code 7; where the word holds a key-cache entry, that entry is invalidated and its record
fetched again; in a Refuge word that a push finds, the push fails and the core halts. -/
def execSramUncorrectable (x : FaultAt) (word : SramWord) (s : State) : Host.Outcome State Fault Refusal :=
  match word with
  | .refuge => .next (if x.unit ≤ 8 then s.refugeHalt x.unit x.entry else s)
  | .key h => .next (if x.unit < 8 then (s.detected x.unit 7 11 x.entry).dropEntryKey x.unit h else s)
  | .plain => .next (if x.unit < 8 then s.detected x.unit 7 11 x.entry else s)

/-- SRAM_CORRECTION (R202): corrected in place and counted by Gauge; no detected fault. -/
def execSramCorrection (b : Nat) (s : State) : Host.Outcome State Fault Refusal :=
  if b < 8 then .next (s.gauFault 0) else .next s

/-- KEEPER_LOCKSTEP_MISMATCH (R206, R438, R496): code 8 in a basin pair, with the entry it was serving; a restart in the Fountainhead pair. -/
def execKeeperLockstepMismatch (x : FaultAt) (s : State) : Host.Outcome State Fault Refusal :=
  if x.unit < 8 then .next (s.detected x.unit 8 13 x.entry)
  else if x.unit = 8 then .next (s.restartFnt true 1)
  else .next s

/-- SEQUENCER_CONTROL_FAULT (R201, R206): code 10, with the entry it was serving. -/
def execSequencerControlFault (x : FaultAt) (s : State) : Host.Outcome State Fault Refusal :=
  if x.unit < 8 then .next (s.detected x.unit 10 14 x.entry) else .next s

/-! ## Classification and self-tests -/

/-- FAULT_RETEST_DONE (R204 to R206, R213): a pass classifies the oldest fault under retest TRANSIENT, a failure PERSISTENT, which
retires the basin. -/
def execFaultRetestDone (b : Nat) (pass : Bool) (s : State) : Host.Outcome State Fault Refusal :=
  let x := s.basin b
  match x.retest with
  | [] => .next s
  | (_, e, idx) :: r =>
    let s1 := s.setBasin b { x with retest := r }
    if pass then .next (s1.classify b idx e .transient)
    else .next ((if x.retiring then s1 else s1.retireBasin b e).classify b idx e .persistent)

/-- A basin takes a role after its self-test: as substitute, with the backlog of the basin it replaces (steps 5 and 6 of R213). -/
def State.substitute (s : State) (n : Nat) (role : Option Nat) : State :=
  let old := basinNums.find? (fun m => m != n && (s.basin m).role == role && role.isSome && !(s.basin m).serving && (s.basin m).st != .parked)
  let s1 := ((s.beginServing n role).bsnEvent 3).logBasin n
  let s2 := match old with | some m => s1.moveBacklog m (some n) | none => s1
  s2.retryAwaiting

/-- An image's version and digest stand in the active Layout's FIRMWARE section. -/
def listedFw (s : State) (kind version : Nat) (digest : Bytes) : Bool :=
  match s.lay.active with
  | none => false
  | some l => l.firmware.any (fun x => x.kind == kind && x.version == version && x.digest == padTo 48 digest)

/-- A basin brought up at boot or by the first Layout takes its own role, or becomes the spare (R195, R196, step 11 of R561). -/
def State.joinRoles (s : State) (b : Nat) : State :=
  let spare := match s.lay.active with | some l => l.spare == b | none => true
  if spare || roleFilled s b b then s.setBasin b { s.basin b with st := .spare, role := none, testFor := 0 }
  else s.beginServing b (some b)

/-- ADMISSION_SELF_TEST_DONE (R205, R213, R216, R468, R561 step 11): the DRBG must have been instantiated for a pass. A basin that fails stays OFF at
boot (step 11 of R561) and is retired where a Layout launch brought it up (R205). -/
def execAdmissionSelfTestDone (b : Nat) (pass : Bool) (s : State) : Host.Outcome State Fault Refusal :=
  let x := s.basin b
  if x.st != .testing then .next s
  else
    let ok := pass && ((s.drbg b).inst || x.testFor == 3)
    if x.testFor = 1 then .next (if ok then s.beginServing b x.role else s.retireBasin b none)
    else if x.testFor = 2 then
      if ok then
        let r := x.role.getD b
        let away := roleFilled s b r || (match s.lay.active with | some l => l.spare == r | none => true)
        let s1 := if away then s.setBasin b { x with st := .spare, role := none, testFor := 0, diagOk := false } else s.beginServing b (some r)
        .next ((s1.bsnEvent 4).logBasin b).retryAwaiting
      else .next ((s.setBasin b { x with st := .retired, testFor := 0, diagOk := false }).bsnEvent 5)
    else if x.testFor = 3 then
      if ok then .next (s.substitute b x.subFor)
      else
        let s1 := s.retireBasin b none
        let olds := basinNums.filter (fun m => m != b && (s1.basin m).role == x.subFor && !(s1.basin m).serving && (s1.basin m).st != .parked)
        .next (olds.foldl (fun a m => a.moveBacklog m none) s1)
    else if x.testFor = 6 then .next (if ok then s.setBasin b { x with st := .spare, role := none, testFor := 0 } else s.retireBasin b none)
    else if x.testFor = 5 || x.testFor = 7 then
      .next (if ok && listedFw s 0 x.fwVersion x.fwDigest then s.joinRoles b
             else if x.testFor = 7 && !ok then s.retireBasin b none else s.setBasin b { x with st := .off, testFor := 0 })
    else .next s

/-- SPARE_SELF_TEST (R198): a failure moves the spare to RETIRED and sets NO_SPARE. -/
def execSpareSelfTest (pass : Bool) (s : State) : Host.Outcome State Fault Refusal :=
  match s.spare? with
  | none => .next s
  | some n =>
    if pass then .next s
    else .next (((((s.setBasin n { s.basin n with st := .retired, diagOk := false }).bsnEvent 2).gauFault 15).bsnEvent 6).logBasin n)

/-- BASIN_DRAIN_TIMEOUT (R209, R215, R218): commands still running 2 ms after the drain began transfer; a retiring basin then goes to
step 7 of R213. -/
def execBasinDrainTimeout (b : Nat) (s : State) : Host.Outcome State Fault Refusal :=
  let x := s.basin b
  match x.drainFrom with
  | none => .next s
  | some t =>
    if x.st == .draining && decide (t + 2000000 ≤ s.now) then
      let s1 := (if x.testFor = 4 then s else s.accrueDerated).transferAll b none
      let y := s1.basin b
      .next (if x.testFor = 4 then s1
             else s1.setBasin b { y with st := .resetting, generation := (y.generation + 1) % 2 ^ 32, drainFrom := none })
    else .next s

/-- No attempt runs on a basin, no fault waits for its retest, and its Cascade is wiped. -/
def drainedBasin (s : State) (b : Nat) : Bool :=
  !((s.onBasin b).any (fun p => p.2.phase == .running && p.2.status.isNone)) && (s.basin b).retest.isEmpty && !(s.basin b).cas.wiping

/-- BASIN_DIAGNOSIS_DONE (step 7 of R213): the basin is reset and power-gated, RETIRED, with the outcome in DIAG_OK. -/
def execBasinDiagnosisDone (b : Nat) (pass : Bool) (s : State) : Host.Outcome State Fault Refusal :=
  let x := s.basin b
  let early := x.st == .draining && x.testFor != 4
  if (x.st == .resetting || early || x.st == .retired) && drainedBasin s b then
    let s1 := s.accrueDerated.resetBasin b (early || x.st == .retired)
    .next (s1.setBasin b { s1.basin b with st := .retired, diagOk := pass, testFor := 0, drainFrom := none })
  else .next s

/-! ## Rolling update (R217, R218) -/

/-- The accepted staged keeper image. -/
def keeperImage (s : State) : Option StagedFw :=
  match tabFind s.fnt.staged 0 with | some i => if i.accepted then some i else none | none => none

/-- The basin runs an image. -/
def runsImage (x : Basin) (i : StagedFw) : Bool := x.fwVersion == i.version && x.fwDigest == i.digest

/-- The basins that run an image, bit n for basin n (BSN_UPDATE.DONE_MASK). -/
def runningMask (s : State) (i : StagedFw) : BitVec 8 :=
  BitVec.ofNat 8 ((basinNums.map (fun n => bitNat (runsImage (s.basin n) i) * 2 ^ n)).sum)

/-- The basin of the next pass: the spare first, then in ascending number each that does not yet run the image. -/
def nextUpdate (s : State) : Option Nat :=
  let old (n : Nat) : Bool := match keeperImage s with | some i => !runsImage (s.basin n) i | none => false
  let todo := basinNums.filter (fun n => old n && ((s.basin n).st == .spare || (s.basin n).st == .serving || (s.basin n).st == .parked))
  match s.spare? with
  | some n => if todo.contains n then some n else todo.head?
  | none => todo.head?

/-- Raise the keeper rollback count to the image's (R486) and record the image in service. -/
def State.keeperInService (s : State) : State :=
  match keeperImage s with
  | some i => { s with fnt := { s.fnt with keeperVersion := i.version, keeperDigest := i.digest, rbKeeper := max s.fnt.rbKeeper i.rollback } }
  | none => s

/-- Reset a basin for its new image (step 4 of R218): RESETTING, with its generation advanced. A replay that still waits on a basin that has given its
role away moves (R209). -/
def State.updateReset (s : State) (b : Nat) : State :=
  let s0 := if (s.basin b).role.isNone then s.moveBacklog b none else s
  let s1 := s0.accrueDerated.resetBasin b true
  s1.setBasin b { s1.basin b with st := .resetting, testFor := 4, drainFrom := none }

/-- What the update of a basin does as time passes (steps 3 to 5 of R218): drained and its Cascade wiped, it is reset; then it loads the image and
runs its self-test. Each takes one tick (DESIGN CHOICE, log entry 140). -/
def State.updateTick (s : State) : State :=
  let b := s.bsn.updBasin
  let x := s.basin b
  if s.bsn.updState != 1 || x.testFor != 4 then s
  else if x.st == .draining && drainedBasin s b then s.updateReset b
  else if x.st == .resetting then s.setBasin b { x with st := .testing }
  else s

/-- Start the pass of the next basin (steps 1 and 2 of R218), or end the update with DONE. -/
def State.updatePass (s : State) : State :=
  match nextUpdate s with
  | none => s.keeperInService.endUpdate true 0
  | some n =>
    let s1 := { s with bsn := { s.bsn with updBasin := n } }
    let x := s1.basin n
    if x.st == .spare then s1.updateReset n
    else
      let s2 := s1.accrueDerated.setBasin n { x with st := .draining, testFor := 4, drainFrom := some s.now }
      match s2.spare? with
      | some m =>
        let s3 := ((s2.beginServing m x.role).bsnEvent 3).logBasin m
        let s4 := s3.moveBacklog n (some m)
        (s4.setBasin n { s4.basin n with role := none }).noteSuspended s
      | none => s2.noteSuspended s

/-- ROLLING_UPDATE: a write of 1 to BSN_UPDATE.GO (R217). -/
def execRollingUpdate (f : FnId) (s : State) : Host.Outcome State Fault Refusal :=
  if !(isPf0 f && s.fnExists f) || s.bsn.updState = 1 then .next s
  else
    match keeperImage s with
    | none => .next (s.endUpdate false 1)
    | some i =>
      if !listedFw s 0 i.version i.digest then .next (s.endUpdate false 2)
      else if s.gateOp != .serving || basinNums.any (fun n => (s.basin n).st == .testing || (s.basin n).st == .resetting) then .next (s.endUpdate false 4)
      else .next ({ s with bsn := { s.bsn with updState := 1, updMask := runningMask s i, updResult := 0 } }).updatePass

/-- UPDATE_BASIN_DONE (steps 4 to 6 of R218): the end of the self-test under the new image; a failure retires the basin, which stops the update with
SELFTEST. -/
def execUpdateBasinDone (b : Nat) (pass : Bool) (s : State) : Host.Outcome State Fault Refusal :=
  if s.bsn.updState != 1 || s.bsn.updBasin != b || (s.basin b).testFor != 4 || (s.basin b).st != .testing then .next s
  else
    match keeperImage s with
    | none => .next s
    | some i =>
      if !(pass && listedFw s 0 i.version i.digest) then .next (s.retireBasin b none)
      else
        let s2 := s.setBasin b { s.basin b with fwVersion := i.version, fwDigest := i.digest }
        let s3 := { s2 with bsn := { s2.bsn with updMask := s2.bsn.updMask ||| BitVec.ofNat 8 (2 ^ b) } }
        let x := s3.basin b
        let s4 := match x.role with
          | none => s3.setBasin b { x with st := .spare, testFor := 0, drainFrom := none }
          | some r => if roleFilled s3 b r then s3.setBasin b { x with st := .spare, role := none, testFor := 0, drainFrom := none }
                      else s3.beginServing b (some r)
        .next s4.updatePass

end Sys2Proof.Machine
end

