-- ==== Sys2Proof/Machine/Random.lean ====
section
/-! DEFINITION. Spring's shared operations (20): seeds, and fresh requests (R466 to R473). -/

namespace Sys2Proof.Machine

/-- A seed's sources are neither excluded nor restarting (R472). -/
def seedFresh (s : State) (x : Seed) : Bool :=
  (!x.fromA || s.spg.srcA.st ≤ 1) && (!x.fromB || s.spg.srcB.st ≤ 1)

/-- SPG_PERS as additional input, when non-zero (R466). -/
def additional (s : State) : Bytes := if s.spg.pers = 0 then [] else natLe 32 s.spg.pers.toNat

/-- A DRBG after a reseed with a seed (R466, R467). -/
def reseeded (s : State) (d : Drbg) (x : Seed) : Drbg :=
  { d with state := Config.drbgReseed d.state x.bytes (additional s), reseeds := sat32 (d.reseeds + 1), calls := 0, lastReseed := s.now }

/-- A fresh request (R472): a reseed with a passing source's seed, then direct generation; none where it must be held. -/
def State.drawFresh (s : State) (n len : Nat) : Option (Bytes × State) :=
  let d := s.drbg n
  if !d.inst || s.spg.fatal then none
  else
    match s.spg.buffer.find? (seedFresh s) with
    | none => none
    | some x =>
      let g := genBytes (len / 65536 + 1) (reseeded s d x) len
      let s1 := s.setDrbg n g.2
      some (g.1, { s1 with spg := { s1.spg with buffer := s.spg.buffer.erase x } })

/-- The basin of a command. -/
def Cmd.on (c : Cmd) : Nat := c.basin.getD 0

/-- Draw for a command that waits while its basin's DRBG reseeds or is held: its bytes, or ENTROPY/FAILED while the fatal alarm
holds (R329, R366, R473). -/
inductive Drawn where
  | got (bytes : Bytes) (s : State)
  | failed
  | wait

/-- A pool draw or a fresh request of a command. -/
def State.drawFor (s : State) (n len : Nat) (fresh : Bool) : Drawn :=
  if len = 0 then .got [] s
  else if fresh && s.spg.fatal then .failed
  else
    match (if fresh then s.drawFresh n len else s.draw n len) with
    | some r => .got r.1 r.2
    | none => if s.spg.fatal then .failed else .wait

/-- Execute an entry's command that draws `len` random bytes: it waits for them, or completes ENTROPY/FAILED. -/
def State.runRandom (s : State) (e : Nat) (ops : Nat → Bool) (len : Cmd → Nat) (fresh : Cmd → Bool) (f : State → Cmd → Bytes → Answer × State) : State :=
  match s.ready e ops with
  | none => s
  | some c =>
    match s.drawFor c.on (len c) (fresh c) with
    | .got bs t =>
      let r := f t c bs
      r.2.finish e r.1
    | .failed => s.endLate e 0x0502
    | .wait => s

end Sys2Proof.Machine
end

