-- ==== Sys2Proof/Machine/Payment.lean ====
section
/-! DEFINITION. The card-payment commands (14): PIN translation and verification, MACs, ARQC and CVV. -/

namespace Sys2Proof.Machine

/-! ## Ciphers and MACs -/

/-- Encryption of one block under a record's or derived key (R220). -/
def encBlock (alg : Nat) (key blk : Bytes) : Bytes := if isTdes alg then Config.tdesEnc key blk else Config.aesEnc key blk

/-- Decryption of one block. -/
def decBlock (alg : Nat) (key blk : Bytes) : Bytes := if isTdes alg then Config.tdesDec key blk else Config.aesDec key blk

/-- Cut a byte string into blocks. -/
def chunks (n : Nat) : Nat → Bytes → List Bytes
  | 0, _ => []
  | k + 1, bs => if bs.isEmpty then [] else bs.take n :: chunks n k (bs.drop n)

/-- Padding methods 1 and 2 of ISO/IEC 9797-1; an empty message becomes one block (R337). -/
def pad9797 (method b : Nat) (msg : Bytes) : Bytes :=
  let m := if method = 2 then msg ++ [0x80] else msg
  padTo (b * max 1 (ceilDiv m.length b)) m

/-- MAC algorithm 1: CBC-MAC with a zero initial value. -/
def macAlg1 (alg : Nat) (key : Bytes) (padded : Bytes) : Bytes :=
  let b := blockLen alg
  (chunks b padded.length padded).foldl (fun y x => encBlock alg key (xorBytes y x)) (List.replicate b 0)

/-- MAC algorithm 3 (Retail MAC) under a two-key TDES key. -/
def macAlg3 (key : Bytes) (padded : Bytes) : Bytes :=
  let ka := key.take 8
  let kb := slice key 8 8
  let y := (chunks 8 padded.length padded).foldl (fun y x => Config.desEnc ka (xorBytes y x)) (List.replicate 8 0)
  Config.desEnc ka (Config.desDec kb y)

/-- CMAC (SP 800-38B). -/
def cmacOf (alg : Nat) (key msg : Bytes) : Bytes := if isTdes alg then tdesCmac key msg else aesCmac key msg

/-! ## DUKPT (R330) -/

/-- The usage of a derived working key: 0 PIN, 1 MAC request or generation, 2 MAC response or verification. -/
def dukptKey (r : Record) (aes : Bool) (ksn : Bytes) (usage wk : Nat) : Bytes :=
  if aes then Config.dukptAes r.key ksn usage (symLen wk) else Config.dukptTdes r.key (ksn.take 10) usage

/-- The key and ALG that decipher an input PIN block. -/
def pinInKey (d : Bytes) (r : Record) : Nat × Bytes :=
  if bitAt (param d 2 1) 0 then
    let aes := bitAt (param d 2 1) 1
    (if aes then param d 3 1 else 4, dukptKey r aes (paramBytes d 8 12) 0 (param d 3 1))
  else (r.alg, r.key)

/-! ## PIN blocks (R327, R328) -/

/-- Twelve rightmost PAN digits excluding the check digit, after four zero nibbles. -/
def pan12 (pan : Bytes) : Bytes :=
  let ds := (panDigits pan).dropLast
  packNibbles (List.replicate (16 - min 12 ds.length) 0 ++ ds.drop (ds.length - 12))

/-- The format-4 PAN field. -/
def pan4 (pan : Bytes) : Bytes :=
  let ds := panDigits pan
  padTo 16 (packNibbles ([(ds.length - 12)] ++ ds ++ List.replicate (31 - ds.length) 0))

/-- The clear PIN field of an input block. -/
def pinField (fmt alg : Nat) (key pan blk : Bytes) : Bytes :=
  if fmt = 4 then Config.aesDec key (xorBytes (Config.aesDec key blk) (pan4 pan))
  else
    let x := decBlock alg key (blk.take 8)
    if fmt = 1 then x else xorBytes x (pan12 pan)

/-- The PIN of a field that passes R328. -/
def pinOf (fmt : Nat) (fld : Bytes) : Option (List Nat) :=
  let ns := nibbles fld
  let len := ns.getD 1 0
  let pin := (ns.drop 2).take len
  let fill := (ns.drop (2 + len)).take (14 - len)
  let fillOk := if fmt = 0 then fill.all (· == 15) else if fmt = 3 then fill.all (fun x => decide (10 ≤ x))
                else if fmt = 4 then fill.all (· == 10) else true
  if ns.getD 0 0 == fmt && decide (4 ≤ len) && decide (len ≤ 12) && pin.all (fun x => decide (x ≤ 9)) && fillOk then some pin else none

/-- Random bytes an output format draws (R329). -/
def fillBytes (fmt : Nat) : Nat := if fmt = 0 then 0 else 8

/-- The output PIN field with its fill (R327); format 3 draws each nibble from 0xA to 0xF, by the remainder of a random nibble. -/
def buildField (fmt : Nat) (pin : List Nat) (rnd : Bytes) : Bytes :=
  let n := 14 - pin.length
  let rn := nibbles rnd
  let fill := if fmt = 0 then List.replicate n 15 else if fmt = 1 then rn.take n else if fmt = 3 then (rn.take n).map (fun x => 10 + x % 6)
              else List.replicate n 10
  packNibbles ([fmt, pin.length] ++ pin ++ fill) ++ (if fmt = 4 then rnd else [])

/-- Bind and encipher an output PIN field. -/
def sealField (fmt alg : Nat) (key pan fld : Bytes) : Bytes :=
  if fmt = 4 then Config.aesEnc key (xorBytes (Config.aesEnc key fld) (pan4 pan))
  else encBlock alg key (if fmt = 1 then fld else xorBytes fld (pan12 pan))

/-- The record a command uses for a handle: the copy its basin holds (R222), else the one its final ALLOW keeps (R191, R192), for a command without a
basin Cistern's own; an empty one where none exists, since a command whose verdict will deny it still computes (R175). -/
def recOf (s : State) (c : Cmd) (h : BitVec 64) : Record :=
  match c.basin with
  | some b =>
    match (s.basin b).copyOf h, c.kept.find? (fun k => k.1 == h) with
    | some r, _ => r
    | none, some k => k.2
    | none, none => (s.record h).getD {}
  | none => (s.record h).getD {}

/-- The PIN of a command's input block, where the block passes R328. -/
def inputPin (s : State) (c : Cmd) : Option (List Nat) :=
  let d := c.desc
  let k := pinInKey d (recOf s c (key1Of d))
  pinOf (param d 0 1) (pinField (param d 0 1) k.1 k.2 (paramBytes d 0x14 11) (paramBytes d 0x28 16))

/-- Random bytes PIN.TRANSLATE draws: fill for the output format of a block that passes (R329, R334). -/
def translateDraws (s : State) (c : Cmd) : Nat := if (inputPin s c).isSome then fillBytes (param c.desc 1 1) else 0

/-- What PIN.TRANSLATE answers (R334). -/
def pinTranslate (s : State) (c : Cmd) (rnd : Bytes) : Answer × State :=
  let d := c.desc
  let o := param d 1 1
  let pan := paramBytes d 0x14 11
  match inputPin s c with
  | none => ({ status := 1, result := natLe 1 2 }, s)
  | some pin =>
    let r := recOf s c (key2Of d)
    ({ status := 0, result := natLe 1 0, output := sealField o r.alg r.key pan (buildField o pin rnd) }, s)

/-- PIN_TRANSLATE (R327 to R330, R334). -/
def execPinTranslate (e : Nat) (s : State) : Host.Outcome State Fault Refusal :=
  .next (s.runRandom e (· == 0x0101) (translateDraws s) (fun _ => false) pinTranslate)

/-- Decimalisation: n mod 10 (R335). -/
def decimalise (bs : Bytes) : List Nat := (nibbles bs).map (· % 10)

/-- The PVV scan: nibbles 0 to 9 first, then 0xA to 0xF minus 10 (R335, R342). -/
def scanDigits (bs : Bytes) : List Nat :=
  (nibbles bs).filter (fun x => decide (x ≤ 9)) ++ ((nibbles bs).filter (fun x => decide (10 ≤ x))).map (· - 10)

/-- The PIN matches REFERENCE by METHOD (R335). -/
def pinMatches (d : Bytes) (r : Record) (pin : List Nat) : Bool :=
  let ref := nibbles (paramBytes d 0x20 8)
  if param d 1 1 = 0 then
    let n := param d 4 1
    let v := paramBytes d 0x38 8
    let nat := (decimalise (encBlock r.alg r.key (if isTdes r.alg then v else v ++ List.replicate 8 0))).take n
    decide (n ≤ pin.length) && List.zipWith (fun a b => (a + b) % 10) nat (ref.take n) == pin.take n
  else
    let ds := (panDigits (paramBytes d 0x14 11)).dropLast
    let blk := packNibbles (ds.drop (ds.length - 11) ++ [param d 5 1] ++ pin.take 4)
    (scanDigits (encBlock r.alg r.key blk)).take 4 == ref.take 4

/-- What PIN.VERIFY answers (R335). -/
def pinVerify (s : State) (c : Cmd) : Answer × State :=
  let d := c.desc
  match inputPin s c with
  | none => ({ status := 1, result := natLe 1 2 }, s)
  | some pin =>
    if pinMatches d (recOf s c (key2Of d)) pin then ({ status := 0, result := natLe 1 0 }, s) else ({ status := 1, result := natLe 1 1 }, s)

/-- PIN_VERIFY (R327, R328, R330, R335). -/
def execPinVerify (e : Nat) (s : State) : Host.Outcome State Fault Refusal := .next (s.run e (· == 0x0102) (pinVerify s))

/-! ## MACs (R336, R337) -/

/-- The key and ALG of a MAC command. -/
def macKey (d : Bytes) (r : Record) : Nat × Bytes :=
  if bitAt (param d 3 1) 0 then
    let aes := bitAt (param d 3 1) 1
    (if aes then param d 4 1 else 4, dukptKey r aes (paramBytes d 8 12) (if bitAt (param d 3 1) 2 then 2 else 1) (param d 4 1))
  else (r.alg, r.key)

/-- The MAC of a message: its leftmost MAC_LEN bytes. -/
def macOf (d : Bytes) (r : Record) (msg : Bytes) : Bytes :=
  let k := macKey d r
  let a := param d 0 1
  let m := if a = 0 then cmacOf k.1 k.2 msg
           else if a = 1 then macAlg1 k.1 k.2 (pad9797 (param d 1 1) (blockLen k.1) msg)
           else macAlg3 k.2 (pad9797 (param d 1 1) 8 msg)
  m.take (param d 2 1)

/-- What MAC.GENERATE answers. -/
def macGenerate (s : State) (c : Cmd) : Answer × State :=
  let m := macOf c.desc (recOf s c (key1Of c.desc)) c.input
  if 12 < param c.desc 2 1 then ({ output := m }, s) else ({ result := m }, s)

/-- MAC_GENERATE (R336, R337). -/
def execMacGenerate (e : Nat) (s : State) : Host.Outcome State Fault Refusal := .next (s.run e (· == 0x0110) (macGenerate s))

/-- What MAC.VERIFY answers. -/
def macVerify (s : State) (c : Cmd) : Answer × State :=
  let m := macOf c.desc (recOf s c (key1Of c.desc)) c.input
  ({ status := bitNat (m != paramBytes c.desc 0x30 (param c.desc 2 1)) }, s)

/-- MAC_VERIFY (R336, R337). -/
def execMacVerify (e : Nat) (s : State) : Host.Outcome State Fault Refusal := .next (s.run e (· == 0x0111) (macVerify s))

/-! ## ARQC (R338 to R340) -/

/-- Odd parity of each key byte, in its lowest bit. -/
def oddParity (bs : Bytes) : Bytes :=
  bs.map (fun b => if popcount (b.toNat / 2) % 2 = 0 then b ||| 1 else b &&& 0xFE)

/-- Y of R339. -/
def arqcY (d : Bytes) : Bytes :=
  let ds := panDigits (paramBytes d 0x14 11) ++ nibbles (paramBytes d 4 1)
  let l := ds.drop (ds.length - 16)
  packNibbles (List.replicate (16 - l.length) 0 ++ l)

/-- The session key of R339. -/
def arqcSession (d : Bytes) (r : Record) : Bytes :=
  let y := arqcY d
  let ny := xorBytes y (List.replicate 8 0xFF)
  let atc := paramBytes d 2 2
  if isTdes r.alg then
    let mk := oddParity (Config.tdesEnc r.key y ++ Config.tdesEnc r.key ny)
    Config.tdesEnc mk (atc ++ [0xF0] ++ List.replicate 5 0) ++ Config.tdesEnc mk (atc ++ [0x0F] ++ List.replicate 5 0)
  else
    let z := List.replicate 8 (0 : Byte)
    let n := symLen r.alg
    let mk := (Config.aesEnc r.key (y ++ z) ++ Config.aesEnc r.key (ny ++ z)).take n
    (Config.aesEnc mk (atc ++ [0xF0] ++ List.replicate 13 0) ++ Config.aesEnc mk (atc ++ [0x0F] ++ List.replicate 13 0)).take n

/-- The ARPC of R339, for a matching ARQC. -/
def arpcOf (d : Bytes) (r : Record) (sk : Bytes) : Bytes :=
  let arqc := paramBytes d 8 8
  if param d 0 1 = 1 then Config.tdesEnc sk (xorBytes arqc (paramBytes d 0x10 2 ++ List.replicate 6 0))
  else if param d 0 1 = 2 then
    let m := arqc ++ paramBytes d 0x20 4 ++ paramBytes d 0x28 (param d 0x24 1)
    (if isTdes r.alg then macAlg3 sk (pad9797 2 8 m) else aesCmac sk m).take 4
  else []

/-- What ARQC.VERIFY answers. -/
def arqcVerify (s : State) (c : Cmd) : Answer × State :=
  let d := c.desc
  let r := recOf s c (key1Of d)
  let sk := arqcSession d r
  let m := (if isTdes r.alg then macAlg3 sk (pad9797 (param d 1 1) 8 c.input) else aesCmac sk c.input).take 8
  if m == paramBytes d 8 8 then ({ result := padTo 8 (arpcOf d r sk) }, s) else ({ status := 1 }, s)

/-- ARQC_VERIFY (R338 to R340). -/
def execArqcVerify (e : Nat) (s : State) : Host.Outcome State Fault Refusal := .next (s.run e (· == 0x0120) (arqcVerify s))

/-! ## CVV (R341, R342) -/

/-- The code digits. -/
def cvvDigits (d : Bytes) (r : Record) : List Nat :=
  let ds := panDigits (paramBytes d 0x14 11) ++ nibbles (paramBytes d 4 2) ++ (nibbles (paramBytes d 6 2)).take 3
  let b := packNibbles ((ds ++ List.replicate 32 0).take 32)
  (scanDigits (Config.tdesEnc r.key (xorBytes (Config.desEnc (r.key.take 8) (b.take 8)) (b.drop 8)))).take (param d 0 1)

/-- Digits as a three-byte digit string. -/
def codeString (ds : List Nat) : Bytes := packNibbles ((ds ++ List.replicate 6 15).take 6)

/-- What CVV.COMPUTE answers. -/
def cvvCompute (s : State) (c : Cmd) : Answer × State :=
  ({ result := codeString (cvvDigits c.desc (recOf s c (key1Of c.desc))) }, s)

/-- CVV_COMPUTE (R341, R342). -/
def execCvvCompute (e : Nat) (s : State) : Host.Outcome State Fault Refusal := .next (s.run e (· == 0x0130) (cvvCompute s))

/-- What CVV.VERIFY answers. -/
def cvvVerify (s : State) (c : Cmd) : Answer × State :=
  ({ status := bitNat (codeString (cvvDigits c.desc (recOf s c (key1Of c.desc))) != paramBytes c.desc 0x20 3) }, s)

/-- CVV_VERIFY (R341, R342). -/
def execCvvVerify (e : Nat) (s : State) : Host.Outcome State Fault Refusal := .next (s.run e (· == 0x0131) (cvvVerify s))

end Sys2Proof.Machine
end

