-- ==== Sys2Proof/Machine/Bulk.lean ====
section
/-! DEFINITION. Bulk protection, tokens, digests and random numbers (15). -/

namespace Sys2Proof.Machine

/-! ## AEAD (R227 to R230, R353 to R356) -/

/-- The XTS result of a payload: data unit i takes the tweak TWEAK + i (R230, R354). -/
def xtsAll (s : State) (c : Cmd) (payload : Bytes) (enc : Bool) : Bytes :=
  let d := c.desc
  ((blocksOf (max 16 (param d 4 4)) payload).zipIdx.map (fun p =>
    xtsUnit (recOf s c (key1Of d)).key (recOf s c (key2Of d)).key (natLe 16 ((param d 0x20 16 + p.2) % 2 ^ 128)) p.1 enc)).flatten

/-- What AEAD.SEAL answers: ciphertext, tag at TAG_ADDR, the drawn nonce in RESULT (R240, R355). -/
def aeadSeal (s : State) (c : Cmd) : Answer × State :=
  let d := c.desc
  let aad := c.input.take (param d 2 2)
  let pt := c.input.drop (param d 2 2)
  let tl := param d 1 1
  if param d 0 1 = 2 then ({ output := xtsAll s c pt true }, s)
  else
    let k := (recOf s c (key1Of d)).key
    let n := c.nonce.getD []
    let r := if param d 0 1 = 0 then gcmSeal k n aad pt else ccmSeal k n aad pt tl
    ({ result := n, output := padTo pt.length r.1, extra := [(param d 8 8, padTo tl r.2)] }, s)

/-- AEAD_SEAL (R355). -/
def execAeadSeal (e : Nat) (s : State) : Host.Outcome State Fault Refusal := .next (s.run e (· == 0x0201) (aeadSeal s))

/-- What AEAD.OPEN answers: the plaintext only when the tag is equal (R356). -/
def aeadOpen (s : State) (c : Cmd) : Answer × State :=
  let d := c.desc
  let aad := c.input.take (param d 2 2)
  let ct := c.input.drop (param d 2 2)
  if param d 0 1 = 2 then ({ output := xtsAll s c ct false }, s)
  else
    let k := (recOf s c (key1Of d)).key
    let n := paramBytes d 0x10 12
    let tag := paramBytes d 0x30 (param d 1 1)
    match (if param d 0 1 = 0 then gcmOpen k n aad ct tag else ccmOpen k n aad ct tag) with
    | some pt => ({ output := padTo ct.length pt }, s)
    | none => ({ status := 1 }, s)

/-- AEAD_OPEN (R356). -/
def execAeadOpen (e : Nat) (s : State) : Host.Outcome State Fault Refusal := .next (s.run e (· == 0x0202) (aeadOpen s))

/-! ## Tokens (R358 to R361) -/

/-- Numerals of WIDTH bytes. -/
def numerals (w : Nat) : Nat → Bytes → List Nat
  | 0, _ => []
  | n + 1, bs => leNat (bs.take w) :: numerals w n (bs.drop w)

/-- The records of a token command: tweak and numerals. -/
def tokenRecords (tl n w : Nat) : Nat → Bytes → List (Bytes × List Nat)
  | 0, _ => []
  | k + 1, bs => (bs.take tl, numerals w n (bs.drop tl)) :: tokenRecords tl n w k (bs.drop (tl + n * w))

/-- What a token command answers: every numeral is checked first (R360). -/
def tokenRun (s : State) (enc : Bool) (c : Cmd) : Answer × State :=
  let d := c.desc
  let radix := param d 0 4
  let w := param d 6 1
  let rs := tokenRecords (param d 7 1) (param d 4 2) w (param d 8 2) c.input
  match rs.findIdx? (fun r => r.2.any (fun x => decide (radix ≤ x))) with
  | some i => ({ status := 1, result := natLe 2 i }, s)
  | none =>
    let k := (recOf s c (key1Of d)).key
    let out := (rs.map (fun r => ((Config.ff1 k r.1 radix r.2 enc).map (natLe w)).flatten)).flatten
    ({ output := padTo (outLenOf d) out }, s)

/-- TOKEN_ENCODE (R231, R360). -/
def execTokenEncode (e : Nat) (s : State) : Host.Outcome State Fault Refusal := .next (s.run e (· == 0x0210) (tokenRun s true))

/-- TOKEN_DECODE (R231, R360). -/
def execTokenDecode (e : Nat) (s : State) : Host.Outcome State Fault Refusal := .next (s.run e (· == 0x0211) (tokenRun s false))

/-! ## Output while a command runs (R19, R352) -/

/-- The output of a command that streams, as its running attempt makes it: a seal with its nonce, an XTS open, a token command whose
numerals pass; none for a command that yields no output before its end. -/
def streamOf (s : State) (c : Cmd) : Option Bytes :=
  let op := opcodeOf c.desc
  let xts := param c.desc 0 1 == 2
  if op = 0x0201 then (if xts || c.nonce.isSome then some (aeadSeal s c).1.output else none)
  else if op = 0x0202 then (if xts then some (aeadOpen s c).1.output else none)
  else if op = 0x0210 || op = 0x0211 then
    let a := (tokenRun s (op == 0x0210) c).1
    if a.status = 0 then some a.output else none
  else none

/-- A running attempt has what its jets need, and its jet phase has begun. -/
def streaming (s : State) (c : Cmd) : Bool :=
  c.phase == .running && c.status.isNone && c.listsDone && c.inputDone && !c.waitsFill && !c.waitsWork && !c.wantsBlock && keysHeld s c
    && (c.onJets || decide (c.segs < c.segsAll))

/-- The output whose stripes may be written: of an executed command all of it, of a running one that streams the stripes that lie in the
segments dispatched (R18, R165, R352). -/
def writable (s : State) (c : Cmd) (stripe : Nat) : Option Bytes :=
  if c.phase == .done then (if c.status == some 0 then some c.output else none)
  else if streaming s c && (c.segs == 0 || decide (outStripe c.desc * (stripe + 1) ≤ 262144 * (c.segsAll - c.segs))) then streamOf s c
  else none

/-- Output bytes of a command that its stripes have not written. -/
def unwritten (c : Cmd) (len : Nat) : Nat :=
  ((((List.range (ceilDiv len (outStripe c.desc))).filter (fun i => !c.written.contains i))).map (fun i => min (outStripe c.desc) (len - outStripe c.desc * i))).sum

/-- The window a command still needs once output staged in it has been issued (R351, log entry 157): room for its input still to be processed and
its output still to be written. -/
def windowLeft (c : Cmd) (len : Nat) : Nat :=
  min c.window (ceilDiv ((if c.phase == .done then 0 else restBytes c) + unwritten c len) 4096 * 4096)

/-- Once the last stripe of held plaintext has been written, the jets of its release are free (R357). -/
def State.endRelease (s : State) (e : Nat) (c : Cmd) (len : Nat) : State :=
  match c.basin with
  | some b => if c.phase == .done && unwritten c len = 0 then s.setBasin b (freeLanesOf (s.basin b) e (cmdBlocks s c)) else s
  | none => s

/-- STRIPE_COMPLETE (R18, R19, R200, R352): a stripe of an allowed command's checked output, of 256 bytes or more in all, is written; with its queue detached and its stream window full it waits (R114).
The reply carries the basin's generation. -/
def execStripeComplete (a : Attempt) (gen stripe : Nat) (s : State) : Host.Outcome State Fault Refusal :=
  let e := a.entry
  match s.live e a.inst with
  | none => .next s
  | some c =>
    if !(c.verdict == .allow && !c.recheck && !c.written.contains stripe && s.fromBasin c gen) then .next s
    else
      match writable s c stripe with
      | none => .next s
      | some out =>
        if decide (256 ≤ out.length) && decide (outStripe c.desc * stripe < out.length) then
          let ws := stripeWrites { c with output := out } stripe
          if s.windowFull c ws then .next s
          else
            let c1 := { c with written := stripe :: c.written }
            .next ((((s.setCmd e { c1 with window := if s.holds c.fn c.q then c.window else windowLeft c1 out.length }).stage e c1 ws).deliverAll c ws).endRelease e c1 out.length)
        else .next s

/-! ## DIGEST and HMAC (R362, R363) -/

/-- What DIGEST answers. -/
def digestRun (s : State) (c : Cmd) : Answer × State :=
  ({ output := padTo (outLenOf c.desc) (Config.hash (param c.desc 0 1) (outLenOf c.desc) c.input) }, s)

/-- DIGEST (R362). -/
def execDigest (e : Nat) (s : State) : Host.Outcome State Fault Refusal := .next (s.run e (· == 0x0220) (digestRun s))

/-- What HMAC answers. -/
def hmacRun (s : State) (c : Cmd) : Answer × State :=
  ({ output := (Config.hmac (param c.desc 0 1) (recOf s c (key1Of c.desc)).key c.input).take (param c.desc 1 1) }, s)

/-- HMAC (R363). -/
def execHmac (e : Nat) (s : State) : Host.Outcome State Fault Refusal := .next (s.run e (· == 0x0221) (hmacRun s))

/-! ## RANDOM (R364 to R366) -/

/-- RANDOM (R364, R366): the pool, or with FRESH a reseeded DRBG. -/
def execRandom (e : Nat) (s : State) : Host.Outcome State Fault Refusal :=
  .next (s.runRandom e (· == 0x0230) (fun c => outLenOf c.desc) (fun c => bitAt (param c.desc 0 1) 0)
    (fun t _ bs => ({ output := bs }, t)))

/-- The command makes a fresh request (R472): RANDOM with FRESH, or the generation of a persistent key. -/
def wantsFresh (d : Bytes) : Bool :=
  (opcodeOf d == 0x0230 && bitAt (param d 0 1) 0) || ((opcodeOf d == 0x0403 || opcodeOf d == 0x0330) && !attrSession d)

/-- A command held for Spring: a RANDOM whose DRBG is not seeded, or a fresh request without a seed it may take (R365, R472). -/
def heldForSeed (s : State) (c : Cmd) : Bool :=
  (opcodeOf c.desc == 0x0230 && c.phase == .backlog && drbgUnseeded s c.basin)
    || (wantsFresh c.desc && c.phase == .running && c.status.isNone && !(s.spg.buffer.any (seedFresh s)))

/-- RANDOM_NOT_SEEDED_DEADLINE (R365, R366, R472): a held command's deadline instant passes. -/
def execRandomNotSeededDeadline (e : Nat) (s : State) : Host.Outcome State Fault Refusal :=
  match s.cmd e with
  | none => .next s
  | some c =>
    if heldForSeed s c && c.deadlineAt != 0 && decide (c.deadlineAt ≤ s.now) then .next (s.endLate e 0x0501) else .next s

end Sys2Proof.Machine
end

