-- ==== Sys2Proof/Machine/PublicCheck.lean ====
section
/-! DEFINITION. The checks of public keys and signatures that R372, R373, R380 and R382 state over their encodings: curve points, moduli, and the
ranges of a signature's numbers. The constants are those of the standards that R372 names (log entry 161). -/

namespace Sys2Proof.Machine

/-! ## Curves -/

/-- a^e mod m over the low k bits of e. -/
def powMod (a m : Nat) : Nat → Nat → Nat
  | 0, _ => 1 % m
  | k + 1, e =>
    let h := powMod a m k (e / 2)
    if e % 2 = 1 then h * h % m * a % m else h * h % m

/-- The field of an elliptic curve's ALG. -/
def curveP (alg : Nat) : Nat :=
  if alg = 0x20 then 2 ^ 256 - 2 ^ 224 + 2 ^ 192 + 2 ^ 96 - 1 else 2 ^ 384 - 2 ^ 128 - 2 ^ 96 + 2 ^ 32 - 1

/-- The coefficient b of the curve y² = x³ − 3x + b. -/
def curveB (alg : Nat) : Nat :=
  if alg = 0x20 then 0x5ac635d8aa3a93e7b3ebbd55769886bc651d06b0cc53b0f63bce3c3e27d2604b
  else 0xb3312fa7e23ee7e4988e056be3f82d19181d9c6efe8141120314088f5013875ac656398d8a2ed19d2a85c8edd3ec2aef

/-- The order n of the curve's group. -/
def curveN (alg : Nat) : Nat :=
  if alg = 0x20 then 0xffffffff00000000ffffffffffffffffbce6faada7179e84f3b9cac2fc632551
  else 0xffffffffffffffffffffffffffffffffffffffffffffffffc7634d81f4372ddf581a0db248b0a77aecec196accc52973

/-- Bytes of the curve's field. -/
def curveLen (alg : Nat) : Nat := if alg = 0x20 then 32 else 48

/-- An uncompressed encoding is a point of the curve with coordinates below p; none encodes the identity (R373). -/
def ecPointOk (alg : Nat) (bs : Bytes) : Bool :=
  let p := curveP alg
  let x := beNat (slice bs 1 (curveLen alg))
  let y := beNat (slice bs (1 + curveLen alg) (curveLen alg))
  bs.length == 1 + 2 * curveLen alg && bs.getD 0 0 == 0x04 && decide (x < p) && decide (y < p)
    && y * y % p == (x * x * x + (p - 3) * x + curveB alg) % p

/-- The field of Ed25519, its coefficient d and its order L. -/
def edP : Nat := 2 ^ 255 - 19
def edD : Nat := (edP - 121665) * powMod 121666 edP 255 (edP - 2) % edP
def edL : Nat := 2 ^ 252 + 27742317777372353535851937790883648493

/-- x² of the point with a y coordinate. -/
def edX2 (y : Nat) : Nat := (y * y + edP - 1) * powMod ((edD * y % edP * y + 1) % edP) edP 255 (edP - 2) % edP

/-- The y coordinate of the doubled point. -/
def edDouble (y : Nat) : Nat :=
  let z := edX2 y
  (y * y + z) * powMod ((1 + (edP - edD * z % edP) * (y * y % edP)) % edP) edP 255 (edP - 2) % edP

/-- The y coordinate of a 32-byte encoding. -/
def edY (bs : Bytes) : Nat := leNat bs % 2 ^ 255

/-- A point encoding is canonical (R373, R380). -/
def edCanonical (bs : Bytes) : Bool := decide (edY bs < edP)

/-- An Ed25519 public key: canonical, decodes, not of small order (R373). -/
def edPointOk (bs : Bytes) : Bool :=
  let y := edY bs
  let z := edX2 y
  bs.length == 32 && edCanonical bs && (z == 0 || powMod z edP 255 ((edP - 1) / 2) == 1) && !(z == 0 && bitAt (leNat bs) 255)
    && edDouble (edDouble (edDouble y)) != 1

/-! ## RSA and the lattices -/

/-- An RSA public key of a length: n odd with its top bit set, e odd and from 65,537 (R372, R373). -/
def rsaKeyOk (len : Nat) (bs : Bytes) : Bool :=
  let n := beNat (bs.take len)
  let e := beNat (slice bs len 4)
  bs.length == len + 4 && n % 2 == 1 && decide (2 ^ (8 * len - 1) ≤ n) && e % 2 == 1 && decide (65537 ≤ e)

/-- The modulus check of FIPS 203 on an encapsulation key: its 768 coefficients lie below 3,329 (R373). -/
def kemKeyOk (bs : Bytes) : Bool := bs.length == 1184 && (List.range 768).all (fun i => decide (leNat (bs.take 1152) / 2 ^ (12 * i) % 4096 < 3329))

/-! ## Encodings (R372, R373) -/

/-- The encoding of a public key passes the checks of its ALG. -/
def publicOk (alg : Nat) (bs : Bytes) : Bool :=
  if isEc alg then ecPointOk alg bs
  else if alg = 0x22 then edPointOk bs
  else if isRsa alg then rsaKeyOk (rsaLen alg) bs
  else if alg = 0x30 then bs.length == 1952
  else if alg = 0x31 then kemKeyOk bs
  else if alg = 0x38 then bs.length == 1984 && edPointOk (bs.take 32)
  else false

/-- The components of an ML-DSA-65 public key, numbered from a base: ρ, tr, t1. -/
def mldsaPublic (base : Nat) (pk : Bytes) : List (Nat × Bytes) := [(base + 4, pk.take 32), (base + 5, padTo 64 (Config.hash 0x1D 64 pk)), (base + 6, pk.drop 32)]

/-- The public components of an encoding (R275, R372). -/
def publicSplit (alg : Nat) (bs : Bytes) : List (Nat × Bytes) :=
  if isEc alg then [(1, slice bs 1 (curveLen alg)), (2, slice bs (1 + curveLen alg) (curveLen alg))]
  else if alg = 0x22 then [(2, bs)]
  else if isRsa alg then [(5, bs.take (rsaLen alg)), (6, bs.drop (rsaLen alg))]
  else if alg = 0x30 then mldsaPublic 0 bs
  else if alg = 0x31 then [(2, bs), (3, padTo 32 (Config.hash 0x18 32 bs))]
  else (2, bs.take 32) :: mldsaPublic 8 (bs.drop 32)

/-- The components of a public key's encoding, none where a check of R373 fails. -/
def publicImport (alg : Nat) (bs : Bytes) : Option (List (Nat × Bytes)) := if publicOk alg bs then some (publicSplit alg bs) else none

/-- The private material of an RSA key holds a modulus with its top bit set (R372). -/
def modulusOk (alg : Nat) (comps : List (Nat × Bytes)) : Bool :=
  !isRsa alg || (match comps.find? (fun c => c.1 == 5) with | some c => decide (2 ^ (8 * rsaLen alg - 1) ≤ beNat c.2) | none => false)

/-! ## Signatures (R380) -/

/-- The ranges that a signature's numbers keep: Ed25519's R and A canonical and S below L, ECDSA's r and s from 1 to n − 1, RSA's below n. -/
def signatureRange (alg : Nat) (comps : List (Nat × Bytes)) (sig : Bytes) : Bool :=
  let g (i : Nat) : Bytes := match comps.find? (fun c => c.1 == i) with | some c => c.2 | none => []
  if alg = 0x22 then edCanonical (sig.take 32) && edCanonical (g 2) && decide (leNat (slice sig 32 32) < edL)
  else if isEc alg then
    let r := beNat (sig.take (curveLen alg))
    let t := beNat (slice sig (curveLen alg) (curveLen alg))
    decide (1 ≤ r) && decide (r < curveN alg) && decide (1 ≤ t) && decide (t < curveN alg)
  else if isRsa alg then decide (beNat sig < beNat (g 5))
  else true

/-- A signature verifies: its numbers lie in their ranges and its scheme accepts it (R380). -/
def sigValid (alg : Nat) (comps : List (Nat × Bytes)) (mode : Nat) (ctx msg sig : Bytes) : Bool :=
  signatureRange alg comps sig && Config.verify alg comps mode ctx msg sig

end Sys2Proof.Machine
end

