-- ==== Sys2Proof/Machine/PublicKey.lean ====
section
/-! DEFINITION. Public-key commands and paired signatures (16): SIGN, VERIFY, PAIRED.VERIFY, ECDH, KEM, KEYPAIR.GENERATE and
ATTEST. Lengths of random draws that the standards leave to an implementation are the model's (log entry 25). -/

namespace Sys2Proof.Machine

/-! ## Paired keys (R374, R375) -/

/-- Cut material into the components of a table, in component order (R275). -/
def splitComps : List (Nat × Nat × Bool) → Bytes → List (Nat × Bytes)
  | [], _ => []
  | (i, n, _) :: r, bs => (i, padTo n (bs.take n)) :: splitComps r (bs.drop n)

/-- The components of a device's paired key from its material (R482). -/
def pairedComps (material : Bytes) : List (Nat × Bytes) := splitComps (compTable 0x38 0) material

/-- The ML-DSA-65 half of a paired key's components, renumbered. -/
def mlHalf (comps : List (Nat × Bytes)) : List (Nat × Bytes) :=
  (comps.filter (fun c => decide (8 ≤ c.1))).map (fun c => (c.1 - 8, c.2))

/-- The Ed25519 half. -/
def edHalf (comps : List (Nat × Bytes)) : List (Nat × Bytes) := comps.filter (fun c => decide (c.1 ≤ 2))

/-- A paired signature (R374, R375): pure Ed25519, then ML-DSA-65 with the purpose's context. -/
def pairedSign (comps : List (Nat × Bytes)) (ctx msg rnd : Bytes) : Bytes :=
  padTo 64 (Config.sign 0x22 (edHalf comps) 0 [] msg []) ++ padTo 3309 (Config.sign 0x30 (mlHalf comps) 0 ctx msg rnd)

/-- The Ed25519 half of a paired signature verifies. -/
def edValid (pub msg sig : Bytes) : Bool := sigValid 0x22 [(2, pub.take 32)] 0 [] msg (sig.take 64)

/-- The ML-DSA-65 half of a paired signature verifies. -/
def mlValid (pub ctx msg sig : Bytes) : Bool :=
  Config.verify 0x30 [(4, slice pub 32 32), (6, slice pub 64 1920)] 0 ctx msg (slice sig 64 3309)

/-- A paired signature is valid: both halves verify (R375). -/
def pairedValid (pub ctx msg sig : Bytes) : Bool := edValid pub msg sig && mlValid pub ctx msg sig

/-! ## SIGN, VERIFY and PAIRED.VERIFY (R377 to R380) -/

/-- Random bytes a SIGN draws: the ECDSA nonce, the PSS salt, the hedging value (R379). -/
def signDraw (s : State) (c : Cmd) : Nat :=
  let a := (recOf s c (key1Of c.desc)).alg
  if a = 0x20 then 32 else if a = 0x21 then 48
  else if isRsa a then (if param c.desc 0 1 = 1 then digestLen (param c.desc 1 1) else 0)
  else if a = 0x30 then (if param c.desc 0 1 = 0 then 32 else 0)
  else if a = 0x38 then 32 else 0

/-- The mode of a scheme: SCHEME and HASH; ECDSA signs a digest in both its schemes. -/
def schemeOf (alg : Nat) (d : Bytes) : Nat := if isEc alg then 1 else param d 0 1 + 256 * param d 1 1

/-- What a scheme signs: of ECDSA with SCHEME 0 the message's SHA-256 or SHA-384, else what is given (R378). -/
def signedMsg (alg : Nat) (d msg : Bytes) : Bytes :=
  if isEc alg && param d 0 1 == 0 then padTo (curveLen alg) (if alg = 0x20 then Config.sha256 msg else Config.sha384 msg) else msg

/-- What SIGN answers. -/
def signRun (s : State) (c : Cmd) (rnd : Bytes) : Answer × State :=
  let r := recOf s c (key1Of c.desc)
  let ctx := paramBytes c.desc 8 (param c.desc 2 1)
  let sig := if r.alg = 0x38 then pairedSign r.comps ctx c.input rnd else Config.sign r.alg r.comps (schemeOf r.alg c.desc) ctx (signedMsg r.alg c.desc c.input) rnd
  ({ output := padTo (outLenOf c.desc) sig }, s)

/-- SIGN (R378, R379). -/
def execSign (e : Nat) (s : State) : Host.Outcome State Fault Refusal :=
  .next (s.runRandom e (· == 0x0301) (signDraw s) (fun _ => false) signRun)

/-- What VERIFY answers. -/
def verifyRun (s : State) (c : Cmd) : Answer × State :=
  let r := recOf s c (key1Of c.desc)
  let n := param c.desc 4 4
  let ok := sigValid r.alg (publicComps r.alg r.comps) (schemeOf r.alg c.desc) (paramBytes c.desc 8 (param c.desc 2 1))
    (signedMsg r.alg c.desc (c.input.take n)) (c.input.drop n)
  ({ status := bitNat (!ok) }, s)

/-- VERIFY (R378, R380). -/
def execVerify (e : Nat) (s : State) : Host.Outcome State Fault Refusal := .next (s.run e (· == 0x0302) (verifyRun s))

/-- What PAIRED.VERIFY answers: both halves, always. -/
def pairedRun (s : State) (c : Cmd) : Answer × State :=
  let r := recOf s c (key1Of c.desc)
  let n := param c.desc 4 4
  let pub := publicEncoding 0x38 r.comps
  let v := bitNat (edValid pub (c.input.take n) (c.input.drop n))
    + 2 * bitNat (mlValid pub (paramBytes c.desc 8 (param c.desc 2 1)) (c.input.take n) (c.input.drop n))
  ({ status := bitNat (v != 3), result := natLe 1 v }, s)

/-- PAIRED_VERIFY (R375, R380). -/
def execPairedVerify (e : Nat) (s : State) : Host.Outcome State Fault Refusal := .next (s.run e (· == 0x0303) (pairedRun s))

/-! ## New records (R176, R260, R291, R381) -/

/-- The record a creating command makes at its reserved handle. -/
def newRecord (s : State) (c : Cmd) (usage : Nat) (publicOnly : Bool) (bdk : Nat) (comps : List (Nat × Bytes)) : Record :=
  let d := c.desc
  let alg := attrAlg d
  let mat := (comps.map (·.2)).flatten
  { alg := alg, cls := attrClass d, state := param d 3 1, session := attrSession d, part := (s.partOf c.fn).getD 0
    ext := extFor mat.length, handle := c.reserved.getD 0, usage := BitVec.ofNat 64 usage, nonceField := BitVec.ofNat 32 (param d 4 4)
    fn := c.fn, publicOnly := publicOnly, writeCount := 1, bdkId := BitVec.ofNat 32 bdk, label := paramBytes d 0x10 16
    kcv := kcvOf alg mat, comps := comps }

/-- The answer of a creating command: handle and KCV (R292), the record to be written at retirement. -/
def created (s : State) (r : Record) (output : Bytes) : Answer :=
  { result := natLe 8 r.handle.toNat ++ padTo 3 r.kcv, output := output, effect := .create (keySlot s r.handle), newRec := some r }

/-- The key length of a symmetric attribute ALG; an HMAC key of an agreement is 32 bytes (R381). -/
def agreedLen (alg : Nat) : Nat := if alg = 8 then 32 else symLen alg

/-- The one-step KDF of R381. -/
def oneStep (d z : Bytes) : Bytes :=
  (Config.sha384 (natBe 4 1 ++ z ++ natBe 1 (attrAlg d) ++ paramBytes d 0x28 (param d 0x20 1))).take (agreedLen (attrAlg d))

/-- The answer that creates the agreed key. -/
def agreed (s : State) (c : Cmd) (z output : Bytes) : Answer :=
  created s (newRecord s c (attrUsage c.desc) false 0 [(0, oneStep c.desc z)]) output

/-- What ECDH answers: an invalid peer point is DONE/FALSE (R382). -/
def ecdhRun (s : State) (c : Cmd) : Answer × State :=
  let r := recOf s c (key1Of c.desc)
  match (if ecPointOk r.alg c.input then Config.ecdh r.alg r.comps c.input else none) with
  | none => ({ status := 1 }, s)
  | some z => (agreed s c z [], s)

/-- ECDH (R381, R382). -/
def execEcdh (e : Nat) (s : State) : Host.Outcome State Fault Refusal := .next (s.run e (· == 0x0320) (ecdhRun s))

/-- What KEM.ENCAPS answers. -/
def encapsRun (s : State) (c : Cmd) (m : Bytes) : Answer × State :=
  let r := recOf s c (key1Of c.desc)
  let x := Config.mlkemEncaps (r.comp 2) m
  (agreed s c x.2 (padTo 1088 x.1), s)

/-- KEM_ENCAPS (R383). -/
def execKemEncaps (e : Nat) (s : State) : Host.Outcome State Fault Refusal :=
  .next (s.runRandom e (· == 0x0310) (fun _ => 32) (fun _ => false) encapsRun)

/-- What KEM.DECAPS answers: implicit rejection, always DONE/OK. -/
def decapsRun (s : State) (c : Cmd) : Answer × State :=
  (agreed s c (Config.mlkemDecaps (recOf s c (key1Of c.desc)).comps c.input) [], s)

/-- KEM_DECAPS (R383). -/
def execKemDecaps (e : Nat) (s : State) : Host.Outcome State Fault Refusal := .next (s.run e (· == 0x0311) (decapsRun s))

/-- Random bytes of a key pair: its seeds. -/
def pairDraw (alg : Nat) : Nat := if alg = 0x21 then 48 else if alg = 0x31 || alg = 0x38 then 64 else 32

/-- A key pair from randomness: the paired key from both halves. -/
def makePair (alg : Nat) (rnd : Bytes) : List (Nat × Bytes) :=
  if alg = 0x38 then Config.keypair 0x22 0 (rnd.take 32) ++ (Config.keypair 0x30 0 (rnd.drop 32)).map (fun c => (c.1 + 8, c.2))
  else Config.keypair alg 0 rnd

/-- What KEYPAIR.GENERATE answers: the KCV is zero (R384). -/
def keypairRun (s : State) (c : Cmd) (rnd : Bytes) : Answer × State :=
  let comps := splitComps (compTable (attrAlg c.desc) 0) ((makePair (attrAlg c.desc) rnd).map (·.2)).flatten
  let r := { newRecord s c (attrUsage c.desc) false 0 comps with kcv := [0, 0, 0] }
  (created s r (if outLenOf c.desc = 0 then [] else padTo (outLenOf c.desc) (publicEncoding (attrAlg c.desc) comps)), s)

/-- KEYPAIR_GENERATE (R384, R472). -/
def execKeypairGenerate (e : Nat) (s : State) : Host.Outcome State Fault Refusal :=
  .next (s.runRandom e (· == 0x0330) (fun c => pairDraw (attrAlg c.desc)) (fun c => !attrSession c.desc) keypairRun)

/-! ## ATTEST (R387, R388) -/

/-- The owner key digest fused at OWNED: the newest written slot (R478). -/
def State.ownerDigest (s : State) : Bytes := s.fnt.owners.getLastD (List.replicate 48 0)

/-- Faults of a basin that count toward R205 now. -/
def faults10s (s : State) (n : Nat) : Nat := ((s.basin n).faultTimes.filter (fun t => decide (s.now ≤ t + 10000000000))).length

/-- A basin fills another basin's role (BSN_STATE_n.SUBSTITUTE): it serves, is parked, or drains while no other has taken the role. -/
def State.substitutes (s : State) (n : Nat) : Bool :=
  let x := s.basin n
  match x.role with
  | some r => r != n && (x.serving || x.st == .parked || (x.st == .draining && !roleFilled s n r))
  | none => false

/-- The 128 bits of BSN_STATE_n (09). -/
def State.basinState (s : State) (n : Nat) : Nat :=
  let x := s.basin n
  x.st.code + x.role.getD n % 8 * 2 ^ 3 + bitNat (s.substitutes n) * 2 ^ 6 + bitNat x.diagOk * 2 ^ 7
    + min 3 (faults10s s n) * 2 ^ 8 + x.generation % 2 ^ 32 * 2 ^ 16 + x.fwVersion % 2 ^ 32 * 2 ^ 64 + x.faultsTotal % 2 ^ 32 * 2 ^ 96

/-- The basin running the oldest keeper version that serves (R218). -/
def oldestKeeper (s : State) : Option Basin :=
  ((basinNums.map s.basin).filter Basin.serving).foldl (fun b x => match b with | none => some x | some y => if x.fwVersion < y.fwVersion then some x else some y) none

/-- KEEPER_FW in CORE (R218): during an update the oldest version still serving, else the version in service. -/
def State.keeperFw (s : State) : Nat :=
  if s.bsn.updState = 1 then (match oldestKeeper s with | some x => x.fwVersion | none => s.fnt.keeperVersion) else s.fnt.keeperVersion

/-- The report of R388 before its signature. -/
def attestReport (s : State) (c : Cmd) : Bytes :=
  let d := c.desc
  let k := key1Of d
  let r := recOf s c k
  let named := k != 0
  let z (n : Nat) : Bytes := List.replicate n 0
  natLe 4 0x5441584F ++ natLe 2 1 ++ natLe 1 (lifeCode s.fnt.lifeWord) ++ natLe 1 s.fnt.op.code ++ natLe 8 s.fnt.serial ++ natLe 4 0xA0
    ++ natLe 2 s.tbs.era ++ natLe 1 ((s.partOf c.fn).getD 0)
    ++ natLe 1 (bitNat named + 2 * bitNat s.wei.dbg.isSome + 4 * bitNat s.vlt.degraded + 8 * bitNat s.bsn.derated)
    ++ natLe 8 s.now ++ paramBytes d 8 32 ++ paramBytes d 0x28 24 ++ natLe 8 s.lay.activeSerial
    ++ padTo 48 (match s.lay.active with | some l => l.digest | none => []) ++ natLe 4 s.lay.epoch ++ natLe 4 s.fnt.running
    ++ padTo 48 s.fnt.runningDigest ++ natLe 4 (match oldestKeeper s with | some x => x.fwVersion | none => s.fnt.keeperVersion)
    ++ natLe 2 s.gro.sticky.toNat ++ z 2 ++ padTo 48 (match oldestKeeper s with | some x => x.fwDigest | none => s.fnt.keeperDigest)
    ++ natLe 4 s.gau.acc.hours ++ natLe 4 s.gau.acc.cycles ++ (basinNums.map (fun n => natLe 1 (s.basinState n))).flatten
    ++ padTo 48 s.ownerDigest ++ natLe 8 k.toNat
    ++ (if named then natLe 1 r.alg ++ natLe 1 r.cls ++ natLe 1 (s.keyState k) ++ natLe 1 (bitNat (r.usage.getLsbD 21) + 2 * bitNat r.session)
          ++ z 4 ++ natLe 8 r.usage.toNat ++ padTo 48 (Config.sha384 (publicEncoding r.alg r.comps))
        else z 64)
    ++ padTo 48 (Config.sha384 (publicEncoding 0x38 (pairedComps s.fnt.dak))) ++ z 24

/-- What ATTEST answers: the report, signed with the DAK, and with CHAIN the DIK and DAK certificates. -/
def attestRun (s : State) (c : Cmd) (rnd : Bytes) : Answer × State :=
  let rep := attestReport s c
  let out := rep ++ pairedSign (pairedComps s.fnt.dak) (ascii "OX-ATTEST") rep rnd
    ++ (if bitAt (param c.desc 0 1) 0 then padTo 5485 s.fnt.dikCert ++ padTo 5485 s.fnt.dakCert else [])
  ({ result := natLe 4 out.length, output := out }, s)

/-- ATTEST (R387, R388). -/
def execAttest (e : Nat) (s : State) : Host.Outcome State Fault Refusal :=
  .next (s.runRandom e (· == 0x0340) (fun _ => 32) (fun _ => false) attestRun)

end Sys2Proof.Machine
end

