-- ==== Sys2Proof/Machine/KeyCmds.lean ====
section
/-! DEFINITION. The key commands (12): KEY.IMPORT, EXPORT, GENERATE, DERIVE, STATE and DESTROY. -/

namespace Sys2Proof.Machine

/-- The header of a key block agrees with the command (R291, R294): the version with the KBPK, the length, the algorithm and usages
the model supports. -/
def blockAgrees (d blk : Bytes) (kbpk : Record) : Bool :=
  match blockHeader blk with
  | none => false
  | some (ver, alg, _, _) =>
    (if ver = 'D'.toNat then kbpk.alg == 3 else isTdes kbpk.alg) && alg == blockAlgLetter (attrAlg d)
      && decide (ascii2 blk 1 * 100 + ascii2 blk 3 = blk.length)

/-- Private material delivered in a key block, by component (R275, R294); none where its length is not ALG's, or an
RSA modulus lacks its top bit (R372). -/
def blockComps (alg : Nat) (key : Bytes) : Option (List (Nat × Bytes)) :=
  let comps := splitComps (compTable alg 0) key
  if key.length = materialLen alg false 0 && modulusOk alg comps then some comps else none

/-- What KEY.IMPORT answers: a failed authentication or public encoding is DONE/FALSE (R294, R373). -/
def importRun (s : State) (c : Cmd) : Answer × State :=
  let d := c.desc
  if publicImportOf d then
    match publicImport (attrAlg d) c.input with
    | none => ({ status := 1 }, s)
    | some comps => (created s (newRecord s c (attrUsage d) true 0 (publicComps (attrAlg d) comps)) [], s)
  else
    let k := recOf s c (key2Of d)
    if !blockAgrees d c.input k then ({ status := 0x0403 }, s)
    else
      match Config.keyBlockOpen (c.input.getD 0 0).toNat k.key c.input with
      | none => ({ status := 1 }, s)
      | some key =>
        match blockComps (attrAlg d) key with
        | none => ({ status := 0x0403 }, s)
        | some comps =>
          let bdk := match blockHeader c.input with | some h => if isAes (attrAlg d) then h.2.2.2 else 0 | none => 0
          (created s (newRecord s c (newUsage d c.input) false bdk comps) [], s)

/-- KEY_IMPORT (R291 to R295, R373). -/
def execKeyImport (e : Nat) (s : State) : Host.Outcome State Fault Refusal := .next (s.run e (· == 0x0401) (importRun s))

/-- Four ASCII decimal digits. -/
def dec4 (n : Nat) : Bytes := [n / 1000, n / 100, n / 10, n].map (fun x => BitVec.ofNat 8 (48 + x % 10))

/-- The header of an exported block (R294): exportability N, no optional block. -/
def exportHeader (verD : Bool) (len : Nat) (alg : Nat) (row : Nat × String × Char) : Bytes :=
  ascii (if verD then "D" else "B") ++ dec4 len ++ ascii row.2.1 ++ [BitVec.ofNat 8 (blockAlgLetter alg), BitVec.ofNat 8 row.2.2.toNat] ++ ascii "00N0000"

/-- What KEY.EXPORT answers; the block's padding is an open value (log entry 1). -/
def exportRun (s : State) (c : Cmd) : Answer × State :=
  let d := c.desc
  let r := recOf s c (key1Of d)
  let f := param d 0 1
  if f = 2 then
    let out := publicEncoding r.alg r.comps
    ({ result := natLe 4 out.length, output := out }, s)
  else
    match exportRow r.usage.toNat with
    | none => ({ status := 0x0306 }, s)
    | some row =>
      let len := exportLen r f
      let key := (r.comps.map (·.2)).flatten
      let pad := s.freeBytes len
      let blk := Config.keyBlockSeal (if f = 0 then 'D'.toNat else 'B'.toNat) (recOf s c (key2Of d)).key (exportHeader (f == 0) len r.alg row) key pad.1
      ({ result := natLe 4 len, output := padTo len blk }, pad.2)

/-- KEY_EXPORT (R292, R294, R373). -/
def execKeyExport (e : Nat) (s : State) : Host.Outcome State Fault Refusal := .next (s.run e (· == 0x0402) (exportRun s))

/-- Key bytes of KEY.GENERATE. -/
def generateLen (c : Cmd) : Nat := if attrAlg c.desc = 8 then param c.desc 0x20 1 else symLen (attrAlg c.desc)

/-- What KEY.GENERATE answers. -/
def generateRun (s : State) (c : Cmd) (key : Bytes) : Answer × State :=
  (created s (newRecord s c (attrUsage c.desc) false 0 [(0, key)]) [], s)

/-- KEY_GENERATE (R291, R292, R472): a persistent key is a fresh request, a session key a pool draw. -/
def execKeyGenerate (e : Nat) (s : State) : Host.Outcome State Fault Refusal :=
  .next (s.runRandom e (· == 0x0403) generateLen (fun c => !attrSession c.desc) generateRun)

/-- What KEY.DERIVE answers, by its method (R292). -/
def deriveRun (s : State) (c : Cmd) : Answer × State :=
  let d := c.desc
  let n := agreedLen (attrAlg d)
  let k := (recOf s c (key1Of d)).key
  let m := param d 0x20 1
  let key := if m = 0 then Config.kdf k (ascii "OX-DRV") (paramBytes d 0x28 24) n
             else if m = 1 then Config.dukptAesInitial k (paramBytes d 0x28 8)
             else Config.dukptTdesInitial k (paramBytes d 0x28 10)
  (created s (newRecord s c (attrUsage d) false 0 [(0, padTo n key)]) [], s)

/-- KEY_DERIVE (R291, R292). -/
def execKeyDerive (e : Nat) (s : State) : Host.Outcome State Fault Refusal := .next (s.run e (· == 0x0404) (deriveRun s))

/-- What KEY.STATE answers: the change or the arming, made at retirement (R182, R276, R293). -/
def keyStateRun (s : State) (c : Cmd) : Answer × State :=
  let d := c.desc
  let h := key1Of d
  let t := param d 0 1
  if param d 1 1 = 1 then ({ effect := .keyArm h (t == 1) (param d 8 8) }, s)
  else if s.keyState h = t then ({}, s)
  else ({ effect := .keyTo h t }, s)

/-- KEY_STATE (R276, R292, R293). -/
def execKeyState (e : Nat) (s : State) : Host.Outcome State Fault Refusal := .next (s.run e (· == 0x0405) (keyStateRun s))

/-- KEY_DESTROY (R276, R286, R292). -/
def execKeyDestroy (e : Nat) (s : State) : Host.Outcome State Fault Refusal :=
  .next (s.run e (· == 0x0406) (fun c => ({ effect := .destroy (key1Of c.desc) }, s)))

end Sys2Proof.Machine
end

