-- ==== Sys2Proof/Machine/Control.lean ====
section
/-! DEFINITION. The queue-control commands and LAUNCH.SCHEDULE (R86, R90, R133 to R135, R592). -/

namespace Sys2Proof.Machine

/-- NOP (R135): performs nothing. -/
def execNop (e : Nat) (s : State) : Host.Outcome State Fault Refusal := .next (s.run e (· == 0x0001) (fun _ => ({}, s)))

/-- The result of arming an entry for a command: the number and SEQ of the new entry, or the status of the check that refuses. -/
def armAnswer (s : State) (r : Nat ⊕ (Nat × State)) : Answer × State :=
  match r with
  | .inl st => ({ status := st }, s)
  | .inr (n, t) => ({ result := armResult n (t.launch n).seq }, t)

/-- The ARG of a BATCH_RELEASE entry (R133). -/
def batchArg (c : Cmd) : Nat := param c.desc 8 4 + param c.desc 0x0C 1 % 64 * 2 ^ 32 + bitNat c.fn.port * 2 ^ 40

/-- What BATCH.ARM answers (R86, R134, R135): a successful arming clears the queue's record. -/
def batchArmRun (s : State) (c : Cmd) : Answer × State :=
  let r := armAnswer s (s.arm .batchRelease (param c.desc 0 8) (batchArg c) ((s.partOf c.fn).getD 0) c.fn)
  let q := param c.desc 0x0C 1 % 64
  if r.1.status = 0 then (r.1, r.2.setQueue c.fn q { r.2.queue c.fn q with batchRecord := none }) else r

/-- BATCH_ARM (R86, R133 to R135). -/
def execBatchArm (e : Nat) (s : State) : Host.Outcome State Fault Refusal := .next (s.run e (· == 0x0002) (batchArmRun s))

/-- What LAUNCH.CANCEL answers (R90, R135). -/
def launchCancelRun (s : State) (c : Cmd) : Answer × State :=
  let n := param c.desc 0 1
  let x := s.launch n
  if x.state != .armed || x.seq ≠ param c.desc 4 4 || x.instant ≤ s.now then ({ status := 0x0224 }, s)
  else if !isPf0 c.fn && s.partOf c.fn != some x.origin then ({ status := 0x0304 }, s)
  else ({}, s.endLaunch n .cancelled 4)

/-- LAUNCH_CANCEL (R90, R135). -/
def execLaunchCancel (e : Nat) (s : State) : Host.Outcome State Fault Refusal := .next (s.run e (· == 0x0003) (launchCancelRun s))

/-- The kinds LAUNCH.SCHEDULE arms (R592). -/
def scheduleKind (k : Nat) : LaunchKind := if k = 1 then .layout else if k = 2 then .weirSwap else if k = 6 then .basinRetire else .basinAdmit

/-- Arming a LAYOUT entry for a staged image schedules it (R36 step 6). -/
def State.scheduled (s : State) (instant : Nat) : State :=
  if s.lay.stage == .staged then { s with lay := { s.lay with stage := .scheduled, launchAt := instant } } else s

/-- What LAUNCH.SCHEDULE answers (R86, R592). -/
def launchScheduleRun (s : State) (c : Cmd) : Answer × State :=
  let k := scheduleKind (param c.desc 0x10 1)
  let t := param c.desc 0 8
  let r := armAnswer s (s.arm k t (param c.desc 8 8) 0 c.fn)
  if r.1.status = 0 && k == .layout then (r.1, r.2.scheduled t) else r

/-- LAUNCH_SCHEDULE (R36, R86, R592). -/
def execLaunchSchedule (e : Nat) (s : State) : Host.Outcome State Fault Refusal := .next (s.run e (· == 0x0520) (launchScheduleRun s))

end Sys2Proof.Machine
end

