-- ==== Sys2Proof/Machine/LayoutImage.lean ====
section
/-! DEFINITION. The Layout image (02): its header, directory and sections, the checks of R27 to R35 and R408, and the parsed
Layout. A check answers the list of its failures as (cause, section type, entry index). -/

namespace Sys2Proof.Machine

/-! ## Format -/

/-- A failure (R34): cause, section type, entry. -/
abbrev Reject := Nat × Nat × Nat

/-- A failure unless the condition holds. -/
def need (ok : Bool) (cause sec ent : Nat) : List Reject := if ok then [] else [(cause, sec, ent)]

/-- The entries of `n` bytes of a section part. -/
def entriesOf (n : Nat) (bs : Bytes) : List Bytes := (List.range (bs.length / n)).map (fun i => slice bs (n * i) n)

/-- Failures of every entry of a list. -/
def eachEntry {α : Type} (l : List α) (g : α → Nat → List Reject) : List Reject := (l.zipIdx.map (fun p => g p.1 p.2)).flatten

/-- The section directory: type, offset, length. -/
def dirOf (img : Bytes) : List (Nat × Nat × Nat) :=
  (List.range (field img 6 2)).map (fun i => (field img (256 + 16 * i) 2, field img (260 + 16 * i) 4, field img (264 + 16 * i) 4))

/-- A section's bytes; empty when the directory has none. -/
def sectionOf (img : Bytes) (t : Nat) : Bytes :=
  match (dirOf img).find? (fun d => d.1 == t) with | some d => slice img d.2.1 d.2.2 | none => []

/-- The directory holds a section type. -/
def hasSection (img : Bytes) (t : Nat) : Bool := (dirOf img).any (fun d => d.1 == t)

/-- LENGTH of the header (R28). -/
def imageLength (img : Bytes) : Nat := field img 8 4

/-- The entries of PARTITIONS, QUORUM and FIRMWARE, behind their 8-byte headers. -/
def afterHeader (n : Nat) (bs : Bytes) : List Bytes := entriesOf n (bs.drop 8)

/-- A section's size satisfies R588. -/
def sizeOk (t : Nat) (b : Bytes) : Bool :=
  let n := b.length
  if t = 1 then decide (8 ≤ n) && (n - 8) % 32 == 0 && field b 1 1 == (n - 8) / 32
  else if t = 2 then n % 16 == 0
  else if t = 3 || t = 0xA || t = 0xE then n == 16
  else if t = 4 || t = 0xD then n == 8
  else if t = 5 || t = 6 then n == 3344
  else if t = 7 then n % 8 == 0
  else if t = 8 then n % 4 == 0
  else if t = 9 then n % 32 == 0
  else if t = 0xB then decide (8 ≤ n) && (n - 8) % 32 == 0 && field b 1 1 == (n - 8) / 32
  else if t = 0xC then decide (8 ≤ n) && (n - 8) % 64 == 0 && field b 0 4 == (n - 8) / 64 && decide (1 ≤ field b 0 4) && decide (field b 0 4 ≤ 16)
  else n == 1984

/-- The two directory ranges do not overlap. -/
def apart (x y : Nat × Nat × Nat) : Bool := decide (x.2.1 + x.2.2 ≤ y.2.1) || decide (y.2.1 + y.2.2 ≤ x.2.1)

/-- Header and directory (R27, R28). -/
def headFormat (img : Bytes) : List Reject :=
  let d := dirOf img
  let lo := 256 + 16 * d.length
  need (decide (256 ≤ img.length) && field img 0 4 == 0x594C584F && field img 4 2 == 1 && (d.length == 14 || d.length == 15)
      && imageLength img + 3373 == img.length && decide (img.length ≤ 2097152)) 1 0 0
    ++ need (((List.range 15).map (· + 1)).all (fun t => let n := (d.filter (fun x => x.1 == t)).length
        if t = 0xD then decide (n ≤ 1) else n == 1) && d.all (fun x => decide (1 ≤ x.1) && decide (x.1 ≤ 15))) 1 0 0
    ++ need (d.all (fun x => x.2.1 % 64 == 0 && decide (lo ≤ x.2.1) && decide (x.2.1 + x.2.2 ≤ imageLength img))
        && d.zipIdx.all (fun x => d.zipIdx.all (fun y => x.2 == y.2 || apart x.1 y.1))
        && d.any (fun x => x.2.1 + x.2.2 == imageLength img)) 1 0 0

/-- Reserved bytes of the header and directory, and padding (R12, R34 cause 0x02). -/
def headReserved (img : Bytes) : List Reject :=
  let d := dirOf img
  let next (e : Nat) : Nat := (d.map (fun x => x.2.1)).foldl (fun a o => if e ≤ o && o < a then o else a) (imageLength img)
  let zeroFrom (e : Nat) : Bool := allZero (slice img e (next e - e))
  need (field img 0x0C 4 == 0 && field img 0x1C 4 == 0 && allZero (slice img 0x88 120)) 2 0 0
    ++ eachEntry d (fun _ i => need (field img (258 + 16 * i) 2 == 0 && field img (268 + 16 * i) 4 == 0) 2 0 i)
    ++ need (zeroFrom (256 + 16 * d.length)) 2 0 0
    ++ (d.map (fun x => need (zeroFrom (x.2.1 + x.2.2)) 2 x.1 0)).flatten

/-! ## Sections -/

def parsePartition (e : Bytes) : Partition :=
  { part := field e 0 1, hasA := bitAt (field e 1 1) 0, hasB := bitAt (field e 1 1) 1, vfA := field e 2 1, vfB := field e 3 1
    qp := field e 4 1, pool := BitVec.ofNat 8 (field e 5 1), keySlots := field e 8 4, workMib := field e 0xC 4
    sessionKeys := field e 0x10 4, keyBase := field e 0x14 4 }

def parseQueue (e : Bytes) : QueueCfg :=
  { part := field e 0 1, port := field e 1 1 == 1, index := field e 2 1, cls := field e 3 1, log2Depth := field e 4 1
    share := field e 6 2, cmdQuota := field e 8 4, kibQuota := field e 0xC 4 }

def parseRule (e : Bytes) : Rule :=
  { part := field e 0 1, allowed := bitAt (field e 1 1) 0, classes := BitVec.ofNat 3 (field e 1 1 / 2), opcode := field e 2 2
    maxKib := field e 4 2, limit := field e 6 2 }

def parsePair (e : Bytes) : TransPair := { inFmt := field e 0 1, outFmt := field e 1 1, dukptIn := bitAt (field e 2 1) 0 }

def parseClass (e : Bytes) : KeyClass :=
  { cls := field e 0 1, persistentOk := bitAt (field e 1 1) 0, sessionOk := bitAt (field e 1 1) 1, tdes2Ok := bitAt (field e 1 1) 2
    algs := BitVec.ofNat 32 (field e 4 4), usageMask := BitVec.ofNat 64 (field e 8 8), partners := BitVec.ofNat 64 (field e 0x10 8) }

def parseSlot (e : Bytes) : WeirSlot :=
  { rdMask := BitVec.ofNat 16 (field e 0 2), wrMask := BitVec.ofNat 16 (field e 2 2), maxR := field e 4 1, maxW := field e 5 1 }

def parseRegion (e : Bytes) : WeirRegion :=
  { base := field e 0 8, log2Size := field e 8 1, rd := bitAt (field e 9 1) 0, wr := bitAt (field e 9 1) 1, maxRing := field e 0xA 1 }

def parseQuorum (e : Bytes) : QuorumId := { id := BitVec.ofNat 128 (field e 0 16), badge := field e 16 1 == 1 }

def parseFw (e : Bytes) : FwEntry := { kind := field e 0 1, version := field e 4 4, digest := slice e 8 48 }

/-- The slot entries of a Weir section (R405). -/
def slotBytes (b : Bytes) : List Bytes := entriesOf 8 (slice b 16 1024)

/-- Its region entries, 16 for each initiator (R405). -/
def regionBytes (b : Bytes) : List Bytes := entriesOf 16 (b.drop 1040)

def parseWeir (b : Bytes) : WeirSet :=
  { slots := (slotBytes b).map parseSlot
    regions := (List.range 9).map (fun i => ((regionBytes b).drop (16 * i)).take 16 |>.map parseRegion) }

/-- The parsed Layout. -/
def parseLayout (img : Bytes) : Layout :=
  let s := sectionOf img
  { serial := field img 0x10 8, bind := slice img 0x28 48, ownerDigest := slice img 0x58 48
    portMode := field (s 1) 0 1, partitions := (afterHeader 32 (s 1)).map parsePartition
    queues := (entriesOf 16 (s 2)).map parseQueue
    shared := BitVec.ofNat 8 (field (s 3) 0 1), spare := field (s 3) 1 1, owners := (List.range 8).map (fun i => field (s 3) (2 + i) 1)
    keyUnits := field (s 4) 0 4, weirA := parseWeir (s 5), weirB := parseWeir (s 6)
    rules := (entriesOf 8 (s 7)).map parseRule, translation := (entriesOf 4 (s 8)).map parsePair
    keyClasses := (entriesOf 32 (s 9)).map parseClass, tamper := (List.range 16).map (fun i => field (s 0xA) i 1)
    quorumM := field (s 0xB) 0 1, quorum := (afterHeader 32 (s 0xB)).map parseQuorum
    firmware := (afterHeader 64 (s 0xC)).map parseFw
    passportView := if hasSection img 0xD then some (BitVec.ofNat 64 (field (s 0xD) 0 8)) else none
    floorPs := field (s 0xE) 0 2, ceilMv := field (s 0xE) 2 2, ppsOffset := field (s 0xE) 4 4
    ownerKey := s 0xF, digest := Config.sha384 img }

/-- Field codes and ranges (R34 cause 0x01, R408). A VF number that its PORTS bit does not use may hold any value, and PORTS may be 0
(log entry 123). -/
def sectionFormat (s : State) (img : Bytes) : List Reject :=
  let b := sectionOf img
  let weir (t : Nat) : List Reject :=
    need (field (b t) 0 1 == t - 5) 1 t 0
      ++ eachEntry (slotBytes (b t)) (fun e i => need (decide (field e 4 1 ≤ 3) && decide (field e 5 1 ≤ 3)) 1 t i)
      ++ eachEntry (regionBytes (b t)) (fun e i =>
        let g := parseRegion e
        need (if g.log2Size = 0 then allZero e
              else decide (12 ≤ g.log2Size) && decide (g.log2Size ≤ 36) && g.base % 2 ^ g.log2Size == 0
                && decide (g.base + 2 ^ g.log2Size ≤ 2 ^ 40) && decide (0x800000 ≤ g.base) && decide (g.maxRing ≤ 3)) 1 t (128 + i))
  ((dirOf img).map (fun d => need (sizeOk d.1 (b d.1)) 1 d.1 0)).flatten
    ++ need (decide (field (b 1) 0 1 ≤ 1)) 1 1 0
    ++ eachEntry (afterHeader 32 (b 1)) (fun e i =>
        let p := parsePartition e
        let vfOk (v : Nat) : Bool := decide (1 ≤ v) && decide (v ≤ 31)
        need (decide (1 ≤ p.part) && decide (p.part ≤ 31) && (!p.hasA || vfOk p.vfA) && (!p.hasB || vfOk p.vfB)) 1 1 i)
    ++ eachEntry (entriesOf 16 (b 2)) (fun e i =>
        let q := parseQueue e
        need (decide (q.cls ≤ 2) && (if q.cls = 1 then decide (1 ≤ q.share) && decide (q.share ≤ 1000) else if q.cls = 2 then q.share == 0 else true)) 1 2 i)
    ++ need (decide (field (b 3) 1 1 ≤ 7) || field (b 3) 1 1 == 0xFF) 1 3 0
    ++ weir 5 ++ weir 6
    ++ eachEntry (entriesOf 8 (b 7)) (fun e i => need (decide (field e 0 1 ≤ 31)) 1 7 i)
    ++ eachEntry (entriesOf 4 (b 8)) (fun e i => need ([0, 1, 3, 4].contains (field e 0 1) && [0, 1, 3, 4].contains (field e 1 1)) 1 8 i)
    ++ eachEntry (entriesOf 32 (b 9)) (fun e i =>
        need (decide (field e 0 1 ≤ 63) && (((entriesOf 32 (b 9)).take i).all (fun x => field x 0 1 != field e 0 1))) 1 9 i)
    ++ eachEntry (b 0xA) (fun v i => need (decide (v.toNat ≤ 2) || s.gro.off i) 1 0xA i)
    ++ eachEntry (afterHeader 32 (b 0xB)) (fun e i => need (decide (field e 16 1 ≤ 1)) 1 0xB i)
    ++ eachEntry (afterHeader 64 (b 0xC)) (fun e i => need (decide (field e 0 1 ≤ 1)) 1 0xC i)

/-- Reserved fields of the sections (R34 cause 0x02, R408). -/
def sectionReserved (img : Bytes) : List Reject :=
  let b := sectionOf img
  let weir (t : Nat) : List Reject :=
    need (allZero (slice (b t) 1 15)) 2 t 0
      ++ eachEntry (slotBytes (b t)) (fun e i =>
        need (field e 6 2 == 0 && decide (field e 0 2 < 512) && decide (field e 2 2 < 512) && (decide (i < 35) || allZero e)) 2 t i)
      ++ eachEntry (regionBytes (b t)) (fun e i =>
        need (decide (field e 0 8 < 2 ^ 40) && decide (field e 9 1 < 4) && allZero (slice e 0xB 5)) 2 t (128 + i))
  need (allZero (slice (b 1) 2 6)) 2 1 0
    ++ eachEntry (afterHeader 32 (b 1)) (fun e i => need (decide (field e 1 1 < 4) && field e 6 2 == 0 && field e 0x18 8 == 0) 2 1 i)
    ++ eachEntry (entriesOf 16 (b 2)) (fun e i => need (field e 5 1 == 0) 2 2 i)
    ++ need (allZero (slice (b 3) 10 6)) 2 3 0
    ++ need (allZero (slice (b 4) 4 4)) 2 4 0
    ++ weir 5 ++ weir 6
    ++ eachEntry (entriesOf 8 (b 7)) (fun e i => need (decide (field e 1 1 < 16)) 2 7 i)
    ++ eachEntry (entriesOf 4 (b 8)) (fun e i => need (decide (field e 2 1 < 2) && field e 3 1 == 0) 2 8 i)
    ++ eachEntry (entriesOf 32 (b 9)) (fun e i =>
        need (decide (field e 1 1 < 8) && field e 2 2 == 0 && bitsIn (field e 4 4) 0x073F013E && decide (field e 8 8 < 2 ^ 22) && field e 0x18 8 == 0) 2 9 i)
    ++ need (allZero (slice (b 0xB) 2 6)) 2 0xB 0
    ++ eachEntry (afterHeader 32 (b 0xB)) (fun e i => need (allZero (slice e 17 15)) 2 0xB i)
    ++ need (allZero (slice (b 0xC) 4 4)) 2 0xC 0
    ++ eachEntry (afterHeader 64 (b 0xC)) (fun e i => need (allZero (slice e 1 3) && allZero (slice e 56 8)) 2 0xC i)
    ++ need (allZero (slice (b 0xE) 8 8)) 2 0xE 0

/-! ## Limits (R33) -/

/-- No earlier element satisfies `same` with this one. -/
def firstOf {α : Type} (l : List α) (i : Nat) (x : α) (same : α → α → Bool) : Bool := (l.take i).all (fun y => !same y x)

/-- The number of basins in a pool. -/
def poolSize (m : BitVec 8) : Nat := (basinNums.filter (fun n => m.getLsbD n)).length

/-- GUARANTEED shares on a basin in units of 1/840 per-mille. -/
def guaranteedOn (l : Layout) (n : Nat) : Nat :=
  (l.partitions.map (fun p =>
    if p.pool.getLsbD n then
      ((l.queues.filter (fun q => q.part == p.part && q.cls == 0)).map (·.share)).sum * 840 / max 1 (poolSize p.pool)
    else 0)).sum

/-- The queue indexes a function lists on a port. -/
def indexesOf (l : Layout) (part : Nat) (port : Bool) : List Nat := (l.queues.filter (fun q => q.part == part && q.port == port)).map (·.index)

/-- Exactly the indexes 0 to n - 1, each once. -/
def exactly (ix : List Nat) (n : Nat) : Bool := ix.length == n && (List.range n).all (fun i => ix.contains i)

/-- A basin has exactly one role. -/
def roleOkBasin (l : Layout) (n : Nat) : Bool :=
  let o := l.owners.getD n 0
  let sh := l.shared.getLsbD n
  (sh && o == 0 && l.spare != n) || (!sh && o == 0 && l.spare == n)
    || (!sh && o != 0 && l.spare != n && l.partitions.any (fun p => p.part == o && p.pool.getLsbD n))

/-- A QUEUES entry's index lies in its function's range: below QP, for PF0 below the number of PF0's entries on that port. -/
def indexInRange (l : Layout) (q : QueueCfg) : Bool :=
  match l.partitions.find? (fun p => p.part == q.part) with
  | some p => decide (q.index < p.qp)
  | none => decide (q.index < (indexesOf l 0 q.port).length)

/-- The failures of R33 under the strap's port mode (log entry 85); `raw` are the QUEUES entries, whose port byte may be out of range. -/
def limitFails (x16 : Bool) (l : Layout) (raw : List Bytes) : List Reject :=
  let ps := l.partitions
  need (decide (1 ≤ ps.length) && decide (ps.length ≤ 31)) 3 1 0
    ++ eachEntry ps (fun p i =>
        need (firstOf ps i p (fun a b => a.part == b.part || (a.hasA && b.hasA && a.vfA == b.vfA) || (a.hasB && b.hasB && a.vfB == b.vfB))
            && !(x16 && p.hasB) && decide (1 ≤ p.qp) && decide (p.qp ≤ 64) && p.pool != 0
            && decide (p.keyBase + p.keySlots ≤ l.keyUnits * 524288)
            && firstOf ps i p (fun a b => !(decide (a.keyBase + a.keySlots ≤ b.keyBase) || decide (b.keyBase + b.keySlots ≤ a.keyBase)) && a.keySlots != 0 && b.keySlots != 0)
            && (decide (7 < l.spare) || !p.pool.getLsbD l.spare)) 3 1 i)
    ++ eachEntry l.queues (fun q i =>
        let e := raw.getD i []
        let owner := ps.find? (fun p => p.part == q.part)
        need (decide (field e 1 1 ≤ 1) && !(x16 && q.port) && decide (1 ≤ q.log2Depth) && decide (q.log2Depth ≤ 16)
          && (q.part == 0 || (match owner with | some p => if q.port then p.hasB else p.hasA | none => false))
          && firstOf l.queues i q (fun a b => a.part == b.part && a.port == b.port && a.index == b.index) && indexInRange l q) 3 2 i)
    ++ eachEntry ps (fun p _ =>
        (if p.hasA then need (exactly (indexesOf l p.part false) p.qp) 3 2 0 else [])
        ++ (if p.hasB then need (exactly (indexesOf l p.part true) p.qp) 3 2 0 else []))
    ++ need (let n := (indexesOf l 0 false).length; decide (1 ≤ n) && decide (n ≤ 64) && exactly (indexesOf l 0 false) n) 3 2 0
    ++ need (x16 || (let n := (indexesOf l 0 true).length; decide (1 ≤ n) && decide (n ≤ 64) && exactly (indexesOf l 0 true) n)) 3 2 0
    ++ need (decide (l.queues.length ≤ 2048)) 3 2 0
    ++ eachEntry basinNums (fun n _ => need (decide (guaranteedOn l n ≤ 840000)) 3 2 0 ++ need (roleOkBasin l n) 3 3 n)
    ++ need (decide (2 * l.keyUnits ≤ 109)) 3 4 0
    ++ need (decide ((ps.map (·.workMib)).sum ≤ (109 - 2 * l.keyUnits) * 128)) 3 1 0
    ++ need (decide (l.rules.length ≤ 31 * 256)) 3 7 0
    ++ eachEntry l.rules (fun r i => need (firstOf l.rules i r (fun a b => a.part == b.part && a.opcode == b.opcode)) 3 7 i)
    ++ need (decide (l.translation.length ≤ 16)) 3 8 0
    ++ eachEntry l.translation (fun t i => need (firstOf l.translation i t (fun a b => a.inFmt == b.inFmt && a.outFmt == b.outFmt)) 3 8 i)
    ++ need (decide (1 ≤ l.keyClasses.length) && decide (l.keyClasses.length ≤ 64)) 3 9 0
    ++ need (decide (2 ≤ l.quorumM) && decide (l.quorumM ≤ l.quorum.length) && decide (l.quorum.length ≤ 16)) 3 0xB 0
    ++ eachEntry l.quorum (fun x i => need (firstOf l.quorum i x (fun a b => a.id == b.id)) 3 0xB i)
    ++ need (decide (420 ≤ l.floorPs) && decide (l.floorPs ≤ 625) && decide (720 ≤ l.ceilMv) && decide (l.ceilMv ≤ 900) && decide (l.ppsOffset ≤ 999999999)) 3 0xE 0

/-! ## Signature and state (R29, R30, R34) -/

/-- The paired signature verifies (R28, R29). -/
def signatureOk (img : Bytes) : Bool :=
  pairedValid (sectionOf img 0xF) (ascii "OX-LAYOUT") (img.take (imageLength img)) (slice img (imageLength img) 3373)

/-- The owner key is the fused one (R29, R480). -/
def ownerOkImage (s : State) (l : Layout) : Bool :=
  lifeCode s.fnt.lifeWord == 3 && Config.sha384 l.ownerKey == l.ownerDigest && Config.sha384 l.ownerKey == s.ownerDigest

/-- Digest of the identity paired public key. -/
def dikDigest (s : State) : Bytes := Config.sha384 (publicEncoding 0x38 (pairedComps s.fnt.dik))

/-- A running image is listed. -/
def runListed (l : Layout) (kind version : Nat) (digest : Bytes) : Bool :=
  l.firmware.any (fun x => x.kind == kind && x.version == version && x.digest == padTo 48 digest)

/-- The index of the first entry that satisfies a condition, 0 where none does. -/
def indexIn {α : Type} (l : List α) (c : α → Bool) : Nat := if l.any c then l.findIdx c else 0

/-- The classes of the live records, and of those that unretired commands with an ALLOW are creating (R34, R295). -/
def liveClasses (s : State) : List Nat :=
  s.cis.records.map (fun x => x.2.cls)
    ++ s.cis.reserved.filterMap (fun x => match s.cmd x.2.1 with | some c => if c.verdict == .allow then some (attrClass c.desc) else none | none => none)

/-- Causes 0x04 to 0x0C of R34. -/
def stateFails (s : State) (img : Bytes) (l : Layout) : List Reject :=
  need (signatureOk img) 4 0 0
    ++ need (ownerOkImage s l) 5 0xF 0
    ++ need (match s.lay.active with | some a => decide (a.serial < l.serial) | none => true) 6 0 0
    ++ need (allZero l.bind || l.bind == dikDigest s) 7 0 0
    ++ need ((l.portMode == 1) == s.x16) 8 1 0
    ++ eachEntry l.tamper (fun v i => need (s.gro.off i || decide (s.gro.floor i ≤ v)) 9 0xA i)
    ++ need (basinNums.all (fun n => !(s.basin n).serving || runListed l 0 (s.basin n).fwVersion (s.basin n).fwDigest)
        && runListed l 1 s.fnt.running s.fnt.runningDigest) 0xA 0xC 0
    ++ ((liveClasses s).map (fun k =>
        need (match classOf l.keyClasses k with
          | none => false
          | some c => match classOf s.classes k with | some o => bitsIn o.usageMask.toNat c.usageMask.toNat | none => true)
          0xB 9 (indexIn l.keyClasses (fun c => c.cls == k)))).flatten
    ++ (s.cis.records.map (fun x =>
        let hi := x.1 + x.2.slots
        let hit (p : Partition) : Bool := !(decide (hi ≤ p.keyBase) || decide (p.keyBase + p.keySlots ≤ x.1))
        let mine (p : Partition) : Bool := p.part == x.2.part
        (if x.2.session then need (!l.partitions.any hit) 0xC 1 (indexIn l.partitions hit)
         else need (l.partitions.any (fun p => mine p && decide (p.keyBase ≤ x.1) && decide (hi ≤ p.keyBase + p.keySlots))) 0xC 1 (indexIn l.partitions mine))
          ++ need (decide (hi ≤ l.keyUnits * 524288)) 0xC 4 0)).flatten

/-- The failure with the lowest cause, the first of it (R34). -/
def lowest (l : List Reject) : Option Reject :=
  l.foldl (fun b x => match b with | none => some x | some y => if x.1 < y.1 then some x else some y) none

/-- Every check of R34 on an image. -/
def imageFails (s : State) (img : Bytes) : Option Reject :=
  let l := parseLayout img
  let f := headFormat img
  lowest (if !f.isEmpty then f
    else f ++ sectionFormat s img ++ headReserved img ++ sectionReserved img ++ limitFails s.x16 l (entriesOf 16 (sectionOf img 2)) ++ stateFails s img l)

/-! ## Roles of the launched Layout (R45, R196) -/

/-- Every basin but the spare. -/
def Layout.roles (l : Layout) : List Nat := basinNums.filter (fun n => l.spare != n)

end Sys2Proof.Machine
end

