-- ==== Sys2Proof/Machine/PortOps.lean ====
section
/-! DEFINITION. Shared operations of ports and functions (05): the removal of a function's or a queue's work, function-level
resets (R110 to R113), destroyed queues (R115), and the loss of a link (R114). -/

namespace Sys2Proof.Machine

/-! ## Removal without a completion (R183) -/

/-- A management command leaves while a token or a raw run serves it: the collection ends, a raw run keeps no command, and its staged passport blocks are dropped. -/
def State.forgetEntry (s : State) (e : Nat) : State :=
  let s1 := match s.fnt.collect with
    | some c => if c.entry = e then
        { s with
          fnt := { s.fnt with collect := none }
          ccb := { s.ccb with trans := match s.ccb.trans with | some t => if t.forCollect then none else some t | none => none } }
      else s
    | none => s
  let s2 := match s.cmd e with
    | some c => if opcodeOf c.desc = 0x0550 && c.execStart.isSome then s1.dropStaged else s1
    | none => s1
  match s2.spg.raw with
  | some (b, n, x, t) => if x = e then { s2 with spg := { s2.spg with raw := some (b, n, 16384, t) } } else s2
  | none => s2

/-- A command squashed by a reset or by the loss of its queue: it leaves the retire buffer and posts nothing (R183, R186). -/
def State.dropEntry (s : State) (e : Nat) : State :=
  match s.cmd e with
  | none => s
  | some c =>
    let s1 := if c.early then { s with slu := { s.slu with squashed := s.slu.squashed + 1 } } else s
    ((((((s1.clearAttempt e).freeReserved e).leaveMgmt e).forgetEntry e).dropCmd e).leftBasin c).unpin c

/-- Drop every command of the retire buffer that satisfies a condition. -/
def State.dropWhere (s : State) (c : Cmd → Bool) : State :=
  s.slu.retire.foldl (fun a p => if c p.2 then a.dropEntry p.1 else a) s

/-- A queue stopped, with every fetched, held and unposted thing discarded (steps 2 to 4 of R110). -/
def stoppedQueue (x : Queue) : Queue :=
  { x with enabled := false, fetching := none, starts := [], order := [], parkedDesc := none, toPost := [], heldOut := [], heldWindow := 0, batchId := 0, releaseAt := none
           coalPending := 0 }

/-- The numbers of a function's queues. -/
def queueNums : List Nat := List.range 64

/-- A queue is destroyed by steps 2, 3, 5 and 7 of R110: its commands are dropped, its window and completions go. -/
def State.destroyQueue (s : State) (f : FnId) (q : Nat) : State :=
  let s1 := s.dropWhere (fun c => c.fn == f && c.q == q)
  { s1 with queues := tabDel s1.queues (qKey f q) }

/-! ## Function-level reset -/

/-- Steps 1 to 4 of R110 for one function; nothing more where it is RESETTING already (R112). Its detached queues are destroyed at once
(R115), its pending messages are dropped, and a re-attach under way fails with DST_RESET (R118). -/
def State.flrOne (s : State) (f : FnId) (restructure : Bool) : State :=
  let x := s.fn f
  if x.resetting then s
  else
    let s1 := s.setFn f { x with
      resetting := true, generation := (x.generation + 1) % 2 ^ 32, flrAt := s.now, restructure := restructure, vecPending := 0
      reState := if x.reState = 1 then 3 else x.reState, reResult := if x.reState = 1 then 4 else x.reResult
      reattach := if x.reState = 1 then x.reattach &&& 0x7FFFFFFF else x.reattach }
    let s2 := s1.dropWhere (fun c => c.fn == f)
    { s2 with queues := (s2.queues.filter (fun p => !(p.1 / 64 == fnKey f && p.2.detached))).map (fun p =>
        if p.1 / 64 = fnKey f then (p.1, stoppedQueue p.2) else p) }

/-- A VF has something that a reset ends: it exists, holds queues or owns session keys. -/
def State.vfInUse (s : State) (f : FnId) : Bool :=
  s.fnExists f || s.queues.any (fun p => p.1 / 64 == fnKey f) || s.cis.records.any (fun p => p.2.session && p.2.fn == f)

/-- Reset every VF of a port, and clear VF Enable (R98). -/
def State.resetVfs (s : State) (port : Bool) : State :=
  let vs := (((List.range 31).map (fun i => (⟨port, i + 1⟩ : FnId))).filter s.vfInUse)
  let s1 := vs.foldl (fun a f => a.flrOne f false) s
  s1.setPort port { s1.port port with vfEnable := false }

/-- An FLR of a function; of PF0, also of every VF on its port (R98); of a function that is RESETTING, nothing (R112). -/
def State.flr (s : State) (f : FnId) (restructure : Bool) : State :=
  let s1 := s.flrOne f restructure
  if isPf0 f && !(s.fn f).resetting then
    let s2 := s1.resetVfs f.port
    if s2.vlt.mirrorPort == f.port then { s2 with vlt := { s2.vlt with mirrorEn := false } } else s2
  else s1

/-- No Cascade still runs or wipes for a function (step 5 of R110). -/
def cascadesClear (s : State) (f : FnId) : Bool :=
  basinNums.all (fun n => !((s.basin n).cas.wiping && (match (s.basin n).cas.wipeFor with | some w => w.2.2 == f | none => false)))

/-- The entries that an FLR of a function cancels (R90). -/
def flrCancels (s : State) (f : FnId) (x : LaunchEntry) : Bool :=
  (x.kind == some .batchRelease && x.owner == f)
    || (keyKind x.kind && (match s.record (BitVec.ofNat 64 x.arg) with | some r => r.session && r.fn == f | none => false))

/-- Steps 6 and 7 of R110. -/
def State.flrEnd (s : State) (f : FnId) : State :=
  let s1 := s.cancelWhere 3 (flrCancels s f)
  let mine (r : Record) : Bool := r.fn == f
  let s2 := if s1.cis.records.any (fun p => p.2.session && mine p.2) then (s1.purgeSessions mine).cisEvent 2 else s1
  let x := s2.fn f
  let s3 := { s2 with queues := s2.queues.filter (fun p => p.1 / 64 != fnKey f) }
  let s4 := s3.setFn f { generation := x.generation }
  if x.restructure then s4.fnEvent f 3 else s4

/-! ## Loss of a link (R114, R325, R564) -/

/-- Queues of a port that detach: enabled, or not IDLE. -/
def detaches (x : Queue) : Bool := x.detachedAt.isNone && (x.enabled || !x.idle)

/-- The output is a queue's own data write. -/
def ofQueue (f : FnId) (q : Nat) : Out → Bool
  | .hostWrite _ g (some n) _ _ _ => g == f && n == q
  | _ => false

/-- The data writes of a queue that the link had not acknowledged: its latest ones, as many as a free value says (R114, log entry 38). -/
def State.unacked (s : State) (f : FnId) (q : Nat) : List Out × State :=
  let mine := s.out.filter (ofQueue f q)
  if mine.isEmpty then ([], s)
  else
    let v := s.freeBits 32
    (mine.drop (mine.length - v.1.toNat % (mine.length + 1)), v.2)

/-- A queue at the loss of its link (R114): unfetched work is no longer fetched; its unacknowledged output, and output from now on, is
held. An unacknowledged write has been issued once, so it holds no drain back (R193). -/
def State.detach (s : State) (k : Nat) : State :=
  let f := (queueOfKey k).1
  let q := (queueOfKey k).2
  let x := s.queue f q
  if detaches x then
    let u := s.unacked f q
    u.2.setQueue f q { x with
      detachedAt := some s.now, fetching := none
      heldOut := u.1.map (fun o => { epoch := s.lay.epoch, seq := s.slu.launchSeq, out := o, issued := true }) ++ x.heldOut }
  else s

/-- A function of a port that loses its link: its configuration space resets, and a re-attach under way fails with DST_DOWN (R114,
R118). -/
def FnState.linkGone (x : FnState) : FnState :=
  { x with
    vecMask := BitVec.allOnes 64, fnMask := false, d3hot := false, bar0 := 0, bar2 := 0, mps := 0, mrrs := 2, tag10 := false, timeoutRange := 0
    reState := if x.reState = 1 then 3 else x.reState, reResult := if x.reState = 1 then 5 else x.reResult
    reattach := if x.reState = 1 then x.reattach &&& 0x7FFFFFFF else x.reattach }

/-- Every function of a port that exists. -/
def State.functions (s : State) (port : Bool) : List FnId := ((List.range 32).map (fun i => (⟨port, i⟩ : FnId))).filter s.fnExists

/-- A port's link goes down: its queues detach, VF Enable clears, the stream ends, the mirror ring through it stops, and PEER_DOWN
sets in every function of the other port. -/
def State.linkLost (s : State) (port : Bool) : State :=
  let p := s.port port
  if !p.linkUp then s
  else
    let s1 := s.setPort port { p with
      linkUp := false, rate := 0, width := 0, ideSecure := false, vfEnable := false, numVfs := 0, training := false, spdm := 0
      ideKeys := [], ideGo := [], vfBar0 := 0, vfBar2 := 0 }
    let s2 := (s1.queues.filter (fun x => x.1 / 64 / 32 == portNum port)).foldl (fun (a : State) x => a.detach x.1) { s1 with
      fns := s1.fns.map (fun (x : Nat × FnState) => if x.1 / 32 = portNum port then (x.1, x.2.linkGone) else x) }
    let s3 := if s2.vlt.mirrorEn && s2.vlt.mirrorPort == port then
        ({ s2 with vlt := { s2.vlt with mirrorEn := false } }).vltEvent 6 else s2
    (if s3.x16 then [] else s3.functions (!port)).foldl (fun a f => a.fnEvent f 0) s3

end Sys2Proof.Machine
end

