-- ==== Sys2Proof/Machine/Layout.lean ====
section
/-! DEFINITION. LAYOUT.LOAD, LAYOUT.STAGE and LAYOUT.DISCARD (R36 to R42, R590). -/

namespace Sys2Proof.Machine

/-- The image in the loading slot is gone and STAGE is EMPTY. -/
def layCleared (l : LayState) : LayState :=
  { l with stage := .empty, loading := [], image := none, staged := if l.draining then l.staged else none, stagedSerial := 0
           launchAt := 0, approvedAt := none }

def State.layClear (s : State) : State := { s with lay := layCleared s.lay }

/-- A rejected image (R34, R590): the registers, the event, DONE/FALSE with the cause. -/
def State.layReject (s : State) (r : Reject) : Answer × State :=
  let s1 := s.layClear
  ({ status := 1, result := natLe 1 r.1 },
   ({ s1 with lay := { s1.lay with rejCause := r.1, rejSection := r.2.1, rejEntry := r.2.2 } }).layEvent 2)

/-- The last chunk is in: the image is VERIFIED or rejected (R36 step 2). -/
def State.layVerify (s : State) : Answer × State :=
  match imageFails s s.lay.loading with
  | some r => s.layReject r
  | none =>
    let l := parseLayout s.lay.loading
    ({}, { s with lay := { s.lay with stage := .verified, image := some l, stagedSerial := l.serial, approvedAt := none } })

/-- A chunk is stored at its offset (R38, R590). -/
def State.layChunk (s : State) (off : Nat) (bs : Bytes) : Answer × State :=
  let have_ := if off = 0 then [] else s.lay.loading
  let all := have_ ++ bs
  let total := imageLength all + 3373
  if all.length < 256 || 2097152 < total || total < all.length then ({ status := 0x0404 }, s.layClear)
  else
    let s1 := { s with lay := { layCleared s.lay with stage := .loading, loading := all } }
    if all.length = total then s1.layVerify else ({}, s1)

/-- What LAYOUT.LOAD answers (R38, R590). -/
def layoutLoadRun (s : State) (c : Cmd) : Answer × State :=
  let off := param c.desc 0 4
  if !(s.lay.stage == .empty || s.lay.stage == .loading || s.lay.stage == .verified) then ({ status := 0x0220 }, s)
  else if off ≠ (if s.lay.stage == .loading then s.lay.loading.length else 0) then ({ status := 0x0407 }, s.layClear)
  else s.layChunk off c.input

/-- LAYOUT_LOAD (R36, R38, R590). -/
def execLayoutLoad (e : Nat) (s : State) : Host.Outcome State Fault Refusal := .next (s.run e (· == 0x0501) (layoutLoadRun s))

/-- A valid approval is held: none has launched since (R37). -/
def approved (s : State) : Bool := s.lay.stage == .approved && s.lay.approvedAt == some s.lay.activeSerial

/-- What LAYOUT.STAGE answers (R34, R36 step 5, R39, R188). -/
def layoutStageRun (s : State) (_c : Cmd) : Answer × State :=
  if s.lay.draining then ({ status := 0x0221 }, s)
  else if !(s.lay.stage == .verified || s.lay.stage == .approved) then ({ status := 0x0220 }, s)
  else
    match lowest ((imageFails s s.lay.loading).toList ++ need (approved s) 0xD 0 0) with
    | some r => s.layReject r
    | none =>
      let e1 := (s.lay.epoch + 1) % 2 ^ 32
      ({}, { s with lay := { s.lay with stage := .staged, staged := s.lay.image }, fnt := { s.fnt with savedEpoch := max s.fnt.savedEpoch e1 } })

/-- LAYOUT_STAGE (R36, R39, R188). -/
def execLayoutStage (e : Nat) (s : State) : Host.Outcome State Fault Refusal := .next (s.run e (· == 0x0502) (layoutStageRun s))

/-- An armed LAYOUT entry whose instant has come: the launch stands (R40). -/
def layoutDue (s : State) : Bool := s.armed.any (fun x => x.kind == some .layout && decide (x.instant ≤ s.now))

/-- What LAYOUT.DISCARD answers (R40). -/
def layoutDiscardRun (s : State) (_c : Cmd) : Answer × State :=
  if s.lay.draining || layoutDue s then ({ status := 0x0220 }, s)
  else ({}, (s.cancelWhere 4 (fun x => x.kind == some .layout)).layClear)

/-- LAYOUT_DISCARD (R40). -/
def execLayoutDiscard (e : Nat) (s : State) : Host.Outcome State Fault Refusal := .next (s.run e (· == 0x0503) (layoutDiscardRun s))

end Sys2Proof.Machine
end

