-- ==== Sys2Proof/Machine/Launch.lean ====
section
/-! DEFINITION. Launches (04, R44 to R47, R87 to R92) and their draining (R193, R411). -/

namespace Sys2Proof.Machine

/-! ## The Layout launch (R36 step 7, R44 to R47) -/

/-- A partition keeps its structure: VF numbers, ports and QP unchanged (R44). -/
def keepsStructure (l : Layout) (p : Partition) : Bool :=
  l.partitions.any (fun x => x.part == p.part && x.hasA == p.hasA && x.hasB == p.hasB && x.qp == p.qp
    && (!p.hasA || x.vfA == p.vfA) && (!p.hasB || x.vfB == p.vfB))

/-- The VFs of a partition. -/
def Partition.vfs (p : Partition) : List FnId := (if p.hasA then [⟨false, p.vfA⟩] else []) ++ (if p.hasB then [⟨true, p.vfB⟩] else [])

/-- Reset every VF of a restructured partition (R44). -/
def State.restructure (s : State) (l : Layout) : State :=
  match s.lay.active with
  | none => s
  | some o =>
    ((o.partitions.filter (fun p => !keepsStructure l p)).map Partition.vfs).flatten.foldl (fun a f => a.flrOne f true) s

/-- PF0 queues the new image no longer lists are destroyed, with RESTRUCTURED in their PF0 (R44). -/
def State.dropPf0Queues (s : State) (l : Layout) : State :=
  match s.lay.active with
  | none => s
  | some o =>
    (o.queues.filter (fun q => q.part == 0 && !l.queues.any (fun x => x.part == 0 && x.port == q.port && x.index == q.index))).foldl
      (fun a q => (a.destroyQueue ⟨q.port, 0⟩ q.index).fnEvent ⟨q.port, 0⟩ 3) s

/-- Bring every balance up to the launch instant under the old caps (R174). -/
def State.refillAll (s : State) : State :=
  let s1 := s.queues.foldl (fun a p => a.refillQueue (queueOfKey p.1).1 (queueOfKey p.1).2) s
  { s1 with slu := { s1.slu with rules := s1.slu.rules.map (fun p =>
      (p.1, match s1.rule (p.1 / 65536) (p.1 % 65536) with | some r => refill p.2 r.limit s1.now | none => p.2)) } }

/-- A balance clamped to a cap. -/
def Bucket.clamp (k : Bucket) (cap : Nat) : Bucket := { k with bal := if (cap : Int) < k.bal then cap else k.bal }

/-- A kept queue under its new entry: balances clamped, a changed depth taken by a queue that is not enabled (R44, R174). -/
def keptQueue (x : Queue) (c : QueueCfg) : Queue :=
  { x with cmdBal := x.cmdBal.clamp (c.cmdQuota * 1000000), kibBal := x.kibBal.clamp (c.kibQuota * 1000000)
           credit := x.credit.clamp (c.share * 8000000), log2Depth := if x.enabled then x.log2Depth else c.log2Depth }

/-- Balances under the new image: a rule that the old image had keeps its balance, its old cap where nothing was charged; one that it had not starts at
its cap (R162, R174). -/
def State.clampAll (s : State) (old : Option Layout) : State :=
  let had (p op : Nat) : Option Rule := match old with | some o => o.rules.find? (fun r => r.part == p && r.opcode == op) | none => none
  let rules := match s.lay.active with | some l => l.rules | none => []
  let kept : Tab Bucket := rules.foldl (fun t r => match had r.part r.opcode with
    | some o => tabSet t (ruleKey r.part r.opcode) ((s.ruleBucket r.part r.opcode o.limit).clamp (r.limit * 1000000))
    | none => t) []
  { s with
    queues := s.queues.map (fun p => (p.1, match s.qcfg (queueOfKey p.1).1 (queueOfKey p.1).2 with | some c => keptQueue p.2 c | none => p.2))
    slu := { s.slu with rules := kept } }

/-- Bring a basin up at boot (5) or at a Layout launch (7): its keeper image from MRAM, then its self-test (step 11 of R561). -/
def State.bringUp (s : State) (why n : Nat) : State :=
  s.setBasin n { s.basin n with st := .testing, testFor := why, fwVersion := s.fnt.keeperVersion, fwDigest := s.fnt.keeperDigest }

/-- The basin fills the role that the image names as spare, and has no command left (R45, R197). -/
def becomesSpare (s : State) (n : Nat) : Bool :=
  let x := s.basin n
  (match s.lay.active, x.role with | some l, some r => l.spare == r | _, _ => false) && (x.serving || x.st == .parked) && (s.onBasin n).isEmpty

/-- Basins in the spare's role become SPARE; a free spare takes the lowest unfilled role, its own first (R197). -/
def State.settleRoles (s : State) : State :=
  let s1 := basinNums.foldl (fun a n => if becomesSpare a n then a.accrueDerated.setBasin n { a.basin n with st := .spare, role := none, cache := [], waking := false } else a) s
  match s1.lay.active with
  | none => s1
  | some l =>
    basinNums.foldl (fun a n =>
      if (a.basin n).st != .spare then a
      else
        let openRole (r : Nat) : Bool := l.spare != r && !basinNums.any (fun m => (a.basin m).role == some r && (a.basin m).st != .retired)
        match (n :: basinNums).find? openRole with
        | some r => a.beginServing n (some r)
        | none => a) s1

/-- Parked basins wake where the new image breaks the condition of R172 (R173). -/
def State.wakeUnparkable (s : State) : State :=
  basinNums.foldl (fun a n => if (a.basin n).asleep && !parkable a n then a.wake n else a) s

/-- The battery copy of the responses of sources 0 to 6 and 9 (R506). -/
def State.copyResponses (s : State) : State :=
  { s with gro := { s.gro with copy := BitVec.ofNat 32 (([0, 1, 2, 3, 4, 5, 6, 9].map (fun i => min 2 (s.response i) * 2 ^ (2 * i))).sum) } }

/-- The banks swap to the staged image: registers and units that take it at the instant (R32, R36, R50, R187, R322, R550). -/
def State.swapBanks (s : State) (l : Layout) : State :=
  { s with
    lay := { s.lay with active := some l, staged := s.lay.active, image := none, lock := true, drained := false, draining := true
                        slotCommit := true, launchAt := 0, epoch := (s.lay.epoch + 1) % 2 ^ 32, approvedAt := none }
    bsn := { s.bsn with ceil := l.ceilMv }
    tbs := { s.tbs with ppsOffset := l.ppsOffset }
    vlt := { s.vlt with reload := s.vlt.reload || (decide (0 < s.vlt.durable) && !s.vlt.loaded) } }

/-- An approval is held of another image than the one that launches (R37). -/
def approvalVoid (s : State) (l : Layout) : Bool :=
  s.lay.approvedAt.isSome && !(match s.lay.image with | some i => i.digest == l.digest | none => false)

/-- The effect of a LAYOUT launch. -/
def State.layoutLaunch (s0 : State) : State :=
  match s0.lay.staged with
  | none => s0
  | some l =>
    let s := s0.when (approvalVoid s0 l) (fun a => a.layEvent 4)
    let old := s.lay.active
    let s1 := ((s.refillAll.restructure l).dropPf0Queues l).swapBanks l
    let s2 := (s1.clampAll old).layEvent 0
    let s3 := basinNums.foldl (fun a n => if (a.basin n).st == .off then a.bringUp 7 n else a) s2
    let s4 := (s3.settleRoles.noteSuspended s0).wakeUnparkable.copyResponses.endSession.stageWire 66 (natLe 8 (l.passportView.getD 3).toNat)
    s4.gaugeLog 10 8 s4.now (natLe 8 l.serial ++ natLe 4 s4.lay.epoch)

/-! ## The other kinds -/

/-- A fabric access, of a pair or of the debug access port, checked under one Weir set is in flight (R189, R411). -/
def setInFlight (s : State) (b : Bool) : Bool :=
  (match s.wei.debugAcc with | some x => x.set == b | none => false) || s.pairs.any (fun p => (match p.2.load with | some x => x.set == b | none => false) || p.2.stores.any (fun x => x.2.2.1 == b))

/-- The swap has drained (R411). -/
def State.swapDone (s : State) : State :=
  ({ s with wei := { s.wei with drained := true, drainedSwap := s.wei.swapSeq } }).weiEvent 1

/-- The effect of a WEIR_SWAP launch (R409, R411). -/
def State.weirSwap (s : State) (b : Bool) : State :=
  let s1 := ({ s with wei := { s.wei with live := b, swapSeq := (s.wei.swapSeq + 1) % 2 ^ 32, drained := false } }).weiEvent 0
  if setInFlight s1 (!b) then s1 else s1.swapDone

/-- The effect of a BASIN_RETIRE launch (R215). -/
def State.basinRetire (s : State) (b : Nat) : State :=
  let x := s.basin b
  let up := x.serving
  let s1 := s.setBasin b (if up then { x with st := .draining, drainFrom := some s.now, testFor := 0, diagOk := false }
                          else { x with st := .resetting, generation := (x.generation + 1) % 2 ^ 32, drainFrom := none, testFor := 0, diagOk := false })
  let s2 := ((s1.bsnEvent 2).gauFault 15).logBasin b
  if x.st == .spare then (s2.bsnEvent 6).noteSuspended s
  else
    let s3 := s2.callSpare x.role
    (if substituteFor s3 x.role then s3 else s3.moveBacklog b none).noteSuspended s

/-- The effect of a BASIN_ADMIT launch (R216). -/
def State.basinAdmit (s : State) (b : Nat) : State :=
  let s1 := s.resetBasin b true
  s1.setBasin b { s1.basin b with st := .testing, testFor := 2 }

/-- The effect of a BATCH_RELEASE launch (R133). -/
def State.batchRelease (s : State) (x : LaunchEntry) : State :=
  let fq := batchQueue x
  let b := bitsAt x.arg 0 32
  let y := s.queue fq.1 fq.2
  let s1 := s.setQueue fq.1 fq.2 { y with batchRecord := some (b, true, s.now) }
  if y.batchId = b && b ≠ 0 then s1.releaseBatch fq.1 fq.2 s.now else s1

/-- The precondition of an entry (R41, R133, R215, R216, R278, R409). -/
def precondition (s : State) (x : LaunchEntry) : Bool :=
  let h := BitVec.ofNat 64 x.arg
  let b := x.arg % 8
  match x.kind with
  | some .layout => s.lay.stage == .scheduled && !s.lay.draining && s.lay.staged.isSome && s.lay.stagedSerial == x.arg
  | some .weirSwap => s.wei.live != (x.arg % 2 == 1) && s.wei.drainedSwap == s.wei.swapSeq
  | some .keyActivate => (s.record h).isSome && s.keyState h == 0
  | some .keyRetire => (s.record h).isSome && decide (s.keyState h ≤ 2)
  | some .batchRelease => (s.queue (batchQueue x).1 (batchQueue x).2).enabled
  | some .basinRetire => (s.basin b).serving || (s.basin b).st == .parked || (s.basin b).st == .spare
  | some .basinAdmit => (s.basin b).st == .retired && (s.basin b).diagOk
  | none => false

/-- The effect of an entry that fires. -/
def State.launchEffect (s : State) (x : LaunchEntry) : State :=
  match x.kind with
  | some .layout => s.layoutLaunch
  | some .weirSwap => s.weirSwap (x.arg % 2 == 1)
  | some .keyActivate => s.setKeyState (BitVec.ofNat 64 x.arg) 1
  | some .keyRetire => s.setKeyState (BitVec.ofNat 64 x.arg) 3
  | some .batchRelease => s.batchRelease x
  | some .basinRetire => s.basinRetire (x.arg % 8)
  | some .basinAdmit => s.basinAdmit (x.arg % 8)
  | none => s

/-! ## The broadcast (R87 to R91) -/

/-- The launch-fired bit of an entry in every keeper pair, with the LAUNCH interrupt (R451). -/
def State.launchFired (s : State) (n : Nat) : State :=
  (List.range 9).foldl (fun a p =>
    let k := a.pair p
    (a.setPair p { k with lfire := k.lfire ||| BitVec.ofNat 64 (2 ^ n), lfireCount := tabSet k.lfireCount n (min 0xFF (tabGet k.lfireCount n 0 + 1)) }).irq p 4) s

/-- The position of a kind in the order of R89. -/
def kindOrder : Option LaunchKind → Nat
  | some .layout => 0
  | some .weirSwap => 1
  | some .keyRetire => 2
  | some .keyActivate => 3
  | some .basinRetire => 4
  | some .basinAdmit => 5
  | some .batchRelease => 6
  | none => 7

/-- One entry at its instant; `first` when no entry of the instant has fired yet. -/
def State.fireEntry (s : State) (n : Nat) (first : Bool) : State × Bool :=
  let x := s.launch n
  if x.state != .armed then (s, first)
  else if !precondition s x then ((s.endLaunch n .failed 2).tbsEvent 6, first)
  else
    let s1 := if first then { s with slu := { s.slu with launchSeq := (s.slu.launchSeq + 1) % 2 ^ 32 } } else s
    ((((s1.setLaunch n { x with state := .fired, firedAt := s1.now }).launchFired n).launchEffect x), false)

/-- Open verdicts of commands admitted before the launch are to be evaluated afresh; their tags stay those of their admission (R189, R190,
R210). -/
def State.recheckOpen (s : State) : State :=
  let old (c : Cmd) : Bool := c.verdict == .open && c.seq != s.slu.launchSeq
  { s with slu := { s.slu with retire := s.slu.retire.map (fun p => if old p.2 then (p.1, { p.2 with recheck := true }) else p) } }

/-- The device states in which an instant passes without firing (R91). -/
def noLaunch (s : State) : Bool := let o := s.gateOp; o == .booting || o == .sealed || o == .restoreOnly || o == .halted

/-- An entry that is MISSED (R42, R91, R134). -/
def State.missEntry (s : State) (n : Nat) : State :=
  let x := s.launch n
  let s1 := (s.endLaunch n .missed 1).tbsEvent 5
  if x.kind == some .layout then s1.layClear.layEvent 3 else s1

/-- The earliest instant that has come, among the ARMED entries. -/
def dueInstant (s : State) : Option Nat :=
  ((s.armed.map (·.instant)).filter (fun t => decide (t ≤ s.now))).foldl (fun b t => match b with | none => some t | some u => some (min t u)) none

/-- The entries of an instant in kind order, lowest number first within a kind. -/
def entriesAt (s : State) (t : Nat) : List Nat :=
  let l := launchNums.filter (fun n => (s.launch n).state == .armed && (s.launch n).instant == t)
  ((List.range 7).map (fun k => l.filter (fun n => kindOrder (s.launch n).kind == k))).flatten

/-- One firing instant; parked basins wake where it takes a pool's backlog over the threshold (R173). -/
def State.fireInstant (s : State) (t : Nat) : State :=
  let l := entriesAt s t
  if noLaunch s then l.foldl (fun a n => a.missEntry n) s
  else
    let r := l.foldl (fun (a : State × Bool) n => a.1.fireEntry n a.2) (s, true)
    (if r.2 then r.1 else r.1.recheckOpen).wakeForBacklog

/-- LAUNCH_INSTANT (R87 to R91): the entries of the earliest instant that has come. -/
def execLaunchInstant (s : State) : Host.Outcome State Fault Refusal :=
  match dueInstant s with
  | none => .next s
  | some t => .next (s.fireInstant t)

/-! ## Commit and drains (R36 steps 8 and 9, R46, R193, R411) -/

/-- LAYOUT_SLOT_COMMIT (R36 step 8): the slot that was loaded becomes the active one in MRAM. -/
def execLayoutSlotCommit (s : State) : Host.Outcome State Fault Refusal :=
  match s.lay.active with
  | none => .next s
  | some l =>
    if !s.lay.slotCommit then .next s
    else
      let k := match s.fnt.activeSlot with | some b => !b | none => false
      .next { s with
        lay := { s.lay with slotCommit := false, slot := k, activeSerial := l.serial }
        fnt := { s.fnt with layoutSlots := tabSet s.fnt.layoutSlots (bitNat k) s.lay.loading, activeSlot := some k, savedEpoch := max s.fnt.savedEpoch s.lay.epoch } }

/-- No fabric load and no debug access checked under an earlier epoch is in flight (R193); the drain's own row says that the earlier stores are
acknowledged. -/
def checksDrained (s : State) (e : Nat) : Bool :=
  (match s.wei.debugAcc with | some x => decide (e ≤ x.epoch) | none => true) && s.pairs.all (fun p => match p.2.load with | some x => decide (e ≤ x.epoch) | none => true)

/-- Fabric stores that satisfy a condition have been acknowledged. -/
def State.ackStores (s : State) (c : Nat × Bytes × Bool × Nat × BitVec 32 → Bool) : State :=
  { s with pairs := s.pairs.map (fun (p : Nat × KPair) => (p.1, { p.2 with stores := p.2.stores.filter (fun x => !c x) })) }

/-- No fabric load of a pair and no debug access checked under one Weir set is in flight. -/
def loadsDrained (s : State) (b : Bool) : Bool :=
  (match s.wei.debugAcc with | some x => x.set != b | none => true) && s.pairs.all (fun p => match p.2.load with | some x => x.set != b | none => true)

/-- No write of a command of an earlier epoch is held (R193). -/
def writesIssued (s : State) (e : Nat) : Bool := s.queues.all (fun p => p.2.heldOut.all (fun w => w.issued || decide (e ≤ w.epoch)))

/-- EPOCH_DRAINED (R36 step 9, R46, R193). -/
def execEpochDrained (s : State) : Host.Outcome State Fault Refusal :=
  let e := s.lay.epoch
  if s.lay.draining && !s.lay.slotCommit && writesIssued s e && checksDrained s e
      && s.slu.retire.all (fun p => decide (e ≤ p.2.epoch))
      && basinNums.all (fun n => match (s.basin n).cas.wipeFor with | some w => !(s.basin n).cas.wiping || decide (e ≤ w.1) | none => true) then
    let l := { s.lay with draining := false }
    let s1 := s.ackStores (fun x => decide (x.2.2.2.1 < e))
    .next ((({ s1 with lay := { layCleared l with drained := true, drainedEpoch := e } }).layEvent 1).settleRoles)
  else .next s

/-- The newest launch sequence with no command, held write or Cascade wipe of an earlier one left. -/
def newestDrained (s : State) : Nat :=
  let live := s.slu.retire.map (fun p => p.2.seq) ++ (s.queues.map (fun p => (p.2.heldOut.filter (fun w => !w.issued)).map (·.seq))).flatten
  let wipes := basinNums.filterMap (fun n => if (s.basin n).cas.wiping then (s.basin n).cas.wipeFor.map (fun w => w.2.1) else none)
  (live ++ wipes).foldl min s.slu.launchSeq

/-- LAUNCH_SEQUENCE_DRAINED (R193). -/
def execLaunchSequenceDrained (s : State) : Host.Outcome State Fault Refusal :=
  let n := newestDrained s
  if s.slu.drainedSeq < n then .next (({ s with slu := { s.slu with drainedSeq := n } }).raEvent 0) else .next s

/-- SWAP_DRAINED (R411). -/
def execSwapDrained (s : State) : Host.Outcome State Fault Refusal :=
  if s.wei.drainedSwap != s.wei.swapSeq && loadsDrained s (!s.wei.live) then
    .next (s.ackStores (fun x => x.2.2.1 != s.wei.live)).swapDone
  else .next s

end Sys2Proof.Machine
end

