-- ==== Sys2Proof/Machine/LifeCycle.lean ====
section
/-! DEFINITION. Life cycle (R476 to R480), authority certificates (R493 to R495) and firmware images (R484): checks and effects. -/

namespace Sys2Proof.Machine

/-! ## Life-cycle transitions (R476, R477) -/

/-- The word of a life-cycle code (R476). -/
def lifeWordOf (code : Nat) : BitVec 64 :=
  if code = 0 then 0 else if code = 1 then 0xFF else if code = 2 then 0xFFFF else if code = 3 then 0xFFFFFF else if code = 4 then 0xFFFFFFFF
  else BitVec.allOnes 64

/-- A transition of R477: its signer (0 Brynlum CA, 1 owner) and whether M custodians approve. -/
def transition (from_ tgt : Nat) : Option (Nat × Bool) :=
  if (from_, tgt) = (0, 1) || (from_, tgt) = (1, 2) || (from_, tgt) = (2, 3) || (from_, tgt) = (4, 5) || (from_, tgt) = (2, 5) then some (0, false)
  else if (from_, tgt) = (3, 3) || (from_, tgt) = (3, 4) || (from_, tgt) = (3, 5) then some (1, true)
  else none

/-- The life-cycle code now. -/
def State.life (s : State) : Nat := lifeCode s.fnt.lifeWord

/-- OWNER_COUNT. -/
def State.ownerCount (s : State) : Nat := s.fnt.owners.length

/-- The owner's paired public key, from the active Layout or the MRAM slot that the active-slot pointer names (R29). -/
def State.ownerKey (s : State) : Bytes :=
  match s.lay.active with
  | some l => l.ownerKey
  | none => match s.fnt.activeSlot with
    | some k => (match tabFind s.fnt.layoutSlots (bitNat k) with | some img => sectionOf img 0xF | none => [])
    | none => []

/-! ## Authority certificates (R493, R494) -/

def certKind (c : Bytes) : Nat := field c 6 1
def certSigner (c : Bytes) : Nat := field c 7 1
def certFrom (c : Bytes) : Nat := field c 0x16 1
def certTo (c : Bytes) : Nat := field c 0x17 1
def certNotBefore (c : Bytes) : Nat := field c 0x18 8
def certNotAfter (c : Bytes) : Nat := field c 0x20 8
def certSerial (c : Bytes) : Nat := field c 0x28 8
def certOwnerDigest (c : Bytes) : Bytes := slice c 0x30 48

/-- Its format (reason 1 of R494). -/
def certFormat (kind : Nat) (c : Bytes) : Bool :=
  c.length == 3885 && field c 0 4 == 0x4344584F && field c 4 2 == 1 && certKind c == kind && certSigner c ≤ 1
    && allZero (slice c 0x60 32) && allZero (slice c 0x1A0 96)
    && (kind == 2 || (certFrom c == 0 && certTo c == 0))
    && ((kind == 2 && certTo c == 3) || allZero (certOwnerDigest c))

/-- Its paired signature verifies under the signer's key (reason 2). -/
def certSignature (s : State) (c : Bytes) : Bool :=
  pairedValid (if certSigner c = 1 then s.ownerKey else Config.caKey) (ascii "OX-DEBUGCERT") (c.take 0x200) (slice c 0x200 3373)

/-- The signer is the right one (reason 3). -/
def certSignerOk (s : State) (kind : Nat) (c : Bytes) : Bool :=
  if kind = 2 then (match transition (certFrom c) (certTo c) with | some t => t.1 == certSigner c | none => true)
  else if s.life = 3 then certSigner c == 1
  else if [1, 2, 4].contains s.life then certSigner c == 0
  else true

/-- On-die SRAM of the fabric map (R398, R412): the basins', the staging and Fountainhead's. -/
def inOnDieSram (base size : Nat) : Bool :=
  (decide (0x10000000 ≤ base) && decide (base + size ≤ 0x12000000)) || (decide (0x20000000 ≤ base) && decide (base + size ≤ 0x21400000))

/-- A region entry keeps R407 and R412. -/
def certRegionOk (e : Bytes) : Bool :=
  let l := field e 8 1
  if l = 0 then allZero e
  else decide (12 ≤ l) && decide (l ≤ 36) && field e 0 8 % 2 ^ l == 0 && inOnDieSram (field e 0 8) (2 ^ l) && decide (field e 9 1 ≤ 3)
    && decide (field e 0xA 1 ≤ 3) && allZero (e.drop 0xB)

/-- The rights a debug certificate asks for keep R412 (reason 8). -/
def certRights (c : Bytes) : Bool :=
  (entriesOf 16 (slice c 0xA0 256)).all certRegionOk && decide (field c 0x80 16 < 2 ^ 35) && decide (field c 0x90 16 < 2 ^ 35)

/-- A held DEBUG approval names this certificate (reason 7). -/
def debugApproved (s : State) (c : Bytes) : Bool :=
  match s.fnt.session with
  | some x => x.purpose == 3 && x.held && x.subject == padTo 48 (Config.sha384 c)
  | none => false

/-- The first reason of R494 for which validation fails, none where the certificate validates. -/
def certReason (s : State) (kind : Nat) (c : Bytes) : Option Nat :=
  if !certFormat kind c then some 1
  else if !certSignature s c then some 2
  else if !certSignerOk s kind c then some 3
  else if field c 8 8 ≠ s.fnt.serial || field c 0x10 4 ≠ s.ownerCount || field c 0x14 2 ≠ s.tbs.era then some 4
  else if s.now < certNotBefore c || certNotAfter c < s.now || (kind = 1 && 2592000000000000 < certNotAfter c - certNotBefore c) then some 5
  else if kind = 2 && (certFrom c ≠ s.life || (transition (certFrom c) (certTo c)).isNone || (certTo c = 3 && 4 ≤ s.ownerCount)) then some 6
  else if kind = 1 && s.life = 3 && !debugApproved s c then some 7
  else if kind = 1 && !certRights c then some 8
  else none

/-- The rights of a debug certificate (R412). -/
def certDebug (c : Bytes) : DebugRights :=
  { serial := certSerial c, notAfter := certNotAfter c, era := field c 0x14 2
    slotRd := BitVec.ofNat 128 (field c 0x80 16), slotWr := BitVec.ofNat 128 (field c 0x90 16)
    regions := (entriesOf 16 (slice c 0xA0 256)).map parseRegion }

/-- Remove the installed debug certificate (R495). -/
def State.removeDebug (s : State) : State :=
  if s.wei.dbg.isSome then ({ s with wei := { s.wei with dbg := none } }).fntEvent 6 else s

/-! ## Effects (R478, R479) -/

/-- The key region is cleared: every record goes, and the change of each persistent one reaches the mirror (R318). -/
def State.clearKeyRegion (s : State) : State :=
  s.cis.records.foldl (fun a p => ((a.freeRecord p.1).dropCopies p.2.handle).mirrorSlots p.1 p.2) s

/-- The IDENTITY record (R549). -/
def identityBytes (s : State) : Bytes :=
  padTo 64 (natLe 4 0x5050584F ++ natLe 2 1 ++ natLe 2 0 ++ natLe 8 s.fnt.serial ++ natLe 4 0xA0 ++ padTo 32 (dikDigest s) ++ natLe 4 s.ownerCount)

/-- A device key's material (R482). -/
def keyMaterial (alg : Nat) (rnd : Bytes) : Bytes := ((makePair alg rnd).map (·.2)).flatten

/-- The DAK certificate of KIND 3 (R386): signed by the DIK; ISSUED is an open value (log entry 1). -/
def dakCertOf (s : State) (issued rnd : Bytes) : Bytes :=
  let head := natLe 4 0x4349584F ++ natLe 2 1 ++ natLe 1 3 ++ natLe 1 0 ++ natLe 8 s.fnt.serial ++ issued ++ natLe 4 s.ownerCount ++ natLe 4 0
    ++ padTo 48 (dikDigest s) ++ padTo 48 s.ownerDigest ++ padTo 1984 (publicEncoding 0x38 (pairedComps s.fnt.dak))
  head ++ pairedSign (pairedComps s.fnt.dik) (ascii "OX-IDENTITY") head rnd

/-- Random bytes that a transition's fresh request draws (R478, R482): the DIK; or the root half, the DAK, SRK and the signature. -/
def lifeDraw (tgt : Nat) : Nat := if tgt = 2 then 64 else if tgt = 3 then 160 else 0

/-- Effects of TEST to MANUFACTURED: the fused secrets, DEVICE_SERIAL and the manufacturer code are open values (log entry 1). -/
def State.manufacture (s : State) (rnd : Bytes) : State :=
  let a := s.freeBytes 32
  let b := a.2.freeBytes 32
  let c := b.2.freeBits 64
  let d := c.2.freeBits 8
  let t := d.2
  let t1 := { t with
    fnt := { t.fnt with dus := a.1, wts := b.1, serial := c.1.toNat, dik := keyMaterial 0x38 (rnd.take 64) }
    psp := { t.psp with mfr := d.1 } }
  t1.stageWire 0 (identityBytes t1)

/-- The ownership effects (R478): the root half, with which Cistern forms the keys that wrap what follows (log entry 48), the cleared escrow and key region, the new DAK and SRK; a debug certificate is
removed (R495). -/
def State.ownership (s : State) (rnd : Bytes) : State :=
  let s1 := s.removeDebug.clearKeyRegion
  let s2 := { s1 with
    gro := { s1.gro with rootHalf := some (rnd.take 32), retained := true }
    cis := { s1.cis with rootReady := true }
    fnt := { s1.fnt with escrow := none, dak := keyMaterial 0x38 (slice rnd 32 64), srk := keyMaterial 0x22 (slice rnd 96 32) } }
  let i := s2.freeBytes 8
  let t := i.2
  let t1 := { t with fnt := { t.fnt with dakCert := dakCertOf t i.1 (slice rnd 128 32) } }
  t1.stageWire 0 (identityBytes t1)

/-- Erase the Reservoir and the escrow, destroy DAK and SRK, clear both Layout slots (R477). -/
def State.toRma (s : State) : State :=
  let s1 := s.wipeReservoir.layClear
  { s1 with fnt := { s1.fnt with escrow := none, dak := [], srk := [], dakCert := [], layoutSlots := [], activeSlot := none } }

/-- Erase the Reservoir and every MRAM region except Gauge (R477). -/
def State.toScrap (s : State) : State :=
  let s1 := s.wipeReservoir.layClear
  { s1 with
    fnt := { s1.fnt with escrow := none, pendingLc := none, dik := [], dikCert := [], dak := [], dakCert := [], srk := [], staged := [], running := 0
                         runningDigest := [], runningRollback := 0, keeperVersion := 0, keeperDigest := [], layoutSlots := [], activeSlot := none
                         savedEpoch := 0 }
    cis := { s1.cis with journal := [] }
    vlt := { s1.vlt with mirrorSeq := 1, seqMark := 1, durable := 0, hDurable := 0, h := 0, written := [], pOf := [] }
    ccb := { s1.ccb with timeFloor := 0 }
    tbs := { s1.tbs with era := 0 }
    nvm := s1.nvm.filter (fun c => decide (0x31000000 ≤ c.1)) }

/-- Step 4 of R479. -/
def State.lifeEffects (s : State) (tgt : Nat) (rnd : Bytes) : State :=
  if tgt = 2 then s.manufacture rnd else if tgt = 3 then s.ownership rnd else if tgt = 4 then s.toRma else if tgt = 5 then s.toScrap else s

/-- Steps 2 to 5 of R479: the bits only set, the owner slot is burnt unless it already is, the effects, the record goes. -/
def State.lifeBurn (s : State) (c rnd : Bytes) : State :=
  let word := s.fnt.lifeWord ||| lifeWordOf (certTo c)
  let owners := if certTo c = 3 && s.ownerCount ≤ field c 0x10 4 then s.fnt.owners ++ [certOwnerDigest c] else s.fnt.owners
  let s1 := { s with fnt := { s.fnt with lifeWord := word, owners := owners } }
  let s2 := s1.lifeEffects (certTo c) rnd
  ({ s2 with fnt := { s2.fnt with pendingLc := none } }).gaugeLog 8 8 s2.now (natLe 1 (certFrom c) ++ natLe 1 (certTo c))

/-- A LIFE_CYCLE commit (R479): the certificate is the pending record while the steps run. -/
def State.lifeCommit (s : State) (c rnd : Bytes) : State :=
  (({ s with fnt := { s.fnt with pendingLc := some c } }).lifeBurn c rnd).fntEvent 0

/-- Every byte of a has only bits that b has. -/
def bitsInside (a b : Bytes) : Bool := (List.zip a b).all (fun p => p.1 &&& ~~~ p.2 == 0)

/-- Every burnt bit is also set in the record's target values (R479). -/
def pendingFits (s : State) (c : Bytes) : Bool :=
  (s.fnt.lifeWord &&& ~~~ lifeWordOf (certTo c)) == 0
    && (certTo c != 3 || s.ownerCount ≤ field c 0x10 4 || bitsInside s.ownerDigest (certOwnerDigest c))

/-- A pending record at a boot or a restart of the pair (R479): completed, or deleted where its verification fails. Key material
drawn for a completion is an open value (log entry 1), since no DRBG is seeded at step 2 of R561. -/
def State.completePending (s : State) : State :=
  match s.fnt.pendingLc with
  | none => s
  | some c =>
    if !(certFormat 2 c && certSignature s c) then { s with fnt := { s.fnt with pendingLc := none } }
    else if pendingFits s c then
      let r := s.freeBytes (lifeDraw (certTo c))
      (r.2.lifeBurn c r.1).fntEvent 1
    else s

/-! ## Firmware images (R484, R485) -/

def fwCodeLen (b : Bytes) : Nat := field b 0xC 4

/-- A firmware image of a kind keeps the format of R484. -/
def fwFormat (kind : Nat) (b : Bytes) : Bool :=
  field b 0 4 == 0x5746584F && field b 4 2 == 1 && field b 6 1 == kind && decide (field b 7 1 ≤ 64) && fwCodeLen b % 16 == 0
    && decide (fwCodeLen b ≤ 786432) && decide (b.length ≤ 1048576) && allZero (slice b 0x14 12) && b.length == 0x20 + fwCodeLen b + 3373

/-- The signed part of an image. -/
def fwMessage (b : Bytes) : Bytes := b.take (0x20 + fwCodeLen b)

/-- The anti-rollback count of a kind. -/
def State.rollbackOf (s : State) (kind : Nat) : Nat := if kind = 0 then s.fnt.rbKeeper else s.fnt.rbFnt

/-- The SHA-384 of a firmware image. -/
def fwDigestOf (b : Bytes) : Bytes := padTo 48 (Config.sha384 b)

end Sys2Proof.Machine
end

