-- ==== Sys2Proof/Machine/BootOps.lean ====
section
/-! DEFINITION. What resets leave (R93, R564, R565) and the boot sequence (R561, R562), step by step. -/

namespace Sys2Proof.Machine

/-! ## Resets (R564) -/

/-- MRAM and OTP words of Fountainhead; a complete applet stays staged (R485). -/
def survivingFnt (f : FntState) : FntState :=
  { lifeWord := f.lifeWord, owners := f.owners, serial := f.serial, dus := f.dus, wts := f.wts, rbKeeper := f.rbKeeper, rbFnt := f.rbFnt
    pendingLc := f.pendingLc, escrow := f.escrow, sessions := f.sessions, running := f.running, runningDigest := f.runningDigest
    runningRollback := f.runningRollback, keeperVersion := f.keeperVersion, keeperDigest := f.keeperDigest, dik := f.dik, dak := f.dak
    dakCert := f.dakCert, srk := f.srk, dikCert := f.dikCert, layoutSlots := f.layoutSlots, activeSlot := f.activeSlot, savedEpoch := f.savedEpoch
    staged := f.staged.filter (fun x => x.1 == 2 && x.2.complete) }

/-- The battery domain, OTP fuses and an open event of Grotto (R506, R508). -/
def survivingGro (g : GroState) : GroState :=
  { sticky := g.sticky, floors := g.floors, copy := g.copy, disabled := g.disabled, counts := g.counts, beb := g.beb, bebNewest := g.bebNewest
    bebValid := g.bebValid, sealBit := g.sealBit, rootHalf := g.rootHalf, retained := g.retained, night := g.night, nightFrac := g.nightFrac, sync := g.sync
    holdupOk := g.holdupOk, vbat := g.vbat, active := g.active, assertedAt := g.assertedAt, endedAt := g.endedAt, samples := g.samples, open_ := g.open_ }

/-- An instant as Grotto's clock has it once the device is down: as old as before (log entry 169). -/
def downInstant (s : State) (t : Nat) : Nat := startValue s + t - groNow s

/-- The battery domain's instants when a reset takes the device down; an event keeps its original timestamp (R508). -/
def groDown (s : State) : GroState :=
  let g := survivingGro s.gro
  let move (l : Tab Nat) : Tab Nat := (l.filter (fun p => decide (groNow s ≤ startValue s + p.2))).map (fun p => (p.1, downInstant s p.2))
  { g with
    active := g.active &&& 0x0FFF, assertedAt := move g.assertedAt, endedAt := move g.endedAt
    open_ := g.open_.map (fun v => { v with opened := min v.opened (startValue s), items := v.items.map (fun i => { i with asserted := downInstant s i.asserted }) }) }

/-- The committed accumulator copy with the higher COMMIT_SEQ (R515). -/
def newestCopy (g : GauState) : GaugeAcc :=
  let a := tabGet g.copies 0 {}
  let b := tabGet g.copies 1 {}
  if a.commitSeq < b.commitSeq then b else a

/-- Gauge's MRAM region (R515). -/
def survivingGau (g : GauState) : GauState :=
  { acc := newestCopy g, copies := g.copies, events := g.events, eventSeq := g.eventSeq, summaries := g.summaries, summarySeq := g.summarySeq
    srcSeqs := g.srcSeqs, hourBase := newestCopy g, secondMark := g.secondMark }

/-- The FRAM and the tag, which the field powers (R538, R551). -/
def survivingPsp (p : PspState) : PspState :=
  { records := p.records, notes := p.notes, counters := p.counters, view := p.view, pws := p.pws, fails := p.fails, mfr := p.mfr
    field := p.field, quiet := p.quiet, selected := p.selected, auth := p.auth, fieldBusy := p.fieldBusy }

/-- A loaded, approved, staged or scheduled image has not launched, or its launch has not reached step 8 of R36 (R48). -/
def unlaunched (l : LayState) : Bool :=
  l.slotCommit || ((l.stage == .verified || l.stage == .approved || l.stage == .staged || l.stage == .scheduled) && !l.draining)

/-- What a power-on reset leaves (R564). -/
def State.powerReset (s : State) : State :=
  { State.reset with
    fnt := survivingFnt s.fnt, gro := { groDown s with event := if s.pwr.main then {} else s.gro.event }, gau := survivingGau s.gau, psp := survivingPsp s.psp
    tbs := { era := s.tbs.era }
    cis := { journal := s.cis.journal }
    vlt := { mirrorSeq := s.vlt.seqMark, seqMark := s.vlt.seqMark, durable := s.vlt.durable, hDurable := s.vlt.hDurable, h := s.vlt.hDurable }
    ccb := { timeFloor := s.ccb.timeFloor }
    nvm := s.nvm
    ports := [(0, { perst := (s.port false).perst }), (1, { perst := (s.port true).perst })]
    pwr := { x16 := s.pwr.x16, main := s.pwr.main, tableLost := s.pwr.tableLost || !s.armed.isEmpty, stageLost := s.pwr.stageLost || unlaunched s.lay }
    out := s.out, freeCtr := s.freeCtr, pending := s.pending }

/-- What a warm device reset leaves (R565): also the Timebase count and the strap; the links train again; steps start at 2. -/
def State.warmReset (s : State) : State :=
  let t := s.powerReset
  { t with
    gro := { t.gro with active := s.gro.active, assertedAt := s.gro.assertedAt, endedAt := s.gro.endedAt, open_ := s.gro.open_ }
    tbs := { t.tbs with now := s.tbs.now, frac := s.tbs.frac, continuity := s.tbs.continuity, refOk := s.tbs.refOk, refSuspended := s.tbs.refSuspended
                        refBack := s.tbs.refBack, ran := s.tbs.ran, syncMark := s.tbs.syncMark }
    vlt := { t.vlt with dies := s.vlt.dies.map (fun (p : Nat × Die) => (p.1, ({ lost := p.2.lost } : Die))) }
    ports := [(0, { perst := (s.port false).perst, training := !(s.port false).perst }), (1, { perst := (s.port true).perst, training := !(s.port true).perst })]
    spg := { srcA := { settle := some (s.now + 1000000) }, srcB := { settle := some (s.now + 1000000) } }
    pwr := { t.pwr with warm := true, bootStep := 2, bootFrom := s.now } }

/-! ## The steps of R561 -/

/-- Step 1: the Timebase PLL locks; the ports whose PERST is released train (R563). -/
def State.bootOne (s : State) : State :=
  { s with
    tbs := { s.tbs with refOk := true }
    ports := s.ports.map (fun (p : Nat × PortState) => (p.1, { p.2 with training := !p.2.perst })) }

/-- Step 2: a pending record completes; INVALID and SCRAP are HALTED (R479, R480). -/
def State.bootTwo (s : State) : State :=
  let s1 := s.completePending
  if s1.life = 5 || s1.life = 0xF then s1.halt else s1.pins

/-- Step 3: POWER_CYCLES (R514) and the boot tag key (R415). -/
def State.bootThree (s : State) : State :=
  let s1 := (s.gauAcc (fun a => { a with cycles := sat32 (a.cycles + 1) })).gauCommit
  { s1 with wei := { s1.wei with key := (Config.kdf s1.fnt.wts (ascii "OX-WTB") (natBe 4 s1.gau.acc.cycles) 32).take 16, keyIndex := false } }

/-- The Timebase takes the start value of R76, and the instants that stand since the release move with it. A battery domain that kept its contents
but holds no sync pair starts as one that did not keep them (DESIGN CHOICE, log entry 148). -/
def State.loadTimebase (s : State) : State :=
  let t := startValue s
  let later (x : Source) : Source := { x with settle := x.settle.map (· + t - s.now) }
  if s.gro.retained && s.gro.sync.isSome then
    { s with
      tbs := { s.tbs with now := t, continuity := true, syncMark := t / 2 ^ 30 }
      bsn := { s.bsn with windowMark := t / 4096, periodMark := t / 65536 }
      spg := { s.spg with srcA := later s.spg.srcA, srcB := later s.spg.srcB }
      gau := { s.gau with commitAt := s.gau.commitAt + t - s.now }
      pwr := { s.pwr with bootFrom := s.pwr.bootFrom + t - s.now } }
  else { s with tbs := { s.tbs with now := 0, continuity := false, era := (s.tbs.era + 1) % 65536, syncMark := 0 } }

/-- The bits of a GRO_BEB_i entry. -/
def Beb.bits (b : Beb) : Nat :=
  b.source % 16 + b.response % 4 * 16 + bitNat b.corroborated * 64 + b.night % 2 ^ 48 * 2 ^ 16 + b.cycles % 2 ^ 32 * 2 ^ 64

/-- The valid battery entries, oldest first. -/
def GroState.bebList (g : GroState) : List Beb :=
  (List.range g.bebValid).map (fun i => tabGet g.beb ((g.bebNewest + 16 + 1 - g.bebValid + i) % 16) {})

/-- Gauge already holds a battery entry (R510). -/
def gaugeHolds (s : State) (b : Beb) : Bool :=
  s.gau.events.any (fun e => e.kind == 2 && e.source == 13 && e.detail.take 16 == natLe 16 b.bits)

/-- Gauge's TAMPER accumulators take the counter values (R510, R516). -/
def State.copyCounters (s : State) : State :=
  s.gauAcc (fun a => { a with tamper := (List.range 16).foldl (fun t i =>
    if tabGet t i 0 < tabGet s.gro.counts i 0 then tabSet t i (tabGet s.gro.counts i 0) else t) a.tamper })

/-- Copy the battery entries to Gauge and clear the buffer (R510). -/
def State.copyBattery (s0 : State) : State :=
  let s := s0.copyCounters
  let l := s.gro.bebList
  let s1 := l.foldl (fun a b => if gaugeHolds a b then a else ((a.gaugeLog 2 13 b.night (natLe 16 b.bits)).gauMisc 8)) s
  let s2 := { s1 with gro := { s1.gro with beb := [], bebNewest := 0, bebValid := 0 } }
  if l.isEmpty then s2 else s2.groEvent 4

/-- Step 4: the battery-domain check (R511), the Timebase (R76), TABLE_LOST (R93) and the battery entries (R510). -/
def State.bootFour (s : State) : State :=
  let s1 := if s.gro.retained then s else s.groEvent 5
  let s2 := if s1.pwr.warm then s1 else s1.loadTimebase
  let s3 := if s2.pwr.tableLost then ({ s2 with pwr := { s2.pwr with tableLost := false } }).tbsEvent 7 else s2
  ({ s3 with gro := { s3.gro with retained := true } }).copyBattery

/-- Step 6: the dies train, each at the highest rate that its training finds, which is open; one that trains at no rate is lost, and a lost one stays out
until a power-on reset (R298, R312, R323; log entry 158). -/
def State.bootSix (s : State) : State :=
  let v := s.freeBits 8
  let s1 := { v.2 with vlt := { s.vlt with
    dies := ([0, 1, 2, 3] : List Nat).map (fun d => (d, { s.die d with present := !(s.die d).lost, rate := if (s.die d).lost then 0 else bitsAt v.1.toNat (2 * d) 2 })) } }
  (([0, 1, 2, 3] : List Nat).foldl (fun a d => if (a.die d).present && (a.die d).rate = 0 then a.loseDie d else a) s1).markLost

/-- Step 7: the Fountainhead image, which MRAM holds as it was accepted, against its anti-rollback count (R484); the pair restarts
on it (log entry 28). -/
def State.bootSeven (s : State) : State :=
  if s.fnt.runningRollback < s.fnt.rbFnt then s.halt else s.setPair 8 {}

/-- The checks of R29 on an image that a boot restores (R49): a half of the signature, the owner key. -/
def bootImageFails (s : State) (img : Bytes) : Option Reject :=
  lowest (need (signatureOk img) 4 0 0 ++ need (ownerOkImage s (parseLayout img)) 5 0xF 0)

/-- Step 8: an unlaunched image is gone, the active image is verified and restored, and the view mask and response copy rewritten
(R48, R49, R50, R188, R506, R550). -/
def State.bootEight (s0 : State) : State :=
  let s := if s0.pwr.stageLost then ({ s0 with pwr := { s0.pwr with stageLost := false } }).layEvent 3 else s0
  let done := { s with fnt := { s.fnt with bootDone := true } }
  match s.fnt.activeSlot with
  | none => done.copyResponses
  | some k =>
    match tabFind s.fnt.layoutSlots (bitNat k) with
    | none => done.copyResponses
    | some img =>
      match bootImageFails s img with
      | some r => (({ done with lay := { done.lay with rejCause := r.1, rejSection := r.2.1, rejEntry := r.2.2 } }).layEvent 2).copyResponses
      | none =>
        let l := parseLayout img
        let e := (s.fnt.savedEpoch + 1) % 2 ^ 32
        ({ done with
          lay := { done.lay with active := some l, lock := true, slot := k, activeSerial := l.serial, epoch := e, drainedEpoch := e }
          fnt := { done.fnt with savedEpoch := e }
          bsn := { done.bsn with ceil := l.ceilMv }
          tbs := { done.tbs with ppsOffset := l.ppsOffset } }).copyResponses.stageWire 66 (natLe 8 (l.passportView.getD 3).toNat)

/-- The boot state that ends the sequence after step 8, if any (R510, R562). The Reservoir holds no root half before OWNED (R282), and
is then not an erased one (log entry 48). -/
def bootState (s : State) : Option OpState :=
  if s.gro.rootHalf.isNone && 3 ≤ s.life then some .restoreOnly else if s.gro.sealBit then some .sealed else none

/-- Step 9: Cistern forms RWK (R283). -/
def State.formKeys (s : State) : State := { s with cis := { s.cis with rootReady := s.gro.rootHalf.isSome } }

/-- Step 10: NB is drawn and the line keys form; a reload is required where a Layout is active (R322, R323). -/
def State.unlockVault (s : State) (nb : Bytes) : State :=
  { s with
    vmem := {}
    vlt := { s.vlt with
      unlocked := true, nb := nb, generation := 1, reload := s.lay.active.isSome, rlState := 0, rlCause := 0, rlHead := 0
      rlSlots := [], rlSum := 0, tail := 0, endSet := false
      mirrorSeq := s.vlt.seqMark, h := s.vlt.hDurable, written := [], pOf := [], dirty := [], rewrap := false, ackPending := false, loaded := s.lay.active.isNone && s.vlt.durable == 0 } }

/-- Step 11: every basin that the Layout names comes up and is tested. -/
def State.bootBasins (s : State) : State :=
  match s.lay.active with
  | none => s
  | some _ => basinNums.foldl (fun a n => if (a.basin n).st == .off then a.bringUp 5 n else a) s

/-- The end of the sequence: with no active Layout the device serves; else SERVING follows RELOAD_DONE (R481, R562). -/
def State.bootEnd (s : State) : State :=
  let s1 := { s with pwr := { s.pwr with bootStep := 13 } }
  if s1.lay.active.isNone then s1.setOp .serving else s1.bootBasins

/-- Draw NB from DRBG 8 once Spring is seeded and the dies are up; none where the vault waits. -/
def State.bootTen (s : State) : Option State :=
  if !s.spg.seeded then none
  else match s.draw 8 16 with
    | some r => some (r.2.unlockVault r.1)
    | none => none

/-- One step of the sequence: the state after it, or none where it waits. Steps 5 and 6 run beside their neighbours: 5 is Spring's
own, and 10 waits for it. -/
def State.bootStepRun (s : State) (n : Nat) : Option State :=
  if n = 1 then some s.bootOne
  else if n = 2 then some s.bootTwo
  else if n = 3 then some s.bootThree
  else if n = 4 then some s.bootFour
  else if n = 6 then some s.bootSix
  else if n = 7 then some s.bootSeven
  else if n = 8 then some s.bootEight
  else if n = 9 then some s.formKeys
  else if n = 10 then s.bootTen
  else some s

/-- Run the sequence from its present step as far as it goes; `k` bounds the steps. -/
def State.bootRun : Nat → State → State
  | 0, s => s
  | k + 1, s =>
    let n := s.pwr.bootStep
    if 13 ≤ n then s
    else if n = 11 then s.bootEnd
    else
      match s.bootStepRun n with
      | none => s
      | some t =>
        let t1 := { t with pwr := { t.pwr with bootStep := n + 1 } }
        if t1.fnt.op == .halted then { t1 with pwr := { t1.pwr with bootStep := 13 } }
        else if n = 8 then
          match bootState t1 with
          | some o => t1.setOp o
          | none => State.bootRun k t1
        else State.bootRun k t1

/-- A sequence that waits at step 10 for Spring goes on (R474, R561). -/
def State.bootOn (s : State) : State :=
  if s.fnt.op == .booting && s.pwr.bootStep == 10 && !s.pwr.por && s.pwr.main then State.bootRun 13 s else s

/-- The device passes through BOOTING again after an unseal or a restore, from step 9 on; a restore with the seal bit set enters SEALED
(R283, R324, R481, R490, R492, R504, R562). -/
def State.bootAgain (s : State) : State :=
  let s1 := s.setOp .booting
  match bootState s1 with
  | some o => s1.setOp o
  | none => State.bootRun 13 { s1 with pwr := { s1.pwr with bootStep := 9 } }

end Sys2Proof.Machine
end

