-- ==== Sys2Proof/Machine/Quorum.lean ====
section
/-! DEFINITION. Fountainhead's commands and events (21): quorum sessions, commits, debug certificates, firmware staging, restarts and
VAULT.RESTORE. -/

namespace Sys2Proof.Machine

/-! ## Commands that share an opcode -/

/-- Execute an entry's command when it may and it is the form named. -/
def State.runIf (s : State) (e op : Nat) (form : Cmd → Bool) (f : Cmd → Answer × State) : State :=
  match s.ready e (· == op) with
  | none => s
  | some c =>
    if form c then
      let r := f c
      r.2.finish e r.1
    else s

/-! ## GF(2^8) and the shares of BK (R491, R492) -/

/-- Double in GF(2^8) with modulus x^8 + x^4 + x^3 + x + 1. -/
def gfDouble (a : Nat) : Nat := if a < 128 then 2 * a else (2 * a - 256) ^^^ 0x1B

/-- Product in GF(2^8), over the eight bits of b. -/
def gfMul (a b : Nat) : Nat :=
  ((List.range 8).foldl (fun (r : Nat × Nat) i => (if bitAt b i then r.1 ^^^ r.2 else r.1, gfDouble r.2)) (0, a % 256)).1

/-- Power in GF(2^8). -/
def gfPow (a : Nat) : Nat → Nat
  | 0 => 1
  | n + 1 => gfMul a (gfPow a n)

/-- Inverse in GF(2^8). -/
def gfInv (a : Nat) : Nat := gfPow a 254

/-- The byte at index i of a string, as a number. -/
def byteAt (b : Bytes) (i : Nat) : Nat := (b.getD i 0).toNat

/-- The share at x: BK plus the sum of coefficient k times x^k, byte by byte (R491). -/
def shareAt (bk : Bytes) (poly : List Bytes) (x : Nat) : Bytes :=
  (List.range 32).map (fun i =>
    BitVec.ofNat 8 ((poly.zipIdx).foldl (fun a p => a ^^^ gfMul (byteAt p.1 i) (gfPow x (p.2 + 1))) (byteAt bk i)))

/-- Lagrange weight at 0 of the point x among the points xs. -/
def weightAt0 (xs : List Nat) (x : Nat) : Nat :=
  xs.foldl (fun a y => if y = x then a else gfMul a (gfMul y (gfInv (x ^^^ y)))) 1

/-- BK by interpolation at 0 (R492). -/
def interpolate (shares : List (Nat × Bytes)) : Bytes :=
  let xs := shares.map (·.1)
  (List.range 32).map (fun i => BitVec.ofNat 8 (shares.foldl (fun a p => a ^^^ gfMul (byteAt p.2 i) (weightAt0 xs p.1)) 0))

/-- BK_ID (R491). -/
def bkId (bk : Bytes) : Bytes := (Config.sha384 bk).take 8

/-- The additional data of the escrow: DEVICE_SERIAL and OWNER_COUNT (R491; widths of R493, log entry 29). -/
def escrowAad (s : State) : Bytes := natLe 8 s.fnt.serial ++ natLe 4 s.ownerCount

/-! ## Opening (R487, R488) -/

/-- M and the identities of a session's quorum (R37, R488). -/
def quorumOf (s : State) (purpose : Nat) : Option (Nat × List QuorumId) :=
  match s.lay.active with
  | some l => some (l.quorumM, l.quorum)
  | none => if purpose = 1 then s.lay.image.map (fun l => (l.quorumM, l.quorum)) else none

/-- Approvals a session needs: none where R477 gives 0. -/
def approvalsFor (s : State) (purpose : Nat) (cert : Bytes) : Option Nat :=
  if purpose = 8 && !(match transition (certFrom cert) (certTo cert) with | some t => t.2 | none => false) then some 0
  else (quorumOf s purpose).map (·.1)

/-- A purpose is allowed in a device state (R488). -/
def purposeAllowed (p : Nat) (o : OpState) : Bool :=
  if p = 1 || p = 2 then o == .serving || o == .maintenance
  else if p = 3 then o == .serving || o == .maintenance || o == .sealed
  else if p = 4 then o == .maintenance
  else if p = 5 then o == .sealed
  else if p = 6 then o == .restoreOnly
  else if p = 7 then o == .serving
  else o == .serving || o == .maintenance || o == .sealed || o == .restoreOnly

/-- The cards that a quorum lists, in order. -/
def listedCards (q : List QuorumId) : List (BitVec 128) := (q.filter (fun x => !x.badge)).map (·.id)

/-- A complete staged image of a kind has a digest. -/
def stagedDigest (s : State) (kind : Nat) (digest : Bytes) : Bool :=
  match tabFind s.fnt.staged kind with | some i => i.complete && i.digest == digest | none => false

/-- The purpose's precondition (R488). -/
def purposeReady (s : State) (c : Cmd) : Bool :=
  let p := param c.desc 0 1
  let sub := paramBytes c.desc 0x10 48
  if p = 1 then s.lay.stage == .verified && (match s.lay.image with | some l => padTo 48 l.digest == sub | none => false)
  else if p = 2 then stagedDigest s (param c.desc 8 1) sub
  else if p = 4 then (match quorumOf s p with | some q => decide (q.1 ≤ (listedCards q.2).length) | none => false)
  else if p = 6 then s.fnt.escrow.isSome
  else if p = 8 then sub == padTo 48 (Config.sha384 c.input)
  else true

/-- OPEN is refused with QUORUM_SESSION. -/
def openRefused (s : State) (c : Cmd) : Bool :=
  let p := param c.desc 0 1
  s.fnt.session.isSome || !purposeAllowed p s.gateOp || (approvalsFor s p c.input).isNone || !purposeReady s c

/-- The reason that turns a LIFE_CYCLE OPEN down (R488, R494), where nothing but its certificate stands against it. -/
def openReason (s : State) (c : Cmd) : Option Nat :=
  if param c.desc 0 1 = 8 && s.fnt.session.isNone && purposeAllowed 8 s.gateOp then certReason s 2 c.input else none

/-- The lifetime of a session in ns. -/
def lifetimeNs (c : Cmd) : Nat := (if param c.desc 4 2 = 0 then 600 else param c.desc 4 2) * 1000000000

/-- The new session, from its challenge and, for BACKUP, BK and the polynomials (R487, R491). -/
def newSession (s : State) (c : Cmd) (m : Nat) (challenge bk poly : Bytes) : Session :=
  { purpose := param c.desc 0 1, number := (s.fnt.sessions + 1) % 2 ^ 64, arg := param c.desc 8 8, subject := paramBytes c.desc 0x10 48
    challenge := challenge, m := m, ends := s.now + lifetimeNs c, bk := bk, poly := entriesOf 32 poly
    cert := if param c.desc 0 1 = 8 then c.input else [] }

/-- A session opens. -/
def State.openSession (s : State) (c : Cmd) (m : Nat) (challenge bk poly : Bytes) : Answer × State :=
  let x := newSession s c m challenge bk poly
  ({ result := natLe 8 x.number }, { s with fnt := { s.fnt with session := some x, sessions := x.number } })

/-- The draws of an OPEN: the challenge, and for BACKUP the fresh BK and the polynomials. -/
def State.openDraw (s : State) (e : Nat) (c : Cmd) (m : Nat) : State :=
  let put (r : Answer × State) : State := r.2.finish e r.1
  match s.drawFor 8 32 false with
  | .failed => s.endCmd e 0x0502
  | .wait => s
  | .got ch s1 =>
    if param c.desc 0 1 ≠ 4 then put (s1.openSession c m ch [] [])
    else
      match s1.drawFor 8 32 true with
      | .failed => s.endCmd e 0x0502
      | .wait => s
      | .got bk s2 =>
        match s2.drawFor 8 (32 * (m - 1)) false with
        | .failed => s.endCmd e 0x0502
        | .wait => s
        | .got po s3 => put (s3.openSession c m ch bk po)

/-- QUORUM_OPEN (R487, R488): QUORUM.OPEN with MODE 0. -/
def execQuorumOpen (e : Nat) (s : State) : Host.Outcome State Fault Refusal :=
  match s.ready e (· == 0x0530) with
  | none => .next s
  | some c =>
    if param c.desc 1 1 ≠ 0 then .next s
    else
      match openReason s c with
      | some r => .next (s.finish e { status := 1, result := natLe 1 r })
      | none =>
        if openRefused s c then .next (s.finish e { status := 0x0231 })
        else .next (s.openDraw e c ((approvalsFor s (param c.desc 0 1) c.input).getD 0))

/-! ## Closing (R489 to R491) -/

/-- The open session, if a command names it. -/
def namedSession (s : State) (number : Nat) : Option Session :=
  match s.fnt.session with | some x => if x.number = number then some x else none | none => none

/-- QUORUM_ABORT (R489): QUORUM.CLOSE with ACTION 0. -/
def execQuorumAbort (e : Nat) (s : State) : Host.Outcome State Fault Refusal :=
  .next (s.runIf e 0x0531 (fun c => param c.desc 0 1 == 0) (fun c =>
    match namedSession s (param c.desc 8 8) with
    | some _ => ({}, s.endSession)
    | none => ({ status := 0x0231 }, s)))

/-- A source whose response was Seal is still active (R490). -/
def sealSourceActive (s : State) : Bool :=
  (List.range 16).any (fun i => s.gro.active.getLsbD i && !s.gro.off i && s.response i == 1)

/-- The approvals and shares that a commit needs (R489, R491). -/
def commitEnough (s : State) (x : Session) : Bool :=
  decide (x.m ≤ x.counted.length) &&
    (x.purpose != 4 || (match quorumOf s 4 with | some q => (listedCards q.2).all (fun i => x.confirmed.contains i) | none => false))
    && (x.purpose != 2 || stagedDigest s (x.arg % 256) x.subject)

/-- The status that refuses a COMMIT, if any. -/
def commitRefused (s : State) (c : Cmd) : Option Nat :=
  match namedSession s (param c.desc 8 8) with
  | none => some 0x0231
  | some x =>
    if x.purpose = 1 || x.purpose = 3 || x.purpose = 6 then some 0x0403
    else if !commitEnough s x then some 0x0231
    else if x.purpose = 5 && sealSourceActive s then some 0x0203
    else none

/-- QUORUM_COMMIT (R489): the fresh request of a life-cycle commit is drawn here; the effect follows at the retirement. -/
def execQuorumCommit (e : Nat) (s : State) : Host.Outcome State Fault Refusal :=
  match s.ready e (· == 0x0531) with
  | none => .next s
  | some c =>
    if param c.desc 0 1 ≠ 1 then .next s
    else
      match commitRefused s c with
      | some st => .next (s.finish e { status := st })
      | none =>
        let n := match s.fnt.session with | some x => if x.purpose = 8 then lifeDraw (certTo x.cert) else 0 | none => 0
        match s.drawFor 8 n true with
        | .failed => .next (s.endCmd e 0x0502)
        | .wait => .next s
        | .got rnd t => .next ((t.setCmd e { c with input := rnd }).finish e { effect := .quorum (param c.desc 8 8) })

/-- A FIRMWARE commit accepts the staged image (R486). -/
def State.acceptFw (s : State) (kind : Nat) : State :=
  match tabFind s.fnt.staged kind with
  | some i => ({ s with fnt := { s.fnt with staged := tabSet s.fnt.staged kind { i with accepted := true } } }).fntEvent 4
  | none => s

/-- A BACKUP commit replaces the escrow (R491). -/
def State.backupCommit (s : State) (x : Session) : State :=
  let g := gcmSeal x.bk (List.replicate 12 0) (escrowAad s) (s.gro.rootHalf.getD [])
  { s with fnt := { s.fnt with escrow := some (bkId x.bk, g.1 ++ g.2) } }

/-- An UNSEAL commit (R490): the seal bit clears, keys form, the vault unlocks, BOOTING. -/
def State.unseal (s : State) : State :=
  let s1 := { s with gro := { s.gro with sealBit := false, sealAt := none } }
  s1.bootAgain

/-- The effect of a commit at its retirement; none where its session is no longer open (R489). -/
def State.commitQuorum (s : State) (number : Nat) (rnd : Bytes) : Option State :=
  match namedSession s number with
  | none => none
  | some x =>
    let s1 := if x.purpose = 2 then s.acceptFw (x.arg % 256)
              else if x.purpose = 4 then s.backupCommit x
              else if x.purpose = 5 then s.unseal
              else if x.purpose = 7 then (if s.gateOp == .serving then s.setOp .maintenance else s)
              else if x.purpose = 8 then s.lifeCommit x.cert rnd
              else s
    some s1.endSession

/-- SESSION_EXPIRY (R489): the lifetime is over. -/
def execSessionExpiry (s : State) : Host.Outcome State Fault Refusal :=
  match s.fnt.session with
  | some x => if x.ends ≤ s.now then .next s.endSession else .next s
  | none => .next s

/-! ## Debug certificates (R495) -/

/-- What DEBUG.INSTALL answers with a certificate. -/
def debugInstallRun (s : State) (c : Cmd) : Answer × State :=
  match certReason s 1 c.input with
  | some r => ({ status := 1, result := natLe 1 r }, s)
  | none => ({}, ({ s with wei := { s.wei with dbg := some (certDebug c.input) } }).fntEvent 5)

/-- DEBUG_INSTALL (R494, R495). -/
def execDebugInstall (e : Nat) (s : State) : Host.Outcome State Fault Refusal :=
  .next (s.runIf e 0x0560 (fun c => inLenOf c.desc != 0) (debugInstallRun s))

/-- DEBUG_REMOVE (R495): DEBUG.INSTALL with IN_LEN 0. -/
def execDebugRemove (e : Nat) (s : State) : Host.Outcome State Fault Refusal :=
  .next (s.runIf e 0x0560 (fun c => inLenOf c.desc == 0) (fun _ => ({}, s.removeDebug)))

/-- A once-per-second check is due: none has been made within the last second (R495). -/
def debugCheckDue (s : State) : Bool := match s.fnt.debugCheck with | some t => decide (t + 1000000000 ≤ s.now) | none => true

/-- DEBUG_CERT_CHECK (R495): NOT_AFTER has passed or the era has changed. -/
def execDebugCertCheck (s : State) : Host.Outcome State Fault Refusal :=
  if !debugCheckDue s then .next s else
  let s1 := { s with fnt := { s.fnt with debugCheck := some s.now } }
  match s.wei.dbg with
  | some d => if d.notAfter < s.now || d.era ≠ s.tbs.era then .next s1.removeDebug else .next s1
  | none => .next s1

/-! ## FIRMWARE.STAGE (R484, R485) -/

/-- The reason for which a complete staged image fails, 0 for none (R484, R485). -/
def fwReason (s : State) (kind : Nat) (b : Bytes) : Nat :=
  if !fwFormat kind b then 1
  else if !pairedValid Config.fwSigner (ascii "OX-FIRMWARE") (fwMessage b) (b.drop (0x20 + fwCodeLen b)) then 2
  else if field b 7 1 < s.rollbackOf kind then 3
  else 0

/-- The reason for which an owner applet fails (R456). -/
def appletReason (s : State) (b : Bytes) : Nat :=
  let n := field b 0x10 4
  if !(field b 0 4 == 0x5041584F && field b 4 2 == 1 && field b 6 2 == 0 && n % 16 == 0 && decide (n ≤ 262144) && field b 0x1C 4 == 0
      && allZero (slice b 0x50 16) && b.length == 0x60 + n + 3373) then 1
  else if !(pairedValid s.ownerKey (ascii "OX-OWNER") (b.take (0x60 + n)) (b.drop (0x60 + n)) && slice b 0x20 48 == padTo 48 s.ownerDigest) then 2
  else 0

/-- The reason for which a DIK certificate fails (R386, R482). -/
def dikReason (s : State) (b : Bytes) : Nat :=
  if !(b.length == 5485 && field b 0 4 == 0x4349584F && field b 4 2 == 1 && field b 6 1 == 2 && field b 7 1 == 0 && field b 8 8 == s.fnt.serial
      && field b 0x18 4 == 0 && field b 0x1C 4 == 0 && slice b 0x20 48 == padTo 48 (Config.sha384 Config.caKey) && allZero (slice b 0x50 48)
      && slice b 0x80 1984 == padTo 1984 (publicEncoding 0x38 (pairedComps s.fnt.dik))) then 1
  else if !pairedValid Config.caKey (ascii "OX-IDENTITY") (b.take 0x840) (b.drop 0x840) then 2
  else 0

/-- The staged image of a kind is gone, with any acceptance of it. -/
def State.dropFw (s : State) (kind : Nat) : State := { s with fnt := { s.fnt with staged := tabDel s.fnt.staged kind } }

/-- The last chunk is in: the image is verified (R485). What the version of an applet or a certificate is the spec does not state: an
open value (log entry 1). -/
def State.fwVerify (s : State) (kind : Nat) (b : Bytes) : Answer × State :=
  let r := if kind ≤ 1 then fwReason s kind b else if kind = 2 then appletReason s b else dikReason s b
  if r ≠ 0 then ({ status := 1, result := natLe 1 r }, s.dropFw kind)
  else if kind ≤ 1 then
    let i : StagedFw := { bytes := b, complete := true, version := field b 8 4, rollback := field b 7 1, digest := fwDigestOf b }
    ({ result := natLe 4 i.version }, { s with fnt := { s.fnt with staged := tabSet s.fnt.staged kind i } })
  else
    let v := s.freeBytes 4
    let t := v.2
    ({ result := v.1 },
     if kind = 2 then { t with fnt := { t.fnt with staged := tabSet t.fnt.staged 2 { bytes := b, complete := true, digest := fwDigestOf b } } }
     else { t.dropFw 3 with fnt := { (t.dropFw 3).fnt with dikCert := b } })

/-- What FIRMWARE.STAGE answers; KIND 3 is accepted in MANUFACTURED only. -/
def firmwareStageRun (s : State) (c : Cmd) : Answer × State :=
  let kind := param c.desc 0 1
  let off := param c.desc 4 4
  let old := match tabFind s.fnt.staged kind with | some i => if i.complete then none else some i.bytes | none => none
  if kind = 3 && s.life ≠ 2 then ({ status := 0x0403 }, s)
  else if off ≠ 0 && (match old with | some b => b.length ≠ off | none => true) then ({ status := 0x0407 }, s.dropFw kind)
  else
    let all := (if off = 0 then [] else old.getD []) ++ c.input
    let s1 := { s with fnt := { s.fnt with staged := tabSet s.fnt.staged kind { bytes := all } } }
    if bitAt (param c.desc 1 1) 0 then s1.fwVerify kind all else ({}, s1)

/-- FIRMWARE_STAGE (R484, R485). -/
def execFirmwareStage (e : Nat) (s : State) : Host.Outcome State Fault Refusal := .next (s.run e (· == 0x0510) (firmwareStageRun s))

/-! ## FNT_CTRL and the restart (R481, R486, R496) -/

/-- A write of FNT_CTRL.LEAVE_MAINT. -/
def State.leaveMaint (s : State) : State := if s.gateOp == .maintenance then s.setOp .serving else s

/-- LEAVE_MAINT (R481). -/
def execLeaveMaint (f : FnId) (s : State) : Host.Outcome State Fault Refusal :=
  if isPf0 f && s.fnExists f then .next s.leaveMaint else .next s

/-- A write of FNT_CTRL.FW_SWITCH: discarded where no Fountainhead image is accepted. -/
def State.fwSwitch (s : State) : State :=
  match tabFind s.fnt.staged 1 with
  | some i => if i.accepted && s.fnt.restartAt.isNone then s.restartFnt false 2 else s
  | none => s

/-- FW_SWITCH (R486). -/
def execFwSwitch (f : FnId) (s : State) : Host.Outcome State Fault Refusal :=
  if isPf0 f && s.fnExists f then .next s.fwSwitch else .next s

/-- The image that runs after a firmware switch, with the anti-rollback count raised to its ROLLBACK (R486). -/
def State.runStaged (s : State) : State :=
  match tabFind s.fnt.staged 1 with
  | some i => { s with fnt := { s.fnt with running := i.version, runningDigest := i.digest, runningRollback := i.rollback
                                           rbFnt := max s.fnt.rbFnt i.rollback, staged := tabDel s.fnt.staged 1 } }
  | none => s

/-- The image that runs is listed by the active Layout, if there is one. -/
def runningListed (s : State) : Bool := s.lay.active.isNone || listedFw s 1 s.fnt.running s.fnt.runningDigest

/-- The first 40 ms of a restart have passed in re-verifying the image (R496). -/
def restartVerified (s : State) : Bool := match s.fnt.restartAt with | some t => decide (t + 40000000 ≤ s.now) | none => false

/-- RESTART_VERIFY_DONE (R479, R486, R496), 40 ms after the restart: a failure halts the device; else the pair serves, completes a pending record and takes the
waiting management commands. -/
def execRestartVerifyDone (ok : Bool) (s : State) : Host.Outcome State Fault Refusal :=
  if !restartVerified s || s.fnt.op == .halted then .next s
  else
    let s1 := { s with fnt := { s.fnt with restartAt := none, restartSwitch := false } }
    let s2 := if s.fnt.restartSwitch && ok then s1.runStaged else s1
    if ok && runningListed s2 then .next s2.completePending.beginMgmt else .next s2.halt

/-! ## VAULT.RESTORE (R492) -/

/-- The escrow opened with the BK of M shares, where BK_ID agrees. -/
def openEscrow (s : State) (x : Session) : Option Bytes :=
  match s.fnt.escrow with
  | none => none
  | some (id, blob) =>
    let bk := interpolate (x.shares.take x.m)
    if bkId bk = id then gcmOpen bk (List.replicate 12 0) (escrowAad s) (blob.take (blob.length - 16)) (blob.drop (blob.length - 16)) else none

/-- What VAULT.RESTORE answers. -/
def vaultRestoreRun (s : State) (c : Cmd) : Answer × State :=
  match namedSession s (param c.desc 0 8) with
  | none => ({ status := 0x0231 }, s)
  | some x =>
    if x.purpose ≠ 6 || x.shares.length < x.m then ({ status := 0x0231 }, s)
    else
      match openEscrow s x with
      | none => ({ status := 1 }, s.endSession)
      | some half =>
        ({}, (({ s.endSession with gro := { s.endSession.gro with rootHalf := some half, retained := true } }).bootAgain))

/-- VAULT_RESTORE (R481, R492). -/
def execVaultRestore (e : Nat) (s : State) : Host.Outcome State Fault Refusal := .next (s.run e (· == 0x0580) (vaultRestoreRun s))

end Sys2Proof.Machine
end

