-- ==== Sys2Proof/Machine/Tokens.lean ====
section
/-! DEFINITION. Tokens (R489, R530 to R533): certificates, the time floor, the approval message, counting, and the end of a COLLECT. -/

namespace Sys2Proof.Machine

/-! ## Certificates (R530, R531) -/

/-- The fields of a token certificate. -/
def tokenCertOf (b : Bytes) : TokenCert :=
  { type_ := field b 6 1, tokenId := slice b 8 16, issued := field b 0x18 8, expires := field b 0x20 8, authLimit := field b 0x28 4
    signKey := slice b 0x60 1984, kemKey := slice b 0x820 1184 }

/-- A token certificate verifies: its format and its paired signature under the Brynlum CA. -/
def tokenCertOk (b : Bytes) : Bool :=
  b.length == 6637 && field b 0 4 == 0x4B54584F && field b 4 2 == 1 && decide (field b 6 1 ≤ 1) && field b 7 1 == 0 && field b 0x2C 4 == 0
    && slice b 0x30 48 == padTo 48 (Config.sha384 Config.caKey)
    && pairedValid Config.caKey (ascii "OX-TOKEN") (b.take 0xCC0) (b.drop 0xCC0)

/-- The time floor in seconds (R531). -/
def timeFloor (s : State) : Nat := max (s.now / 1000000000) s.ccb.timeFloor

/-- A certificate that verifies raises the floor by its ISSUED. -/
def State.raiseFloor (s : State) (c : TokenCert) : State := { s with ccb := { s.ccb with timeFloor := max s.ccb.timeFloor c.issued } }

/-- A token ID as the number the QUORUM section holds. -/
def idNum (b : Bytes) : BitVec 128 := BitVec.ofNat 128 (leNat b)

/-- The CUSTODIAN status that turns a token down before it signs, if any (R489, R531): NOT_COUNTED or TOKEN_EXPIRED. -/
def tokenDenied (s : State) (x : Session) (cert : Option TokenCert) (id : Bytes) (badge : Bool) (used : Nat) : Option Nat :=
  match cert with
  | none => some 0x0805
  | some c =>
    if c.tokenId ≠ id || c.type_ ≠ bitNat badge then some 0x0805
    else if c.authLimit ≤ used || c.expires ≤ timeFloor s then some 0x0804
    else
      match quorumOf s x.purpose with
      | none => some 0x0805
      | some q =>
        if q.2.any (fun y => y.id == idNum id && y.badge == badge) && !x.counted.contains (idNum id) then none else some 0x0805

/-- The approval message (R489). -/
def approvalMessage (s : State) (x : Session) (id : Bytes) : Bytes :=
  natLe 4 0x5551584F ++ natLe 2 1 ++ natLe 1 x.purpose ++ natLe 1 0 ++ natLe 8 s.fnt.serial ++ natLe 8 x.number
    ++ natLe 8 (match s.lay.active with | some l => l.serial | none => 0) ++ natLe 8 x.arg ++ padTo 32 x.challenge ++ padTo 48 x.subject ++ padTo 16 id

/-! ## The end of a COLLECT -/

/-- The card transaction of a COLLECT is over; the reader stops polling. -/
def State.clearCollect (s : State) : State :=
  { s with
    fnt := { s.fnt with collect := none }
    ccb := { s.ccb with trans := match s.ccb.trans with | some t => if t.forCollect then none else some t | none => none }
    cls := { s.cls with mode := if s.cls.mode = 2 then 0 else s.cls.mode } }

/-- The COLLECT completes. -/
def State.endCollect (s : State) (status : Nat) (result : Bytes) : State :=
  match s.fnt.collect with
  | none => s
  | some k => s.clearCollect.finish k.entry { status := status, result := result }

/-- The image that a LAYOUT session approves becomes APPROVED (R36, R37). -/
def State.approveLayout (s : State) (x : Session) : State :=
  if s.lay.stage == .verified && (match s.lay.image with | some l => padTo 48 l.digest == x.subject | none => false) then
    { s with lay := { s.lay with stage := .approved, approvedAt := some s.lay.activeSerial } }
  else s

/-- What M approvals bring (R488). -/
def State.quorumReached (s : State) (x : Session) : State :=
  if x.counted.length < x.m then s
  else if x.purpose = 1 then (s.approveLayout x).endSession
  else if x.purpose = 3 || x.purpose = 6 then { s with fnt := { s.fnt with session := some { x with held := true } } }
  else s

/-- A token is counted, and the COLLECT completes DONE/OK with the count and M (R489). -/
def State.countToken (s : State) (x : Session) (id : Bytes) : State :=
  let y := { x with counted := x.counted ++ [idNum id] }
  let s1 := ({ s with fnt := { s.fnt with session := some y } }).fntEvent 2
  (s1.quorumReached y).endCollect 0 (natLe 1 y.counted.length ++ natLe 1 y.m)

/-- The 1-based position of a card among the listed card identities, 0 where it is not listed (R491). -/
def cardPosition (s : State) (id : Bytes) : Nat :=
  match quorumOf s 4 with
  | none => 0
  | some q => let l := listedCards q.2
              let i := l.findIdx (· == idNum id)
              if i < l.length then i + 1 else 0

/-- The five blocks of a PUT_SHARE (R533). -/
def shareBlocks (kemKey id : Bytes) (seq x : Nat) (bk : Bytes) (poly : List Bytes) (rnd : Bytes) : Bytes :=
  let k := Config.mlkemEncaps kemKey rnd
  let g := gcmSeal k.2 (List.replicate 12 0) (padTo 16 id ++ natLe 4 seq) (natLe 1 x ++ padTo 8 (bkId bk) ++ shareAt bk poly x)
  padTo 1280 (natLe 4 seq ++ natLe 12 0 ++ padTo 1088 k.1 ++ padTo 57 (g.1 ++ g.2))

/-- The share in a reply to GET_SHARE (R533): x, BK_ID and the share. -/
def shareReply (seed id reply : Bytes) : Option (Nat × Bytes × Bytes) :=
  let key := Config.mlkemDecaps (Config.keypair 0x31 0 seed) (slice reply 16 1088)
  (gcmOpen key (List.replicate 12 0) (padTo 16 id ++ natLe 4 0) (slice reply 1104 41) (slice reply 1145 16)).map
    (fun p => (field p 0 1, slice p 1 8, slice p 9 32))

end Sys2Proof.Machine
end

