-- ==== Sys2Proof/Machine/Card.lean ====
section
/-! DEFINITION. The custodian card bus (24): insertion, bring-up, frames, shares and removal, and QUORUM.OPEN's COLLECT. -/

namespace Sys2Proof.Machine

/-! ## The bus -/

/-- The card's tag (R525). -/
def tagOfSlot (n : Nat) : Byte := BitVec.ofNat 8 (0x50 + n)

/-- Put the transaction on the bus. -/
def State.setTrans (s : State) (t : Option CardTrans) : State := { s with ccb := { s.ccb with trans := t } }

/-- Send a command as the transaction's present one. -/
def State.sendCard (s : State) (t : CardTrans) (op : Nat) (params : Bytes) : State :=
  (s.setTrans (some { t with opcode := op, params := params, resent := 0, busyFrom := none })).emit (.cardCommand t.slot op params)

/-- The commands with their parameters (R527). -/
def State.sendGet (s : State) (t : CardTrans) (object block : Nat) : State :=
  s.sendCard { t with object := object, block := block, data := if block = 0 then [] else t.data, blockRetry := false } 0x10
    (tagOfSlot t.slot :: natLe 1 object ++ natLe 2 block)

def State.sendLink (s : State) (t : CardTrans) (width4 : Bool) (clock : Nat) : State :=
  let s1 := s.setSlot t.slot { s.slot t.slot with width4 := width4, clock := clock }
  s1.sendCard t 3 (tagOfSlot t.slot :: natLe 1 (bitNat width4) ++ natLe 1 clock)

/-- Send a command that data blocks follow. -/
def State.sendBlocks (s : State) (t : CardTrans) (op : Nat) (blocks : Bytes) : State :=
  let l := entriesOf 256 blocks
  s.sendCard { t with toSend := l } op (if op = 0x12 then [tagOfSlot t.slot] else tagOfSlot t.slot :: natLe 1 5)

/-- The next slower link (R528). -/
def slower (x : CardSlot) : Option (Bool × Nat) :=
  if x.clock = 2 && x.width4 then some (true, 1) else if x.width4 then some (false, 0) else none

/-! ## Removal and failures (R525, R526, R535) -/

/-- Byte 0 of a COLLECT whose card is gone (R535): 1 once the busy hold of its share has been seen released. -/
def removalOutcome (s : State) (k : Collect) : Nat :=
  if k.stage = 8 then 1 else
  match s.ccb.trans with
  | some t => if k.stage = 5 && t.busyFrom.isSome then 0 else 2
  | none => 2

/-- A COLLECT from a slot ends CARD_REMOVED; an unknown write is recorded in the slot. -/
def State.abortCollect (s : State) (n : Nat) : State :=
  match s.fnt.collect with
  | none => s
  | some k =>
    if k.source ≠ n then s
    else
      let o := removalOutcome s k
      let s1 := if o = 0 then s.setSlot n { s.slot n with pending := true, pendingSeq := k.seq, pendingId := k.tokenId, resolved := 0 } else s
      s1.endCollect 0x0801 (natLe 1 o)

/-- The transaction of a slot is over. -/
def State.endTrans (s : State) (n : Nat) : State :=
  match s.ccb.trans with | some t => if t.slot = n then s.setTrans none else s | none => s

/-- What a slot keeps when its card leaves: the unknown write. -/
def emptiedSlot (x : CardSlot) : CardSlot :=
  { pending := x.pending, resolved := x.resolved, pendingSeq := x.pendingSeq, pendingId := x.pendingId }

/-- Removal (R525): the slot is off and EMPTY, REMOVED sets. -/
def State.removeCard (s : State) (n : Nat) : State :=
  let s1 := (s.abortCollect n).endTrans n
  (s1.setSlot n (emptiedSlot (s1.slot n))).ccbEvent 1

/-- A bring-up step fails (R525): ERROR, and the slot is off for 100 ms. -/
def State.bringUpFails (s : State) (n : Nat) : State :=
  let s1 := s.endTrans n
  let x := s1.slot n
  (s1.setSlot n { x with st := 4, pwr := false, fails := x.fails + 1, holdFrom := some s.now, tag := 0, width4 := false, clock := 0 }).ccbEvent 3

/-- A transaction failure (R526): in a COLLECT as a removal followed by bring-up; in a bring-up as a failed step. -/
def State.transFails (s : State) (t : CardTrans) : State :=
  if t.forCollect then
    let s1 := (s.removeCard t.slot).ccbEvent 3
    s1.setSlot t.slot { s1.slot t.slot with st := 1, present := true }
  else s.bringUpFails t.slot

/-- Send the last command or block again, up to two times (R526). -/
def State.resendCard (s : State) (t : CardTrans) : State :=
  if 2 ≤ t.resent then s.transFails t
  else (s.setTrans (some { t with resent := t.resent + 1 })).emit (.cardCommand t.slot t.opcode t.params)

/-! ## Bring-up (R525, R528, R531, R532, R536) -/

/-- CARD_INSERTED (R525): accepted after 10 ms of low samples. -/
def execCardInserted (n : Nat) (s : State) : Host.Outcome State Fault Refusal :=
  if 4 ≤ n || (s.slot n).present then .next s
  else .next ((s.setSlot n { s.slot n with present := true, st := 1, fails := 0 }).ccbEvent 0)

/-- CARD_REMOVED (R525, R535): at the first high sample. -/
def execCardRemoved (n : Nat) (s : State) : Host.Outcome State Fault Refusal :=
  if 4 ≤ n || !(s.slot n).present then .next s else .next (s.removeCard n)

/-- CARD_BRING_UP (R525): the bus is free and no lower slot waits; steps 1 and 2. -/
def execCardBringUp (n : Nat) (s : State) : Host.Outcome State Fault Refusal :=
  if 4 ≤ n || s.ccb.trans.isSome || (s.slot n).st ≠ 1 || (List.range n).any (fun m => (s.slot m).st == 1) then .next s
  else .next ((s.setSlot n { s.slot n with st := 2, pwr := true }).sendCard { slot := n, forCollect := false, opcode := 1, params := [] } 1 [])

/-- BRING_UP_RETRY (R525): 100 ms off are over, and fewer than three bring-ups have failed. -/
def execBringUpRetry (n : Nat) (s : State) : Host.Outcome State Fault Refusal :=
  let x := s.slot n
  match x.holdFrom with
  | none => .next s
  | some t =>
    if n < 4 && x.st == 4 && decide (x.fails < 3) && decide (t + 100000000 ≤ s.now) then .next (s.setSlot n { x with st := 1, holdFrom := none }) else .next s

/-- A pending write is resolved (R536): `committed` where the same card reports its sequence number. -/
def State.resolvePending (s : State) (n seq : Nat) : State :=
  let x := s.slot n
  if !x.pending then s
  else
    let same := x.pendingId == x.tokenId && x.pendingSeq == seq
    let s1 := (s.setSlot n { x with pending := false, resolved := if same then 1 else 2 }).ccbEvent 4
    match s1.fnt.session with
    | some v => if same && v.purpose = 4 then { s1 with fnt := { s1.fnt with session := some { v with confirmed := v.confirmed ++ [idNum x.tokenId] } } } else s1
    | none => s1

/-- The slot is READY (step 6). -/
def State.slotReady (s : State) (n : Nat) : State :=
  ((s.setSlot n { s.slot n with st := 3, fails := 0 }).setTrans none).ccbEvent 2

/-- The certificate has been read (step 5): kept where it verifies. -/
def State.takeCert (s : State) (n : Nat) (b : Bytes) : State :=
  if tokenCertOk b then (s.setSlot n { s.slot n with cert := some (tokenCertOf b) }).raiseFloor (tokenCertOf b)
  else s.setSlot n { s.slot n with cert := none }

/-! ## COLLECT (R489 to R492, R531 to R535) -/

/-- Change the COLLECT under way. -/
def State.setCollect (s : State) (k : Collect) : State := { s with fnt := { s.fnt with collect := some k } }

/-- The COLLECT sends STATUS to its card. -/
def State.startCard (s : State) (k : Collect) : State :=
  (s.setCollect { k with stage := 1, tokenId := (s.slot k.source).tokenId }).sendCard
    { slot := k.source, forCollect := true, opcode := 4, params := [] } 4 [tagOfSlot k.source]

/-- A COLLECT from a card slot: NO_TOKEN, a wait of up to 50 ms for bring-up, or its start once the bus is free (R532). -/
def State.collectCard (s : State) (k : Collect) : State :=
  let st := (s.slot k.source).st
  let s1 := s.setCollect k
  if st = 0 || st = 4 then s1.endCollect 0x0806 []
  else if st = 3 then (if s.ccb.trans.isSome then s1 else s1.startCard k)
  else if k.since + 50000000 < s.now then s1.endCollect 0x0806 []
  else s1

/-- A COLLECT from the badge field (R538, R542): NOT_COUNTED for BACKUP and RESTORE, NO_TOKEN while the reader is silent. -/
def State.collectBadge (s : State) (k : Collect) (purpose : Nat) : State :=
  let s1 := s.setCollect { k with stage := 10 }
  if purpose = 4 || purpose = 6 then s1.endCollect 0x0805 []
  else if s.cls.mode = 3 || s.cls.extField then s1.endCollect 0x0806 []
  else { s1 with cls := { s1.cls with mode := 2, rate := 0, lastCycle := none } }

/-- A COLLECT whose share is committed counts its card and completes (R489, R491). -/
def State.countShared (s : State) (k : Collect) : State :=
  match s.fnt.session with
  | some x => s.countToken x k.tokenId
  | none => s.endCollect 0x0231 []

/-- The COLLECT whose share has been seen committed completes at the next tick (log entry 146). -/
def State.collectDue (s : State) : State :=
  match s.fnt.collect with
  | some k => if k.stage = 8 then s.countShared k else s
  | none => s

/-- QUORUM_COLLECT (R487, R489): QUORUM.OPEN with MODE 1; presented again while the COLLECT waits for its card, or once its share is committed. -/
def execQuorumCollect (e : Nat) (s : State) : Host.Outcome State Fault Refusal :=
  match s.ready e (· == 0x0530) with
  | none => .next s
  | some c =>
    if param c.desc 1 1 ≠ 1 then .next s
    else
      match s.fnt.collect with
      | some k => if k.entry = e then .next (if k.stage = 0 then s.collectCard k else s.collectDue) else .next s
      | none =>
        match s.fnt.session with
        | none => .next (s.finish e { status := 0x0231 })
        | some x =>
          if x.purpose ≠ param c.desc 0 1 || x.subject ≠ paramBytes c.desc 0x10 48 then .next (s.finish e { status := 0x0231 })
          else
            let k : Collect := { entry := e, source := param c.desc 2 1, since := s.now }
            if k.source < 4 then .next (s.collectCard k) else .next (s.collectBadge k x.purpose)

/-- The STATUS of the card is in: the token is turned down, or signs (R489, R531). -/
def State.cardStatus (s : State) (t : CardTrans) (k : Collect) : State :=
  let y := s.slot t.slot
  match s.fnt.session with
  | none => s.endCollect 0x0231 []
  | some x =>
    match tokenDenied s x y.cert y.tokenId false y.authUsed with
    | some st => s.endCollect st []
    | none => (s.setCollect { k with stage := 2, authUsed := y.authUsed, tokenId := y.tokenId }).sendBlocks t 0x12 (padTo 256 (approvalMessage s x y.tokenId))

/-- The card's signature is in: it counts, or its share follows (R489, R491, R492). -/
def State.cardSigned (s : State) (t : CardTrans) (k : Collect) (sig : Bytes) : State :=
  match s.fnt.session, (s.slot t.slot).cert with
  | some x, some c =>
    if !pairedValid c.signKey (ascii "OX-QUORUM") (approvalMessage s x k.tokenId) sig then s.endCollect 0x0805 []
    else if x.purpose = 4 && !x.confirmed.contains (idNum k.tokenId) then (s.setCollect { k with stage := 4 }).sendCard t 5 [tagOfSlot t.slot]
    else if x.purpose = 6 then
      match s.draw 8 64 with
      | none => if s.spg.fatal then s.endCollect 0x0502 [] else s
      | some r =>
        let ek := match (Config.keypair 0x31 0 r.1).find? (fun q => q.1 == 2) with | some q => q.2 | none => []
        (r.2.setCollect { k with stage := 6, data := r.1 }).sendBlocks t 0x13 (padTo 1280 (padTo 1184 ek))
    else s.countToken x k.tokenId
  | _, _ => s.endCollect 0x0231 []

/-- The committed sequence number is in: the share is written (R533, R534). -/
def State.cardSeq (s : State) (t : CardTrans) (k : Collect) (seq : Nat) : State :=
  match s.fnt.session, (s.slot t.slot).cert with
  | some x, some c =>
    match s.draw 8 32 with
    | none => if s.spg.fatal then s.endCollect 0x0502 [] else s
    | some r =>
      let n := (seq + 1) % 2 ^ 32
      (r.2.setCollect { k with stage := 5, seq := n }).sendBlocks t 0x11
        (shareBlocks c.kemKey k.tokenId n (cardPosition s k.tokenId) x.bk x.poly r.1)
  | _, _ => s.endCollect 0x0231 []

/-- The reply to GET_SHARE is in (R492): the share joins the session, or the card is not counted. -/
def State.cardShare (s : State) (k : Collect) (reply : Bytes) : State :=
  match s.fnt.session, s.fnt.escrow with
  | some x, some v =>
    match shareReply k.data k.tokenId reply with
    | none => s.endCollect 0x0805 []
    | some (i, id, share) => if id = v.1 then s.countToken { x with shares := x.shares ++ [(i, share)] } k.tokenId else s.endCollect 0x0805 []
  | _, _ => s.endCollect 0x0231 []

/-! ## Frames (R526, R527) -/

/-- AUTH_USED and REFUSED of a STATUS word reach the slot. -/
def State.noteStatus (s : State) (n : Nat) (st : BitVec 32) : State :=
  s.setSlot n { s.slot n with authUsed := bitsAt st.toNat 0 17, refused := st.getLsbD 20 }

/-- A short response of a bring-up. A card that still shows REFUSED on the slowest link goes on: one at its AUTH_LIMIT shows it always (R527, R531,
log entry 171). -/
def State.bringUpShort (s : State) (t : CardTrans) (st : BitVec 32) : State :=
  let n := t.slot
  if t.opcode = 2 then
    (s.setSlot n { s.slot n with tag := 0x50 + n }).sendLink t true s.ccb.clockLimit
  else if t.opcode = 3 then
    (if st.getLsbD 20 then (match slower (s.slot n) with | some l => s.sendLink t l.1 l.2 | none => s.sendCard t 4 [tagOfSlot n])
     else s.sendCard t 4 [tagOfSlot n])
  else if t.opcode = 4 then s.sendGet t 0 0
  else s

/-- A short response in a COLLECT; a card that refuses SIGN has spent its life (R527). -/
def State.collectShort (s : State) (t : CardTrans) (k : Collect) (st : BitVec 32) : State :=
  if t.opcode = 4 then s.cardStatus t k
  else if t.opcode = 0x12 && st.getLsbD 20 then s.endCollect 0x0804 []
  else if t.opcode = 0x11 || t.opcode = 0x12 || t.opcode = 0x13 then
    (match t.toSend with | b :: _ => s.emit (.cardBlock t.slot b) | [] => s)
  else s

/-- A long response: HELLO's or COMMIT_SEQ's. -/
def State.longResponse (s : State) (t : CardTrans) (extra : Bytes) : State :=
  let n := t.slot
  if t.opcode = 1 then
    (s.setSlot n { s.slot n with tokenId := padTo 16 extra }).sendCard t 2 (extra.take 4 ++ [tagOfSlot n])
  else if t.forCollect then (match s.fnt.collect with | some k => s.cardSeq t k (field extra 0 4) | none => s.setTrans none)
  else (s.resolvePending n (field extra 0 4)).slotReady n

/-- The commands that a long response answers. -/
def longOp (op : Nat) : Bool := op == 1 || op == 5

/-- CARD_RESPONSE (R525 to R528): a frame that fails the CRC, or answers something else, has the command sent again. -/
def execCardResponse (n : Nat) (fr : CardFrame) (s : State) : Host.Outcome State Fault Refusal :=
  match s.ccb.trans with
  | none => .next s
  | some t =>
    if t.slot ≠ n || t.busyFrom.isSome then .next s
    else
      match fr with
      | .badCrc => .next (s.resendCard t)
      | .short op st =>
        if op ≠ t.opcode || longOp op then .next (s.resendCard t)
        else
          let s1 := s.noteStatus n st
          if t.forCollect then (match s.fnt.collect with | some k => .next (s1.collectShort t k st) | none => .next (s1.setTrans none))
          else .next (s1.bringUpShort t st)
      | .long op st extra =>
        if op ≠ t.opcode || !longOp op then .next (s.resendCard t) else .next ((s.noteStatus n st).longResponse t extra)

/-- CARD_RESPONSE_TIMEOUT (R526): the command is sent again, up to two times. -/
def execCardResponseTimeout (n : Nat) (s : State) : Host.Outcome State Fault Refusal :=
  match s.ccb.trans with
  | none => .next s
  | some t => if t.slot ≠ n || t.busyFrom.isSome then .next s else .next (s.resendCard t)

/-- RECEIPT (R526, R534): the next block, the busy hold after the last, or one repetition of a block that failed its CRC. -/
def execReceipt (n : Nat) (status : BitVec 32) (crcError : Bool) (s : State) : Host.Outcome State Fault Refusal :=
  match s.ccb.trans with
  | none => .next s
  | some t =>
    if t.slot ≠ n || t.busyFrom.isSome then .next s
    else
      let s1 := s.noteStatus n status
      match t.toSend with
      | [] => .next s
      | b :: r =>
        if crcError then
          (if t.blockRetry then .next (s1.transFails t) else .next ((s1.setTrans (some { t with blockRetry := true })).emit (.cardBlock n b)))
        else
          match r with
          | [] => .next (s1.setTrans (some { t with toSend := [], blockRetry := false, busyFrom := some s.now }))
          | b2 :: _ => .next ((s1.setTrans (some { t with toSend := r, blockRetry := false })).emit (.cardBlock n b2))

/-- Blocks of an object: the certificate, the signature, the share reply (R529, R533). -/
def objectBlocks (o : Nat) : Nat := if o = 0 then 26 else if o = 1 then 14 else 5

/-- An object is read whole. -/
def State.objectRead (s : State) (t : CardTrans) (data : Bytes) : State :=
  if t.forCollect then
    (match s.fnt.collect with
     | some k => if t.object = 1 then s.cardSigned { t with data := data } k (data.take 3373) else s.cardShare k data
     | none => s.setTrans none)
  else (s.takeCert t.slot (data.take 6637)).sendCard { t with data := [] } 5 [tagOfSlot t.slot]

/-- DATA_BLOCK (R526, R528): the block is kept and the next read; one that fails its CRC-32 is read again, and the first block after a
link change that fails twice reduces the link. -/
def execDataBlock (n : Nat) (block : Bytes) (crcOk : Bool) (s : State) : Host.Outcome State Fault Refusal :=
  match s.ccb.trans with
  | none => .next s
  | some t =>
    if t.slot ≠ n || t.opcode ≠ 0x10 then .next s
    else if crcOk then
      let data := t.data ++ padTo 256 block
      if t.block + 1 < objectBlocks t.object then .next (s.sendGet { t with data := data } t.object (t.block + 1)) else .next (s.objectRead t data)
    else if !t.blockRetry then
      .next ((s.setTrans (some { t with blockRetry := true, resent := 0 })).emit (.cardCommand n t.opcode t.params))
    else if !t.forCollect && t.block = 0 then
      (match slower (s.slot n) with | some l => .next (s.sendLink t l.1 l.2) | none => .next (s.transFails t))
    else .next (s.transFails t)

/-- BUSY_HOLD_RELEASE (R533, R534): a SIGN's signature is read, a PUT_SHARE is committed and its share confirmed, a share reply is
read. -/
def execBusyHoldRelease (n : Nat) (s : State) : Host.Outcome State Fault Refusal :=
  match s.ccb.trans, s.fnt.collect with
  | some t, some k =>
    if t.slot ≠ n || t.busyFrom.isNone then .next s
    else if k.stage = 2 then .next ((s.setCollect { k with stage := 3 }).sendGet t 1 0)
    else if k.stage = 6 then .next ((s.setCollect { k with stage := 7 }).sendGet t 2 0)
    else
      match s.fnt.session with
      | some x =>
        .next (({ s with fnt := { s.fnt with session := some { x with confirmed := x.confirmed ++ [idNum k.tokenId] } } }).setCollect { k with stage := 8 }
          |>.setTrans none)
      | none => .next (s.endCollect 0x0231 [])
  | _, _ => .next s

/-- Busy bound of a command in ns (R527). -/
def busyBound (op : Nat) : Nat := if op = 0x12 then 2000000000 else 500000000

/-- BUSY_HOLD_TIMEOUT (R526): handled as a removal followed by bring-up. -/
def execBusyHoldTimeout (n : Nat) (s : State) : Host.Outcome State Fault Refusal :=
  match s.ccb.trans with
  | none => .next s
  | some t =>
    match t.busyFrom with
    | none => .next s
    | some b => if t.slot = n && decide (b + busyBound t.opcode < s.now) then .next (s.transFails t) else .next s

end Sys2Proof.Machine
end

