-- ==== Sys2Proof/Machine/WeirCheck.lean ====
section
/-! DEFINITION. Weir's check of an access (R396 to R404, R411): targets, private ranges, the default map, the tables, denials. -/

namespace Sys2Proof.Machine

/-! ## Targets (R398 to R400) -/

/-- The target of an address: 0 peripheral, 1 basin SRAM, 2 staging, 3 Fountainhead SRAM, 4 MRAM, 5 FRAM, 6 boot ROM, 7 OTP words,
8 vault; none where it is unmapped. -/
def targetOf (a : Nat) : Option Nat :=
  if a < 0x800000 then some 0
  else if 0x10000000 ≤ a && a < 0x12000000 then some 1
  else if 0x20000000 ≤ a && a < 0x21000000 then some 2
  else if 0x21000000 ≤ a && a < 0x21400000 then some 3
  else if 0x30000000 ≤ a && a < 0x31000000 then some 4
  else if 0x31000000 ≤ a && a < 0x31008000 then some 5
  else if 0x32000000 ≤ a && a < 0x32080000 then some 6
  else if 0x33000000 ≤ a && a < 0x33001000 then some 7
  else if 0x400000000 ≤ a && a < 0x800000000 && a % 0x100000000 < 0xE0000000 then some 8
  else none

/-- The unit that answers at an address (R398, R400), by its number; 16 for a unit that no reset of its own ever renews. -/
def unitAt (a : Nat) : Nat :=
  match targetOf a with
  | some 0 =>
    let k := a / 0x10000
    if k < 16 then k % 8
    else if k < 18 then k - 2
    else if k = 18 then 9
    else if k = 21 then 10
    else if k = 22 then 11
    else if k = 24 then 12
    else if k = 25 || k = 26 then 13
    else if k = 27 || k = 34 then 8
    else 16
  | some 1 => (a - 0x10000000) / 0x400000
  | some 2 => 9
  | some 8 => 11
  | _ => 8

/-- The private ranges of R399 that lie in memory, each with the initiators it permits: a basin's key cache, the lower half of its SRAM, and its fill
buffer, the last 16 KiB of its operand area (log entry 43); the completion store and the key region of every die. -/
def privateRanges (s : State) : List (Nat × Nat × List Nat) :=
  (List.range 8).flatMap (fun n => [(localBase n, localBase n + 0x200000, [0x1B, 0x10 + n]), (localBase n + 0x3FC000, localBase n + 0x400000, [0x1B, 0x10 + n])])
    ++ (List.range 4).flatMap (fun d =>
      let base := 0x400000000 + 0x100000000 * d
      [(base, base + 0x6000000, [0x18, 0x19, 0x1A, 0x1C]), (base + 0x6000000, base + (96 + 128 * dieCopies s.keyUnits d) * 0x100000, [0x1B, 0x1C])])

/-- Boundaries at which an access is split whatever the tables say: the ranges of R398 and R399. -/
def fixedCuts (s : State) : List Nat :=
  [0x800000, 0x20000000, 0x21000000, 0x21400000, 0x30000000, 0x31000000, 0x31008000, 0x32000000, 0x32080000, 0x33000000, 0x33001000]
    ++ (List.range 9).map localBase
    ++ (List.range 8).flatMap (fun n => [0x10000 * n + 0x5000, 0x10000 * n + 0x6000])
    ++ (List.range 4).flatMap (fun d => [0x400000000 + 0x100000000 * d, 0x4E0000000 + 0x100000000 * d])
    ++ (privateRanges s).flatMap (fun r => [r.1, r.2.1])

/-- The parts of an access: (address, length), split at every boundary inside it (R403). -/
def splitAt_ (cuts : List Nat) : Nat → Nat → Nat → List (Nat × Nat)
  | 0, a, n => [(a, n)]
  | k + 1, a, n =>
    match (cuts.filter (fun c => decide (a < c) && decide (c < a + n))).foldl (fun m c => match m with | none => some c | some x => some (min x c)) (none : Option Nat) with
    | none => [(a, n)]
    | some c => (a, c - a) :: splitAt_ cuts k c (a + n - c)

/-! ## Permissions (R401, R402) -/

/-- How tables answer a part: permitted, refused for the ring alone, refused. -/
inductive Grant where
  | yes
  | ring
  | no
  deriving DecidableEq, Repr

/-- A slot entry on a part in peripheral space (step 3). -/
def slotGrant (ws : WeirSet) (init ring slot : Nat) (write : Bool) : Grant :=
  match ws.slots[slot]? with
  | none => .no
  | some e =>
    if !(if write then e.wrMask else e.rdMask).getLsbD init then .no
    else if ring ≤ (if write then e.maxW else e.maxR) then .yes else .ring

/-- A region covers a part with the right (step 4), the ring apart. -/
def regionCovers (r : WeirRegion) (a n : Nat) (write : Bool) : Bool :=
  r.log2Size != 0 && decide (r.base ≤ a) && decide (a + n ≤ r.base + 2 ^ r.log2Size) && (if write then r.wr else r.rd)

/-- Region entries on a part (step 4). -/
def regionGrant (rs : List WeirRegion) (ring a n : Nat) (write : Bool) : Grant :=
  let hits := rs.filter (fun r => regionCovers r a n write)
  if hits.any (fun r => decide (ring ≤ r.maxRing)) then .yes else if hits.isEmpty then .no else .ring

/-- The default map for a pair at ring 0 (R402). -/
def defaultPair (pair a : Nat) (write : Bool) : Bool :=
  match targetOf a with
  | none => false
  | some t =>
    if pair = 8 then (t == 0 && decide (a / 0x10000 ≤ 34)) || t == 1 || t == 2 || t == 3 || t == 4 || t == 5 || ((t == 6 || t == 7) && !write)
    else (t == 0 && (a / 0x10000 == pair || a / 0x10000 == 8 + pair)) || (t == 1 && (a - 0x10000000) / 0x400000 == pair)

/-- The work region of a vault die (R301). -/
def inWorkRegion (s : State) (a : Nat) : Bool := targetOf a == some 8 && decide ((96 + 128 * dieCopies s.keyUnits ((a - 0x400000000) / 0x100000000)) * 0x100000 ≤ a % 0x100000000)

/-- The default map for a hardware initiator (R396, R402). -/
def defaultHw (s : State) (init a : Nat) : Bool :=
  match targetOf a with
  | none => false
  | some t =>
    let slot (k : Nat) : Bool := t == 0 && a / 0x10000 == k
    if 0x10 ≤ init && init < 0x18 then
      slot (init - 0x10) || (t == 1 && (a - 0x10000000) / 0x400000 == init - 0x10) || t == 2 || inWorkRegion s a
    else if init = 0x18 || init = 0x19 then t == 2
    else if init = 0x1A then (t == 0 && decide (a / 0x10000 < 8)) || slot 18 || t == 2 || t == 1
    else if init = 0x1B then slot 21 || t == 1 || t == 4
    else if init = 0x1C then slot 22 || t == 2 || t == 4
    else if init = 0x1D then slot 24 || t == 1 || t == 3
    else if init = 0x1E then slot 25 || slot 26 || t == 4 || t == 5
    else false

/-- A part lies in a private range that the initiator, at its ring, may not touch (R399). -/
def privateDenied (s : State) (init ring a : Nat) (write : Bool) : Bool :=
  (privateRanges s).any (fun r => decide (r.1 ≤ a) && decide (a < r.2.1) && !r.2.2.contains init)
    || (decide (a < 0x80000) && a % 0x10000 / 0x1000 == 5 && !(init == a / 0x10000 && decide (ring ≤ 1)))
    || (targetOf a == some 7 && write)

/-- The Weir set of the active image. -/
def weirSet (s : State) (b : Bool) : WeirSet :=
  match s.lay.active with | some l => if b then l.weirB else l.weirA | none => {}

/-- The set a pair's checks use (R410). -/
def pairSet (s : State) (p : Nat) : Bool :=
  let m := (s.pair p).ksel
  if m = 1 then false else if m = 2 then true else s.wei.live

/-- A part's cause of denial, 0 when it is permitted (R401, WEI_LAST_DENY.CAUSE). -/
def partCause (s : State) (init ring : Nat) (set : Bool) (a n : Nat) (write : Bool) : Nat :=
  match targetOf a with
  | none => 4
  | some t =>
    if privateDenied s init ring a write then 3
    else if 0x10 ≤ init then (if defaultHw s init a then 0 else 1)
    else
      let g : Grant :=
        if init = 9 then
          (match s.wei.dbg with
           | none => .no
           | some d =>
             if t = 0 then (if 35 ≤ a / 0x10000 then .no else if (if write then d.slotWr else d.slotRd).getLsbD (a / 0x10000) then .yes else .no)
             else if d.regions.any (fun r => regionCovers r a n write) then .yes else .no)
        else if t = 0 then (if 35 ≤ a / 0x10000 then .no else slotGrant (weirSet s set) init ring (a / 0x10000) write)
        else regionGrant ((weirSet s set).regions.getD init []) ring a n write
      if g = .yes || (ring = 0 && init ≤ 8 && defaultPair init a write) then 0 else if g = .ring then 2 else 1

/-- Region boundaries of an initiator. -/
def regionCuts (s : State) (init : Nat) (set : Bool) : List Nat :=
  let rs := if init = 9 then (match s.wei.dbg with | some d => d.regions | none => []) else (weirSet s set).regions.getD init []
  rs.flatMap (fun r => if r.log2Size = 0 then [] else [r.base, r.base + 2 ^ r.log2Size])

/-- The check (R401, R403): none where every part is permitted, else the cause and the offset of the first denied part. -/
def weirCheck (s : State) (init ring : Nat) (set : Bool) (a n : Nat) (write : Bool) : Option (Nat × Nat) :=
  let slots := (List.range 128).map (fun k => 0x10000 * (k + 1))
  let parts := splitAt_ (fixedCuts s ++ slots ++ regionCuts s init set) 64 a n
  (parts.find? (fun p => partCause s init ring set p.1 p.2 write != 0)).map (fun p => (partCause s init ring set p.1 p.2 write, p.1 - a))

/-- The 128 bits of WEI_LAST_DENY and WEI_KFAULT. -/
def denyBits (s : State) (init ring : Nat) (set : Bool) (a n : Nat) (write : Bool) (cause off : Nat) : BitVec 128 :=
  BitVec.ofNat 128 (a % 2 ^ 40 + bitNat write * 2 ^ 40 + ring % 4 * 2 ^ 41 + bitNat set * 2 ^ 43 + cause % 16 * 2 ^ 44 + (n - 1) % 2 ^ 12 * 2 ^ 48
    + init % 32 * 2 ^ 60 + off % 2 ^ 12 * 2 ^ 65 + s.now % 2 ^ 48 * 2 ^ 80)

/-- A denial is counted and recorded (R404). -/
def State.recordDeny (s : State) (d : BitVec 128) : State := { s with wei := { s.wei with denies := s.wei.denies + 1, lastDeny := d } }

/-! ## Hardware initiators (R396, R404) -/

/-- A denied access of a hardware initiator is recorded, sets HW_DENY and is handled as a fabric-tag failure of the initiator (R404, R416). -/
def State.hwDenied (s : State) (init a n : Nat) (write : Bool) (cause off : Nat) (e : Option Nat) : State :=
  let s1 := ((s.recordDeny (denyBits s init 0 s.wei.live a n write cause off)).weiEvent 4).tagFailure
  if init < 0x18 then s1.detected (init - 0x10) 6 12 e else s1.resend (if init < 0x1A then init - 10 else init - 17)

/-- Weir's check of a hardware initiator's access at its issue: what its denial leaves, none where it is permitted (R401, R404). -/
def State.hwCheck (s : State) (init a n : Nat) (write : Bool) (e : Option Nat) : Option State :=
  (weirCheck s init 0 s.wei.live a n write).map (fun c => s.hwDenied init a n write c.1 c.2 e)

end Sys2Proof.Machine
end

