-- ==== Sys2Proof/Machine/Jets.lean ====
section
/-! DEFINITION. Keeper jobs on the jets (10): JET_JOB's fields, its checks, its run and its end (R244 to R246). -/

namespace Sys2Proof.Machine

/-! ## Fields of JET_JOB -/

def jobAlg (j : Nat) : Nat := bitsAt j 0 8
def jobMode (j : Nat) : Nat := bitsAt j 8 4
def jobDir (j : Nat) : Bool := bitAt j 12
def jobDraws (j : Nat) : Bool := bitAt j 13
def jobKey (j : Nat) : Nat := bitsAt j 32 13
def jobFill (j : Nat) : Bool := bitAt j 45
def jobSrc (j : Nat) : Nat := bitsAt j 64 32
def jobDst (j : Nat) : Nat := bitsAt j 96 32
def jobLen (j : Nat) : Nat := bitsAt j 128 32
def jobAux (j : Nat) : Nat := bitsAt j 160 16
def jobRadix (j : Nat) : Nat := if bitsAt j 176 16 = 0 then 65536 else bitsAt j 176 16
def jobEntry (j : Nat) : Nat := bitsAt j 192 14

/-- A hash code. -/
def isHashAlg (a : Nat) : Bool := [0x10, 0x11, 0x12, 0x18, 0x19, 0x1A, 0x1C, 0x1D].contains a

/-- The job runs on a hash jet. -/
def jobHashes (j : Nat) : Bool := isHashAlg (jobAlg j)

/-! ## Checks (R245) -/

/-- ALG and MODE form a combination of R224 or R232; a nonce is drawn only for a GCM or CCM seal. -/
def jobCodeOk (j : Nat) : Bool :=
  let a := jobAlg j
  let m := jobMode j
  let ok :=
    if isHashAlg a then m == 0 || (m == 0xB && a != 0x1C && a != 0x1D)
    else if isAes a then [1, 2, 3, 4, 5, 7, 8, 0xA].contains m || (m == 6 && a != 2)
    else if isTdes a then [1, 2, 7, 8].contains m || (m == 9 && a == 4)
    else false
  ok && (!jobDraws j || ((m == 4 || m == 5) && !jobDir j))

/-- Bytes of one FF1 numeral of a job, and their number: one byte where the radix lets it (log entry 142). -/
def jobWidth (j : Nat) : Nat := if jobRadix j ≤ 256 then 1 else 2
def jobNumerals (j : Nat) : Nat := jobLen j / jobWidth j

/-- LEN and AUX lie within the mode's limits (R229 to R231). -/
def jobLengthOk (j : Nat) : Bool :=
  let m := jobMode j
  let n := jobLen j
  let bl := blockLen (jobAlg j)
  let u := 16 * jobAux j
  if jobHashes j then true
  else if m = 1 then n == bl
  else if m = 2 then decide (0 < n) && n % bl == 0
  else if m = 5 then decide (n < 2 ^ 24) && decide (4 ≤ jobAux j) && decide (jobAux j ≤ 16) && jobAux j % 2 == 0
  else if m = 6 then decide (16 ≤ n) && decide (1 ≤ jobAux j) && (n % u == 0 || decide (16 ≤ n % u))
  else if m = 0xA then
    decide (2 ≤ jobRadix j) && decide (jobAux j ≤ 64) && n % jobWidth j == 0 && decide (2 ≤ jobNumerals j)
      && decide (jobRadix j ^ ((min (jobNumerals j) 200 + 1) / 2) ≤ 2 ^ 96)
  else true

/-- The record a job's key entry holds for its retire entry: named by its command in the key cache, or marked in the fill buffer. -/
def jobRecord (s : State) (b j : Nat) : Option Record :=
  let x := s.basin b
  if jobFill j then
    match x.fill[jobKey j]? with
    | some k => if k.marks.contains (jobEntry j) then k.record else none
    | none => none
  else
    match x.cache[jobKey j]? with
    | some k => match s.cmd (jobEntry j) with
      | some c => if key1Of c.desc == k.handle || key2Of c.desc == k.handle then some k.record else none
      | none => none
    | none => none

/-- The job needs a key. -/
def jobKeyed (j : Nat) : Bool := !(jobHashes j && jobMode j == 0)

/-- An extent lies in the sequencer operand area: local offsets 0x30_0000 to 0x3F_FFFF (R16, 18). -/
def inOperandArea (off n : Nat) : Bool := decide (0x300000 ≤ off) && decide (off + n ≤ 0x400000)

/-- The error of a job, 0 for none (R245). -/
def jobFails (s : State) (b j : Nat) : Nat :=
  if !jobCodeOk j then 1
  else if !jobLengthOk j then 2
  else if jobKeyed j && (jobRecord s b j).isNone then 3
  else if !(inOperandArea (jobSrc j) (jobLen j) && inOperandArea (jobDst j) (jobLen j)) then 4
  else 0

/-! ## The run -/

/-- The XTS data unit of a job, 0 for the other modes. -/
def jobUnit (j : Nat) : Nat := if jobMode j = 6 && !jobHashes j then 16 * jobAux j else 0

/-- Lanes a job uses, at least one (R224, R225, R229, R232). -/
def jobLaneCount (j : Nat) : Nat :=
  if jobHashes j then 1
  else if jobMode j = 5 then 2
  else if [3, 4, 6].contains (jobMode j) then max 1 (min 8 (stripeCount (jobUnit j) (jobLen j)))
  else 1

/-- Blocks or compressions that the i-th lane of a job with `out` result bytes runs (R225, R226, R229, R231 to R233): each further rate-sized block
of an extendable output costs one more permutation. -/
def jobBlocks (j out i : Nat) : Nat :=
  let m := jobMode j
  let p := ceilDiv (jobLen j) (blockLen (jobAlg j))
  if jobHashes j then
    hashBlocks (jobAlg j) (jobLen j) + (if m = 0xB then 3 else 0)
      + (if jobAlg j = 0x1C || jobAlg j = 0x1D then ceilDiv out (hashRate (jobAlg j)).1 - 1 else 0)
  else if [3, 4, 6].contains m then jetBlocks (jobUnit j) (jobLen j) (jobLaneCount j) i
  else if m = 5 then p + (if i = 0 then 2 else 1)
  else if m = 0xA then 1 + 10 * ceilDiv (jobAux j + ff1B (jobRadix j) (jobNumerals j) + 1) 16
  else max 1 p

/-- Fixed digest bytes of a hash code; the extendable ones have none. -/
def jobDigest (a : Nat) : Option Nat :=
  if a = 0x10 || a = 0x18 then some 32 else if a = 0x11 || a = 0x19 then some 48 else if a = 0x12 || a = 0x1A then some 64 else none

/-- What a job reads that the spec places nowhere, each an open value (log entry 142): an IV, counter block or tweak; additional data or a tweak of
AUX bytes; a second key; a supplied tag; and a count. -/
structure JobInputs where
  iv : Bytes
  aux : Bytes
  key2 : Bytes
  tag : Bytes
  count : Nat

/-- Take a job's open inputs. -/
def State.jobInputs (s : State) (j : Nat) : JobInputs × State :=
  let a := s.freeBytes 16
  let b := a.2.freeBytes (jobAux j)
  let c := b.2.freeBytes 32
  let d := c.2.freeBytes 64
  ({ iv := a.1, aux := b.1, key2 := c.1, tag := d.1, count := beNat (Config.freeBytes d.2.freeCtr 3) }, { d.2 with freeCtr := d.2.freeCtr + 1 })

/-- The MAC of a job over its input (R224). -/
def jobMac (j : Nat) (key input : Bytes) (x : JobInputs) : Bytes :=
  let a := jobAlg j
  let full := input ++ (x.tag.take ((blockLen a - input.length % blockLen a) % blockLen a))
  if jobMode j = 7 then cmacOf a key input else if jobMode j = 8 then macAlg1 a key full else macAlg3 key full

/-- A verification compares every byte and reports only equal, 1, or not equal, 0 (R238, log entry 142). -/
def verdictByte (mac tag : Bytes) : Bytes := [if mac == tag.take mac.length then 1 else 0]

/-- The result of a cipher job over its input (R227 to R231). A sealing job's tag follows its ciphertext (log entry 142). -/
def cipherResult (j : Nat) (key nonce input : Bytes) (x : JobInputs) : Bytes :=
  let a := jobAlg j
  let m := jobMode j
  let dec := jobDir j
  let bl := blockLen a
  let n := if jobDraws j then nonce else x.iv.take 12
  if m = 1 then (if dec then decBlock else encBlock) a key input
  else if m = 2 then (if dec then cbcDec (decBlock a key) bl x.iv input else cbcEnc (encBlock a key) bl x.iv input)
  else if m = 3 then ctrFrom key n (beNat (x.iv.drop 12)) input
  else if m = 4 then
    (if dec then (gcmOpen key n x.aux input x.tag).getD [] else let r := gcmSeal key n x.aux input; r.1 ++ r.2)
  else if m = 5 then
    (if dec then (ccmOpen key n [] input (x.tag.take (jobAux j))).getD [] else let r := ccmSeal key n [] input (jobAux j); r.1 ++ r.2)
  else if m = 6 then
    ((blocksOf (jobUnit j) input).zipIdx.map (fun p => xtsUnit key x.key2 (natLe 16 ((leNat x.iv + p.2) % 2 ^ 128)) p.1 (!dec))).flatten
  else if m = 0xA then ((Config.ff1 key x.aux (jobRadix j) (numerals (jobWidth j) (jobNumerals j) input) (!dec)).map (natLe (jobWidth j))).flatten
  else if dec then verdictByte (jobMac j key input x) x.tag
  else jobMac j key input x

/-- The result of a job (R244): what the spec places nowhere, and the length of an extendable output, is open (log entry 142). -/
def jobResult (s : State) (j : Nat) (key nonce input : Bytes) : Bytes × State :=
  let a := jobAlg j
  let x := s.jobInputs j
  if jobHashes j then
    match jobDigest a with
    | some n =>
      (if jobMode j = 0 then padTo n (Config.hash a n input)
       else if jobDir j then verdictByte (padTo n (Config.hmac a key input)) x.1.tag
       else padTo n (Config.hmac a key input), x.2)
    | none => (padTo x.1.count (Config.hash a x.1.count input), x.2)
  else (cipherResult j key nonce input x.1, x.2)

/-- A job ends with an error, before any jet runs. -/
def State.failJob (s : State) (b j err : Nat) : State :=
  let x := s.basin b
  (s.setBasin b { x with job := BitVec.ofNat 256 j, jobState := 3, jobError := err, jobLanes := 0, jobDone := true, jobErr := true
                         jetEvent := x.jetEvent.set 2 }).irq b 2

/-- Bytes of local SRAM that a job wrote are noted with the command it belongs to (R184, R244). -/
def State.noteBufs (s : State) (j : Nat) (l : List (Nat × Nat)) : State :=
  match s.cmd (jobEntry j) with
  | some c => s.setCmd (jobEntry j) { c with bufs := l ++ c.bufs }
  | none => s

/-- The nonce of a job that draws one, from its key's own copy in the basin: none where its key's block is not yet persisted. -/
def State.jobNonceDraw (s : State) (b j : Nat) : Option (Bytes × State) :=
  if !jobDraws j then some ([], s)
  else
    match (s.basin b).copyOf (s.basin b).jobHandle with
    | none => some ([], s)
    | some r => if s.canDraw r.handle then let d := s.drawNonce r.handle r.nonceField; some (d.1, d.2.noteSpent (jobEntry j) r.handle) else none

/-- A job that waits finds its key's block spent: the next one is reserved, once its command's verdict is ALLOW (R175, R178). -/
def State.reserveForJob (s : State) (b e : Nat) : State :=
  let x := s.basin b
  match s.cmd e with
  | some c =>
    if s.jobRuns b e && x.jobLanes == 0 && c.verdict == .allow && (s.jobNonceDraw b x.job.toNat).isNone then s.reserveBlock x.jobHandle e else s
  | none => s

/-- The jets a job needs are free, with their mask generators (R235, R244). -/
def jobFits (s : State) (b j : Nat) : Bool :=
  decide (jobLaneCount j ≤ (freeLanes (s.basin b) (jobHashes j)).length) && (s.drbg b).inst && (jobHashes j || masksReady s b (jobLaneCount j))

/-- The jets of a running job are allocated once they are free: its nonce is drawn, its key loaded (R235, R239, R244). Until then it waits, and a later
JOB_DONE tries again (log entry 142). -/
def State.allocJob (s : State) (b : Nat) : State :=
  let x := s.basin b
  let j := x.job.toNat
  if !jobFits s b j then s
  else
    match s.jobNonceDraw b j with
    | none => s.reserveForJob b (jobEntry j)
    | some (nonce, s1) =>
      let ls := (freeLanes x (jobHashes j)).take (jobLaneCount j)
      let key := match x.copyOf x.jobHandle with | some r => r.key | none => []
      let y := s1.basin b
      (s1.setBasin b { y with jobLanes := BitVec.ofNat 10 ((ls.map (fun i => 2 ^ i)).sum)
                              jobNonce := if jobDraws j then BitVec.ofNat 96 (leNat nonce) else y.jobNonce }).claimLanes b (jobEntry j) ls
        (jobAlg j, jobMode j) key

/-- A job starts (R244, R245): its buffers are noted, its input is read under Weir's check, its jets are allocated. A start while STATE is RUNNING is
discarded. -/
def State.startJob (s : State) (b : Nat) (job : BitVec 256) : State :=
  let x := s.basin b
  let j := job.toNat
  if 8 ≤ b || x.jobState = 1 then s
  else
    let err := jobFails s b j
    if err ≠ 0 then s.failJob b j err
    else
      match s.hwCheck (0x10 + b) (localBase b + jobSrc j) (max 1 (jobLen j)) false (some (jobEntry j)) with
      | some t => t
      | none =>
        let h := match jobRecord s b j with | some r => r.handle | none => 0
        ((s.setBasin b { x with job := job, jobState := 1, jobError := 0, jobLanes := 0, jobHandle := h }).noteBufs j
          [(jobSrc j, jobLen j), (jobDst j, jobLen j)]).allocJob b

/-- JET_JOB (R244, R245): the whole job word. -/
def execJetJob (b : Nat) (job : BitVec 256) (s : State) : Host.Outcome State Fault Refusal := .next (s.startJob b job)

/-- The lanes of a job with `out` result bytes are zeroised and freed, with their block counts (R222, R225). -/
def jobLanesFreed (x : Basin) (j out : Nat) : Basin :=
  let mine := (List.range 10).filter (fun i => x.jobLanes.getLsbD i)
  { x with lanes := x.lanes.map (fun (p : Nat × Lane) => match mine.findIdx? (· == p.1) with | some i => (p.1, p.2.freed (jobBlocks j out i)) | none => p) }

/-- The key that a job's jets hold. -/
def jobKeyOf (x : Basin) : Bytes :=
  match (List.range 10).find? (fun i => x.jobLanes.getLsbD i) with
  | some i => (tabGet x.lanes i {}).secret.key
  | none => []

/-- The end of a job whose jets are allocated: its result is in DST, its lanes are free, JOB_DONE sets (R239, R244, R246). -/
def State.endJob (s : State) (b : Nat) : State :=
  let x := s.basin b
  let j := x.job.toNat
  let nonce := if jobDraws j then natLe 12 x.jobNonce.toNat else []
  let r := jobResult s j (jobKeyOf x) nonce (memReadN s.mem (localBase b + jobSrc j) (jobLen j))
  let out := r.1.take (0x400000 - jobDst j)
  match r.2.hwCheck (0x10 + b) (localBase b + jobDst j) (max 1 out.length) true (some (jobEntry j)) with
  | some t => t
  | none =>
    let s2 := ({ r.2 with mem := memWriteN r.2.mem (localBase b + jobDst j) out }).noteBufs j [(jobDst j, out.length)]
    (s2.setBasin b { jobLanesFreed (s2.basin b) j out.length with jobState := 2, jobError := 0, jobDone := true }).irq b 2

/-- JOB_DONE (R239, R244, R246): the job ends; one that still waits for its jets or its nonce takes them where it can. -/
def execJobDone (b : Nat) (s : State) : Host.Outcome State Fault Refusal :=
  let x := s.basin b
  if 8 ≤ b || x.jobState ≠ 1 then .next s
  else if x.jobLanes = 0 then .next (s.allocJob b)
  else .next (s.endJob b)

end Sys2Proof.Machine
end

