-- ==== Sys2Proof/Machine/Cascade.lean ====
section
/-! DEFINITION. The Cascade (11): its private memory, contexts and commands (R247 to R268). A command's effect is applied when it
starts; its end adds its cycles and starts the next one (log entry 40). -/

namespace Sys2Proof.Machine

/-! ## Private memory (R247 to R250) -/

/-- n of a command word. -/
def casN (o : CasOps) : Nat := o.nw + 1

/-- q of a lattice command (R249). -/
def casQ (o : CasOps) : Nat := if bitAt o.mode 0 then 8380417 else 3329

/-- Slot i. -/
def Cascade.slot (x : Cascade) (i : Nat) : CasSlot := tabGet x.slots i {}

/-- The data of `k` slots from s. -/
def Cascade.read (x : Cascade) (s : Nat) : Nat → List (BitVec 128)
  | 0 => []
  | k + 1 => (x.slot s).data :: x.read (s + 1) k

/-- A number from its words, word 0 least significant (R249). -/
def ofWords : List (BitVec 128) → Nat
  | [] => 0
  | w :: r => w.toNat + 2 ^ 128 * ofWords r

/-- The n words of a number. -/
def toWords : Nat → Nat → List (BitVec 128)
  | 0, _ => []
  | k + 1, v => BitVec.ofNat 128 v :: toWords k (v / 2 ^ 128)

/-- The big number of n words at s. -/
def Cascade.num (x : Cascade) (s n : Nat) : Nat := ofWords (x.read s n)

/-- The bytes of `k` slots from s (R249). -/
def Cascade.bytes (x : Cascade) (s k : Nat) : Bytes := ((x.read s k).map (fun w => natLe 16 w.toNat)).flatten

/-- The words of a byte string, the last one zero-padded. -/
def wordsOf : Nat → Bytes → List (BitVec 128)
  | 0, _ => []
  | k + 1, bs => BitVec.ofNat 128 (leNat (bs.take 16)) :: wordsOf k (bs.drop 16)

/-- The 256 coefficients of the polynomial at s (R249). -/
def Cascade.poly (x : Cascade) (s : Nat) : List Nat :=
  ((x.read s 64).map (fun w => (List.range 4).map (fun i => bitsAt w.toNat (32 * i) 32))).flatten

/-- The slots of a polynomial. -/
def polyWords : Nat → List Nat → List (BitVec 128)
  | 0, _ => []
  | k + 1, cs => BitVec.ofNat 128 (((cs.take 4).zipIdx.map (fun p => p.1 % 2 ^ 32 * 2 ^ (32 * p.2))).sum) :: polyWords k (cs.drop 4)

/-- Some of `k` slots from s is tainted. -/
def Cascade.tainted (x : Cascade) (s : Nat) : Nat → Bool
  | 0 => false
  | k + 1 => (x.slot s).t || x.tainted (s + 1) k

/-- Ranges [a, a+m) and [b, b+n) meet. -/
def overlaps (a m b n : Nat) : Bool := decide (a < b + n) && decide (b < a + m)

/-- Contexts whose 2n slots meet a written range become invalid, but context `keep` (R250). -/
def Cascade.dropCtxs (x : Cascade) (base len : Nat) (keep : Option Nat) : Cascade :=
  { x with ctxs := x.ctxs.filter (fun (p : Nat × CasCtx) => some p.1 == keep || !overlaps p.2.s (2 * p.2.n) base len) }

/-- Put words from a base, with T as given and U set (R258). -/
def putSlots : Tab CasSlot → Nat → Bool → List (BitVec 128) → Tab CasSlot
  | m, _, _, [] => m
  | m, i, t, w :: r => putSlots (tabSet m i { data := w, t := t, u := true }) (i + 1) t r

/-- Write words. -/
def Cascade.write (x : Cascade) (base : Nat) (ws : List (BitVec 128)) (t : Bool) : Cascade :=
  { x.dropCtxs base ws.length none with slots := putSlots x.slots base t ws }

/-- Wipe `len` slots from a base (R248). -/
def Cascade.wipe (x : Cascade) (base len : Nat) : Cascade :=
  { x.dropCtxs base len none with slots := x.slots.filter (fun (p : Nat × CasSlot) => !(decide (base ≤ p.1) && decide (p.1 < base + len))) }

/-- The slots with U set. -/
def Cascade.touched (x : Cascade) : Nat := (x.slots.filter (fun (p : Nat × CasSlot) => p.2.u)).length

/-- Every touched slot and every context is wiped, and the Cascade has no owner. -/
def Cascade.release (x : Cascade) : Cascade :=
  { x with slots := x.slots.filter (fun (p : Nat × CasSlot) => !p.2.u), ctxs := [], owner := none, seqOpen := false, wiping := false, wipeFor := none }

/-! ## Arithmetic -/

/-- Extended Euclid on (r0, r1) with the coefficients of r0 and r1: the gcd and its coefficient. -/
def euclid : Nat → Int → Int → Int → Int → Int × Int
  | 0, r0, _, t0, _ => (r0, t0)
  | k + 1, r0, r1, t0, t1 => if r1 = 0 then (r0, t0) else euclid k r1 (r0 % r1) t1 (t0 - r0 / r1 * t1)

/-- The inverse of a mod m, 0 if none exists; `k` bounds the steps. -/
def modInv (k a m : Nat) : Nat :=
  let g := euclid k (m : Int) ((a % m : Nat) : Int) 0 1
  if g.1 = 1 then (g.2 % (m : Int)).toNat else 0

/-- a^b mod m over the low l bits of b, most significant first (R253). -/
def modExp (a b m : Nat) : Nat → Nat
  | 0 => 1 % m
  | l + 1 => let half := modExp a (b / 2) m l
             let sq := half * half % m
             if b % 2 = 1 then sq * a % m else sq

/-- Montgomery R of n words (R250). -/
def montR (n : Nat) : Nat := 2 ^ (128 * n)

/-- A residue as a modular command returns it: itself when every operand was less than m, otherwise an open congruent value of n
words (R251, log entry 1). -/
def congruent (s : State) (r m n : Nat) (reduced : Bool) : Nat × State :=
  if reduced then (r, s)
  else
    let v := s.freeBits 64
    let room := (montR n - 1 - r) / m + 1
    (r + v.1.toNat % room * m, v.2)

/-- MM(n) (11). -/
def mmCycles (n : Nat) : Nat := max 4 (ceilDiv (13 * n * n) 16)

/-! ## What starting a command does -/

/-- The outcome of a start. -/
inductive CasStart where
  | ran (s : State)
  | error (code : Nat)
  | failed (s : State)   -- ended by a detected fault, or by the end of its host command
  | wait                 -- it waits for random words or a hash jet

/-- The range of `len` slots from a base stays within slot 0xFFF (R249). -/
def inMem (base len : Nat) : Bool := decide (base + len ≤ 4096)

/-- Write a result of basin b's Cascade. -/
def State.casPut (s : State) (b base : Nat) (ws : List (BitVec 128)) (t : Bool) : State :=
  let x := s.basin b
  s.setBasin b { x with cas := x.cas.write base ws t }

/-- The Cascade of basin b changes. -/
def State.mapCas (s : State) (b : Nat) (f : Cascade → Cascade) : State :=
  let x := s.basin b
  s.setBasin b { x with cas := f x.cas }

/-- The valid context a modular command names, of its own n (R250). -/
def casCtx (x : Cascade) (o : CasOps) : Option CasCtx :=
  match tabFind x.ctxs o.ctx with | some c => if c.n = (casN o) then some c else none | none => none

/-- A modular command: `len` words read at A, B read when `two`, and the residue `f m a b`. -/
def modular (s : State) (b : Nat) (o : CasOps) (lenA : Nat) (two : Bool) (exact : Bool) (f : Nat → Nat → Nat → Nat) : CasStart :=
  let x := (s.basin b).cas
  if !(inMem o.d (casN o) && inMem o.a lenA && (!two || inMem o.b (casN o))) then .error 2
  else
    match casCtx x o with
    | none => .error 3
    | some c =>
      let va := x.num o.a lenA
      let vb := if two then x.num o.b (casN o) else 0
      let r := congruent s (f c.m va vb % c.m) c.m (casN o) (exact || (decide (va < c.m) && decide (vb < c.m)))
      .ran (r.2.casPut b o.d (toWords (casN o) r.1) (c.taint || x.tainted o.a lenA || (two && x.tainted o.b (casN o))))

/-- MODSET (R250). -/
def casModset (s : State) (b : Nat) (o : CasOps) : CasStart :=
  let x := (s.basin b).cas
  if !inMem o.a (2 * (casN o)) then .error 2
  else
    let m := x.num o.a (casN o)
    if m % 2 = 0 || m ≤ 1 then .error 3
    else
      let t := x.tainted o.a (casN o)
      let base := o.a + (casN o)
      .ran (s.mapCas b (fun y =>
        { y.dropCtxs base (casN o) (some o.ctx) with
          slots := putSlots y.slots base t (toWords (casN o) (montR (casN o) * montR (casN o) % m))
          ctxs := tabSet (y.dropCtxs base (casN o) (some o.ctx)).ctxs o.ctx { s := o.a, n := (casN o), taint := t, m := m } }))

def casMadd (s : State) (b : Nat) (o : CasOps) : CasStart := modular s b o (casN o) true false (fun _ u v => u + v)
def casMsub (s : State) (b : Nat) (o : CasOps) : CasStart := modular s b o (casN o) true false (fun m u v => u + (m - v % m))
def casMmul (s : State) (b : Nat) (o : CasOps) : CasStart :=
  modular s b o (casN o) true false (fun m u v => u * v * modInv (256 * (casN o) + 2) (montR (casN o)) m)
def casMred (s : State) (b : Nat) (o : CasOps) : CasStart := modular s b o (2 * (casN o)) false true (fun _ u _ => u)
def casMinv (s : State) (b : Nat) (o : CasOps) : CasStart := modular s b o (casN o) false false (fun m u _ => modInv (256 * (casN o) + 2) u m)

/-- MEXP (R253): L from 1 to 128n + 32, B of ceil(L / 128) slots. -/
def casMexp (s : State) (b : Nat) (o : CasOps) : CasStart :=
  let x := (s.basin b).cas
  let k := ceilDiv o.l 128
  if !(inMem o.d (casN o) && inMem o.a (casN o) && inMem o.b k) then .error 2
  else if o.l = 0 || 128 * (casN o) + 32 < o.l then .error 7
  else
    match casCtx x o with
    | none => .error 3
    | some c =>
      let va := x.num o.a (casN o)
      let r := congruent s (modExp va (x.num o.b k % 2 ^ o.l) c.m o.l) c.m (casN o) (decide (va < c.m))
      .ran (r.2.casPut b o.d (toWords (casN o) r.1) (c.taint || x.tainted o.a (casN o) || x.tainted o.b k))

/-- IMUL: a result of 2n words. -/
def casImul (s : State) (b : Nat) (o : CasOps) : CasStart :=
  let x := (s.basin b).cas
  if !(inMem o.d (2 * (casN o)) && inMem o.a (casN o) && inMem o.b (casN o)) then .error 2
  else .ran (s.casPut b o.d (toWords (2 * (casN o)) (x.num o.a (casN o) * x.num o.b (casN o))) (x.tainted o.a (casN o) || x.tainted o.b (casN o)))

/-- IADD: a sum, or with MODE bit 0 a difference, mod 2^(128n). -/
def casIadd (s : State) (b : Nat) (o : CasOps) : CasStart :=
  let x := (s.basin b).cas
  if !(inMem o.d (casN o) && inMem o.a (casN o) && inMem o.b (casN o)) then .error 2
  else
    let va := x.num o.a (casN o)
    let vb := x.num o.b (casN o)
    .ran (s.casPut b o.d (toWords (casN o) (if bitAt o.mode 0 then va + (montR (casN o) - vb) else va + vb)) (x.tainted o.a (casN o) || x.tainted o.b (casN o)))

def casMove (s : State) (b : Nat) (o : CasOps) : CasStart :=
  let x := (s.basin b).cas
  if !(inMem o.d (casN o) && inMem o.a (casN o)) then .error 2
  else .ran (s.casPut b o.d (x.read o.a (casN o)) (x.tainted o.a (casN o)))

/-- CSWAP: both ranges are written whatever the bit is (R265). -/
def casCswap (s : State) (b : Nat) (o : CasOps) : CasStart :=
  let x := (s.basin b).cas
  let cs := o.c + o.l / 128
  if !(inMem o.d (casN o) && inMem o.a (casN o) && inMem cs 1) then .error 2
  else
    let t := x.tainted o.d (casN o) || x.tainted o.a (casN o) || x.tainted cs 1
    let p := x.read o.d (casN o)
    let q := x.read o.a (casN o)
    let sw := (x.slot cs).data.getLsbD (o.l % 128)
    .ran ((s.casPut b o.d (if sw then q else p) t).casPut b o.a (if sw then p else q) t)

/-- CSEL: D is written whatever the comparison gives (R265). -/
def casCsel (s : State) (b : Nat) (o : CasOps) : CasStart :=
  let x := (s.basin b).cas
  if !(inMem o.d (casN o) && inMem o.a (casN o) && inMem o.b (casN o) && inMem o.c (casN o)) then .error 2
  else
    let t := x.tainted o.d (casN o) || x.tainted o.a (casN o) || x.tainted o.b (casN o) || x.tainted o.c (casN o)
    .ran (s.casPut b o.d (if x.read o.b (casN o) == x.read o.c (casN o) then x.read o.a (casN o) else x.read o.d (casN o)) t)

/-- The record of KEY1 or KEY2 of the owning command, as the basin holds it for that entry (R177, R256). -/
def casRecord (s : State) (b : Nat) (o : CasOps) : Option Record :=
  match s.cmd o.entry with
  | none => none
  | some c =>
    let h := if bitAt o.mode 4 then key2Of c.desc else key1Of c.desc
    let x := s.basin b
    match x.cache.find? (fun e => e.handle == h) with
    | some e => some e.record
    | none => (x.fill.find? (fun e => e.handle == h && e.marks.contains o.entry)).bind (·.record)

/-- LOADKEY (R256): T on every slot when the component is secret; n words, zero-padded above the component (log entry 40). -/
def casLoadkey (s : State) (b : Nat) (o : CasOps) : CasStart :=
  if !inMem o.d (casN o) then .error 2
  else
    match casRecord s b o with
    | none => .error 6
    | some r =>
      match r.comps.find? (fun p => p.1 == o.mode % 16) with
      | none => .error 6
      | some p =>
        let secret := (compTable r.alg p.2.length).any (fun t => t.1 == p.1 && t.2.2)
        .ran (s.casPut b o.d (wordsOf (casN o) p.2) secret)

/-- RAND (R257). -/
def casRand (s : State) (b : Nat) (o : CasOps) : CasStart :=
  if !inMem o.d (casN o) then .error 2
  else
    match s.draw b (16 * (casN o)) with
    | some r => .ran (r.2.casPut b o.d (wordsOf (casN o) r.1) true)
    | none => if s.spg.fatal then .failed (s.endLate o.entry 0x0502) else .wait

def casWipe (s : State) (b : Nat) (o : CasOps) : CasStart :=
  if o.l = 0 || 4096 < o.l then .error 7
  else if !inMem o.a o.l then .error 2
  else .ran (s.mapCas b (fun y => y.wipe o.a o.l))

/-- CHECK (R262): a failure is a detected fault with detector code 5, on the Cascade as element 10. -/
def casCheck (s : State) (b : Nat) (o : CasOps) : CasStart :=
  let x := (s.basin b).cas
  if 1 < o.mode then .error 1
  else if !(inMem o.a (casN o) && (o.mode = 1 || inMem o.b (casN o))) then .error 2
  else
    let ok := if o.mode = 0 then x.read o.a (casN o) == x.read o.b (casN o) else x.num o.a (casN o) != 0
    if ok then .ran (s.mapCas b (fun y => { y with checkPass := true, passed := if y.seqOpen then min 255 (y.passed + 1) else y.passed }))
    else
      .failed ((s.mapCas b (fun y => { y with checkPass := false, failed := y.failed || y.seqOpen, invFail := true, event := y.event.set 0 })).detected b 5 10 (some o.entry))

/-- Minimum CHECKs of an ALG (R262). -/
def minChecks (alg : Nat) : Nat := [0, 4, 4, 3, 3, 1, 1, 1, 1, 1].getD alg 0

/-- The conditions of R259. -/
def mayRelease (x : Cascade) (o : CasOps) : Bool :=
  x.seqOpen && decide (x.seqA ≤ o.a) && decide (o.a + o.l ≤ x.seqA + x.seqL) && decide (minChecks x.seqAlg ≤ x.passed) && !x.failed

/-- Clear T on `len` slots from a base. -/
def untaint (m : Tab CasSlot) (base len : Nat) : Tab CasSlot :=
  m.map (fun (p : Nat × CasSlot) => if base ≤ p.1 && p.1 < base + len then (p.1, { p.2 with t := false }) else p)

/-- DECLASS (R259). -/
def casDeclass (s : State) (b : Nat) (o : CasOps) : CasStart :=
  let x := (s.basin b).cas
  if !inMem o.a o.l then .error 2
  else if !mayRelease x o then .error 5
  else .ran (s.mapCas b (fun y => { y with slots := untaint y.slots o.a o.l }))

/-- An ALG that produces key records (R262). -/
def storesKeys (alg : Nat) : Bool := [4, 6, 7, 8, 9].contains alg

/-- KSTORE (R260): component MODE of the new record. -/
def casKstore (s : State) (b : Nat) (o : CasOps) : CasStart :=
  let x := (s.basin b).cas
  if !inMem o.a o.l then .error 2
  else if !(mayRelease x o && storesKeys x.seqAlg) then .error 5
  else
    match s.cmd o.entry with
    | none => .error 4
    | some c =>
      let r := c.newRec.getD {}
      .ran (s.setCmd o.entry { c with newRec := some { r with comps := (r.comps.filter (fun p => p.1 != o.mode)) ++ [(o.mode, x.bytes o.a o.l)] } })

/-! ## Lattice commands -/

/-- A polynomial command: one or two sources, the coefficients `f`. -/
def lattice (s : State) (b : Nat) (o : CasOps) (two : Bool) (f : List Nat → List Nat → List Nat) : CasStart :=
  let x := (s.basin b).cas
  if !(inMem o.d 64 && inMem o.a 64 && (!two || inMem o.b 64)) then .error 2
  else .ran (s.casPut b o.d (polyWords 64 (f (x.poly o.a) (if two then x.poly o.b else [])))
    (x.tainted o.a 64 || (two && x.tainted o.b 64)))

def ring (o : CasOps) : Nat := bitNat (bitAt o.mode 0)

def casNtt (s : State) (b : Nat) (o : CasOps) : CasStart := lattice s b o false (fun p _ => Config.ntt (ring o) p)
def casIntt (s : State) (b : Nat) (o : CasOps) : CasStart := lattice s b o false (fun p _ => Config.intt (ring o) p)
def casPmul (s : State) (b : Nat) (o : CasOps) : CasStart :=
  lattice s b o true (fun p r => if ring o = 1 then List.zipWith (fun u v => u * v % (casQ o)) p r else Config.ringMul 0 p r)
def casPadd (s : State) (b : Nat) (o : CasOps) : CasStart := lattice s b o true (fun p r => List.zipWith (fun u v => (u + v) % (casQ o)) p r)
def casPsub (s : State) (b : Nat) (o : CasOps) : CasStart :=
  lattice s b o true (fun p r => List.zipWith (fun u v => (u + (casQ o - v % (casQ o))) % (casQ o)) p r)

/-- SAMPLE (R254): the kinds of public seed refuse a tainted one; a hash jet is claimed until the end. -/
def casSample (s : State) (b : Nat) (o : CasOps) : CasStart :=
  let x := (s.basin b).cas
  let k := ceilDiv o.l 16
  if 5 < o.mode then .error 1
  else if !(inMem o.d 64 && inMem o.a k) then .error 2
  else if (o.mode = 0 || o.mode = 1 || o.mode = 5) && x.tainted o.a k then .error 5
  else
    match (freeLanes (s.basin b) true).head? with
    | none => .wait
    | some ln =>
      let r := Config.sample o.mode ((x.bytes o.a k).take o.l)
      let blocks := if o.mode = 2 then 1 else if o.mode = 3 then 4 else if o.mode = 4 then 5 else if o.mode = 5 then min r.2 8 else min r.2 64
      let short := r.1.isNone && o.mode != 2 && o.mode != 4
      let s1 := s.casPut b o.d (polyWords 64 (if short then [] else r.1.getD [])) (x.tainted o.a k)
      let y := s1.basin b
      .ran (s1.setBasin b { y with
        lanes := tabSet y.lanes ln { tabGet y.lanes ln {} with busy := true, cascade := true, entry := o.entry, alg := if o.mode ≤ 1 then 0x1C else 0x1D, mode := 0 }
        cas := { y.cas with short := short, blocks := blocks, event := if short then y.cas.event.set 3 else y.cas.event } })

/-- r mod± 2^13 and its quotient: Power2Round (FIPS 204). -/
def power2Round (r : Nat) : Nat × Int :=
  let q := 8380417
  let p := r % q
  let lo : Int := if p % 8192 ≤ 4096 then (p % 8192 : Nat) else (p % 8192 : Nat) - (8192 : Int)
  (((p : Int) - lo).toNat / 8192, lo)

/-- Decompose with γ2 = 261,888 (FIPS 204). -/
def decompose (r : Nat) : Nat × Int :=
  let q := 8380417
  let a := 523776
  let p := r % q
  let lo : Int := if p % a ≤ a / 2 then (p % a : Nat) else (p % a : Nat) - (a : Int)
  if (p : Int) - lo = q - 1 then (0, lo - 1) else (((p : Int) - lo).toNat / a, lo)

/-- A value held in [0, q). -/
def modQ (v : Int) : Nat := (v % 8380417).toNat

/-- One coefficient of ROUND (FIPS 204): MakeHint takes z from A and r from B, UseHint the hint from A and r from B. -/
def roundCoeff (mode u v : Nat) : Nat :=
  if mode = 0 then (power2Round u).1
  else if mode = 1 then modQ (power2Round u).2
  else if mode = 2 then (decompose u).1
  else if mode = 3 then modQ (decompose u).2
  else if mode = 4 then bitNat ((decompose v).1 != (decompose ((u + v) % 8380417)).1)
  else
    let d := decompose v
    if u % 2 = 0 then d.1 else if 0 < d.2 then (d.1 + 1) % 16 else (d.1 + 15) % 16

def casRound (s : State) (b : Nat) (o : CasOps) : CasStart :=
  if 5 < o.mode then .error 1
  else if o.mode < 4 then lattice s b o false (fun p _ => p.map (fun u => roundCoeff o.mode u 0))
  else lattice s b o true (fun p r => List.zipWith (roundCoeff o.mode) p r)

/-- The magnitude of a coefficient centred mod q. -/
def centred (q c : Nat) : Nat := if c % q ≤ q / 2 then c % q else q - c % q

/-- NORM: a result bit. -/
def casNorm (s : State) (b : Nat) (o : CasOps) : CasStart :=
  let x := (s.basin b).cas
  if !inMem o.a 64 then .error 2
  else .ran (s.mapCas b (fun y => { y with normGe := (x.poly o.a).any (fun c => decide (o.l ≤ centred (casQ o) c)) }))

/-- Compression of FIPS 203. -/
def compressQ (d c : Nat) : Nat := (c * 2 ^ (d + 1) + 3329) / 6658 % 2 ^ d

/-- Decompression of FIPS 203. -/
def decompressQ (d c : Nat) : Nat := (c * 3329 * 2 + 2 ^ d) / 2 ^ (d + 1)

/-- Coefficients packed at d bits each, the first lowest. -/
def packBits (d : Nat) : List Nat → Nat
  | [] => 0
  | c :: r => c % 2 ^ d + 2 ^ d * packBits d r

/-- `k` coefficients of d bits. -/
def unpackBits (d : Nat) : Nat → Nat → List Nat
  | 0, _ => []
  | k + 1, v => v % 2 ^ d :: unpackBits d k (v / 2 ^ d)

/-- d of PACK and UNPACK; compression with MODE bit 7. -/
def packWidth (o : CasOps) : Nat := o.mode % 128

/-- PACK: 32d bytes in 2d slots. -/
def casPack (s : State) (b : Nat) (o : CasOps) : CasStart :=
  let x := (s.basin b).cas
  let d := packWidth o
  if d = 0 || 32 < d then .error 7
  else if !(inMem o.d (2 * d) && inMem o.a 64) then .error 2
  else
    let cs := (x.poly o.a).map (fun c => if bitAt o.mode 7 then compressQ d c else c)
    .ran (s.casPut b o.d (toWords (2 * d) (packBits d cs)) (x.tainted o.a 64))

/-- UNPACK. -/
def casUnpack (s : State) (b : Nat) (o : CasOps) : CasStart :=
  let x := (s.basin b).cas
  let d := packWidth o
  if d = 0 || 32 < d then .error 7
  else if !(inMem o.d 64 && inMem o.a (2 * d)) then .error 2
  else
    let cs := (unpackBits d 256 (x.num o.a (2 * d))).map (fun c => if bitAt o.mode 7 then decompressQ d c else c)
    .ran (s.casPut b o.d (polyWords 64 cs) (x.tainted o.a (2 * d)))

/-- SEQ.OPEN (R261): only while no sequence is open. -/
def casSeqOpen (s : State) (b : Nat) (o : CasOps) : CasStart :=
  if 9 < o.mode || (s.basin b).cas.seqOpen then .error 1
  else if !inMem o.a o.l then .error 2
  else .ran (s.mapCas b (fun y => { y with seqOpen := true, seqAlg := o.mode, seqA := o.a, seqL := o.l, passed := 0, failed := false }))

/-- SEQ.CLOSE (R261, R266). -/
def casSeqClose (s : State) (b : Nat) (_ : CasOps) : CasStart := .ran (s.mapCas b Cascade.release)

/-- What an opcode does when it starts. -/
def casEffect (op : Nat) (s : State) (b : Nat) (o : CasOps) : CasStart :=
  match op with
  | 0x01 => casModset s b o
  | 0x02 => casMadd s b o
  | 0x03 => casMsub s b o
  | 0x04 => casMmul s b o
  | 0x05 => casMred s b o
  | 0x06 => casMinv s b o
  | 0x07 => casMexp s b o
  | 0x08 => casImul s b o
  | 0x09 => casIadd s b o
  | 0x0A => casMove s b o
  | 0x0B => casCswap s b o
  | 0x0C => casCsel s b o
  | 0x10 => casLoadkey s b o
  | 0x11 => casRand s b o
  | 0x12 => casWipe s b o
  | 0x13 => casCheck s b o
  | 0x14 => casDeclass s b o
  | 0x15 => casKstore s b o
  | 0x20 => casNtt s b o
  | 0x21 => casIntt s b o
  | 0x22 => casPmul s b o
  | 0x23 => casPadd s b o
  | 0x24 => casPsub s b o
  | 0x25 => casSample s b o
  | 0x26 => casRound s b o
  | 0x27 => casNorm s b o
  | 0x28 => casPack s b o
  | 0x29 => casUnpack s b o
  | 0x30 => casSeqOpen s b o
  | 0x31 => casSeqClose s b o
  | _ => .error 1

/-- Cycles of a command (R252), given the slots touched when it started. -/
def casCycles (op : Nat) (o : CasOps) (touched blocks : Nat) : Nat :=
  let n := (casN o)
  let mm := mmCycles n
  let big := bitAt o.mode 0
  match op with
  | 0x01 => 128 * n * (ceilDiv n 4 + 1) + 2 * mm + 20
  | 0x02 | 0x03 | 0x09 => 2 * ceilDiv n 4 + 6
  | 0x04 => mm + 6
  | 0x05 => 2 * mm + 6
  | 0x06 => 256 * n * (ceilDiv n 4 + 2) + 20
  | 0x07 => (2 * o.l + 3) * mm + 40
  | 0x08 => ceilDiv (13 * n * n) 32 + 6
  | 0x0A | 0x0B | 0x0C | 0x13 => n + 6
  | 0x10 => 2 * n + 20
  | 0x11 => 2 * n + 8
  | 0x12 => 2 * ceilDiv o.l 4 + 8
  | 0x14 | 0x15 => o.l + 6
  | 0x20 => if big then 528 else 464
  | 0x21 => if big then 560 else 496
  | 0x22 => if big then 136 else 200
  | 0x23 | 0x24 | 0x26 | 0x27 => 36
  | 0x25 => 48 * blocks + 32
  | 0x28 | 0x29 => 64
  | 0x30 => 8
  | 0x31 => 2 * ceilDiv touched 4 + 8
  | _ => 0

/-! ## Queueing and ownership (R255, R263, R268) -/

/-- A command ends with an error (R255, R268). -/
def State.casError (s : State) (b code : Nat) : State :=
  (s.mapCas b (fun y => { y with error := code, cmdError := true, event := y.event.set 1 })).irq b 3

/-- The entry may open a sequence on a Cascade that its last SEQ.CLOSE released: its command still runs on it (R255, R261). -/
def mayReopen (s : State) (b op : Nat) (o : CasOps) : Bool :=
  op == 0x30 && (s.basin b).cas.owner.isNone && (match s.cmd o.entry with
    | some c => c.basin == some b && c.onCascade && c.phase == .running && c.status.isNone
    | none => false)

/-- A command runs: its effect has been applied, its cycles are counted at its end. -/
def State.casRan (s : State) (b op : Nat) (o : CasOps) (touched : Nat) : State :=
  s.mapCas b (fun y => { y with running := some (op, o), runCycles := casCycles op o touched y.blocks })

/-- The first queued command starts when none runs; a command that ends with an error lets the next one start. -/
def State.casPump (b : Nat) : Nat → State → State
  | 0, s => s
  | k + 1, s =>
    let x := (s.basin b).cas
    match x.queue with
    | [] => s
    | (op, o) :: r =>
      if x.running.isSome || x.wiping then s
      else
        let s1 := s.mapCas b (fun y => { y with queue := r })
        let s2 := if mayReopen s1 b op o then s1.mapCas b (fun y => { y with owner := some o.entry }) else s1
        if (s2.basin b).cas.owner != some o.entry then State.casPump b k (s1.casError b 4)
        else
          match casEffect op s2 b o with
          | .ran t => t.casRan b op o x.touched
          | .error code => State.casPump b k ((if op = 0x01 && code = 3 then s2.mapCas b (fun y => { y with ctxs := tabDel y.ctxs o.ctx }) else s2).casError b code)
          | .failed t => t
          | .wait => s

/-- A command word arrives (R255): discarded with STOPPED during the wipe of a stopped sequence, with FULL while 16 are queued. -/
def State.casIssue (s : State) (b op : Nat) (o : CasOps) : State :=
  let x := (s.basin b).cas
  if 8 ≤ b then s
  else if x.wiping then s.casError b 8
  else if 16 ≤ x.queue.length then s.casError b 10
  else State.casPump b 17 (s.mapCas b (fun y => { y with queue := y.queue ++ [(op, o)] }))

def execModset (b : Nat) (o : CasOps) (s : State) : Host.Outcome State Fault Refusal := .next (s.casIssue b 0x01 o)
def execMadd (b : Nat) (o : CasOps) (s : State) : Host.Outcome State Fault Refusal := .next (s.casIssue b 0x02 o)
def execMsub (b : Nat) (o : CasOps) (s : State) : Host.Outcome State Fault Refusal := .next (s.casIssue b 0x03 o)
def execMmul (b : Nat) (o : CasOps) (s : State) : Host.Outcome State Fault Refusal := .next (s.casIssue b 0x04 o)
def execMred (b : Nat) (o : CasOps) (s : State) : Host.Outcome State Fault Refusal := .next (s.casIssue b 0x05 o)
def execMinv (b : Nat) (o : CasOps) (s : State) : Host.Outcome State Fault Refusal := .next (s.casIssue b 0x06 o)
def execMexp (b : Nat) (o : CasOps) (s : State) : Host.Outcome State Fault Refusal := .next (s.casIssue b 0x07 o)
def execImul (b : Nat) (o : CasOps) (s : State) : Host.Outcome State Fault Refusal := .next (s.casIssue b 0x08 o)
def execIadd (b : Nat) (o : CasOps) (s : State) : Host.Outcome State Fault Refusal := .next (s.casIssue b 0x09 o)
def execMove (b : Nat) (o : CasOps) (s : State) : Host.Outcome State Fault Refusal := .next (s.casIssue b 0x0A o)
def execCswap (b : Nat) (o : CasOps) (s : State) : Host.Outcome State Fault Refusal := .next (s.casIssue b 0x0B o)
def execCsel (b : Nat) (o : CasOps) (s : State) : Host.Outcome State Fault Refusal := .next (s.casIssue b 0x0C o)
def execLoadkey (b : Nat) (o : CasOps) (s : State) : Host.Outcome State Fault Refusal := .next (s.casIssue b 0x10 o)
def execRand (b : Nat) (o : CasOps) (s : State) : Host.Outcome State Fault Refusal := .next (s.casIssue b 0x11 o)
def execWipe (b : Nat) (o : CasOps) (s : State) : Host.Outcome State Fault Refusal := .next (s.casIssue b 0x12 o)
def execCheck (b : Nat) (o : CasOps) (s : State) : Host.Outcome State Fault Refusal := .next (s.casIssue b 0x13 o)
def execDeclass (b : Nat) (o : CasOps) (s : State) : Host.Outcome State Fault Refusal := .next (s.casIssue b 0x14 o)
def execKstore (b : Nat) (o : CasOps) (s : State) : Host.Outcome State Fault Refusal := .next (s.casIssue b 0x15 o)
def execNtt (b : Nat) (o : CasOps) (s : State) : Host.Outcome State Fault Refusal := .next (s.casIssue b 0x20 o)
def execIntt (b : Nat) (o : CasOps) (s : State) : Host.Outcome State Fault Refusal := .next (s.casIssue b 0x21 o)
def execPmul (b : Nat) (o : CasOps) (s : State) : Host.Outcome State Fault Refusal := .next (s.casIssue b 0x22 o)
def execPadd (b : Nat) (o : CasOps) (s : State) : Host.Outcome State Fault Refusal := .next (s.casIssue b 0x23 o)
def execPsub (b : Nat) (o : CasOps) (s : State) : Host.Outcome State Fault Refusal := .next (s.casIssue b 0x24 o)
def execSample (b : Nat) (o : CasOps) (s : State) : Host.Outcome State Fault Refusal := .next (s.casIssue b 0x25 o)
def execRound (b : Nat) (o : CasOps) (s : State) : Host.Outcome State Fault Refusal := .next (s.casIssue b 0x26 o)
def execNorm (b : Nat) (o : CasOps) (s : State) : Host.Outcome State Fault Refusal := .next (s.casIssue b 0x27 o)
def execPack (b : Nat) (o : CasOps) (s : State) : Host.Outcome State Fault Refusal := .next (s.casIssue b 0x28 o)
def execUnpack (b : Nat) (o : CasOps) (s : State) : Host.Outcome State Fault Refusal := .next (s.casIssue b 0x29 o)
def execSeqOpen (b : Nat) (o : CasOps) (s : State) : Host.Outcome State Fault Refusal := .next (s.casIssue b 0x30 o)
def execSeqClose (b : Nat) (o : CasOps) (s : State) : Host.Outcome State Fault Refusal := .next (s.casIssue b 0x31 o)

/-- CASCADE_COMMAND_DONE (R268): CMD_DONE, and the next command starts. A command running when its sequence was stopped
leaves its claim too (R263). -/
def execCascadeCommandDone (b : Nat) (s : State) : Host.Outcome State Fault Refusal :=
  let x := s.basin b
  if 8 ≤ b then .next s
  else
    match x.cas.running with
    | none => .next (State.casPump b 17 s)
    | some (op, _) =>
      let y : Basin := { x with
        lanes := if op = 0x25 then unclaim x.lanes x.cas.blocks else x.lanes
        cas := { x.cas with running := none, runCycles := 0, cycles := x.cas.cycles + x.cas.runCycles, cmdDone := true, error := 0 } }
      .next (State.casPump b 17 ((s.setBasin b y).irq b 3))

/-- Window accesses are refused with BUSY while a command runs or a wipe is under way (R268). -/
def casBusy (x : Cascade) : Bool := x.running.isSome || x.wiping

/-- CAS_WINDOW_READ (R258, R268). -/
def execCasWindowRead (b : Nat) (s : State) : Host.Outcome State Fault Refusal :=
  let x := (s.basin b).cas
  if 8 ≤ b then .next s
  else if casBusy x then .next ((s.casError b 9).emit (.casRead b 0))
  else if (x.slot x.winAddr).t then .next ((s.mapCas b (fun y => { y with event := y.event.set 2 })).emit (.casRead b 0))
  else .next (s.emit (.casRead b (x.slot x.winAddr).data))

/-- CAS_WINDOW_WRITE (R258, R268): the value is stored, T clears and U sets. -/
def execCasWindowWrite (b : Nat) (v : BitVec 128) (s : State) : Host.Outcome State Fault Refusal :=
  let x := (s.basin b).cas
  if 8 ≤ b then .next s
  else if casBusy x then .next (s.casError b 9)
  else .next (s.casPut b x.winAddr [v] false)

/-- CASCADE_WIPE_DONE (R184, R255, R266): the touched slots are wiped and the Cascade is idle to Sluice again; it waits for the
command still running (R263). -/
def execCascadeWipeDone (b : Nat) (s : State) : Host.Outcome State Fault Refusal :=
  let x := (s.basin b).cas
  if 8 ≤ b || !x.wiping || x.running.isSome then .next s
  else .next (s.mapCas b Cascade.release)

end Sys2Proof.Machine
end

