-- ==== Sys2Proof/Machine/Contactless.lean ====
section
/-! DEFINITION. The contactless reader (25): sharing the antenna, pinging, enumeration and the badge transaction of a COLLECT. -/

namespace Sys2Proof.Machine

/-- The reader may drive its carrier (R538, R543): powered, not HALTED, not silent, and not within 100 ms of an ambiguous field. -/
def readerOn (s : State) : Bool :=
  s.pwr.main && s.fnt.op != .halted && s.cls.mode != 3 && (match s.cls.offFrom with | some t => decide (t + 100000000 ≤ s.now) | none => true)

/-! ## Pinging (R539) -/

/-- A burst deviates from the mean of the last ones by more than the threshold. -/
def detuned (s : State) (amplitude : Nat) : Bool :=
  let n := s.cls.bursts.length
  let sum := s.cls.bursts.sum
  n != 0 && decide (s.cls.pingThresh * sum < 100 * (max (amplitude * n) sum - min (amplitude * n) sum))

/-- PING (R539): a deviation starts an enumeration cycle; any other burst joins the mean. -/
def execPing (amplitude : Nat) (s : State) : Host.Outcome State Fault Refusal :=
  let due := match s.cls.lastPing with | some t => decide (t + 1000000 * s.cls.pingPeriod ≤ s.now) | none => true
  if readerOn s && s.fnt.collect.isNone && (s.cls.pingEn || s.fnt.session.isSome) && due then
    let c := { s.cls with lastPing := some s.now }
    .next { s with cls := if detuned s amplitude then { c with cycle := true } else { c with bursts := (amplitude :: c.bursts).take 8 } }
  else .next s

/-! ## Enumeration (R541, R542) -/

/-- The first transmitted bit in which two UIDs differ is 1 in the first: anticollision finds it first (R541). -/
def foundBefore (a b : BitVec 80) : Bool :=
  match (List.range 80).find? (fun i => a.getLsbD i != b.getLsbD i) with | some i => a.getLsbD i | none => false

/-- Put a UID at its place in the order of discovery; badges with one UID pass as one. -/
def insertUid : List (BitVec 80) → BitVec 80 → List (BitVec 80)
  | [], u => [u]
  | x :: r, u => if x = u then x :: r else if foundBefore u x then u :: x :: r else x :: insertUid r u

/-- The UIDs that a cycle records from the badges in the field: at most eight. -/
def recorded (uids : List (BitVec 80)) : List (BitVec 80) := (uids.foldl insertUid []).take 8

/-- A COLLECT after an enumeration cycle (R542). -/
def State.badgesFound (s : State) (k : Collect) : State :=
  match s.cls.uids with
  | [] => if k.since + 1000000000 ≤ s.now then s.endCollect 0x0806 [] else s
  | [u] => s.setCollect { k with stage := 11, uid := u, badFrames := 0 }
  | _ => (s.clsEvent 1).endCollect 0x0802 []

/-- A COLLECT that polls is due a cycle: its first, or 20 ms after the latest (R542). -/
def pollDue (s : State) : Bool :=
  (match s.fnt.collect with | some k => k.stage == 10 | none => false)
    && (match s.cls.lastCycle with | some t => decide (t + 20000000 ≤ s.now) | none => true)

/-- ENUMERATION_CYCLE (R541, R542): every 20 ms for a COLLECT that polls, or after a detuned burst. -/
def execEnumerationCycle (uids : List (BitVec 80)) (s : State) : Host.Outcome State Fault Refusal :=
  if readerOn s && (pollDue s || (s.cls.cycle && s.fnt.collect.isNone)) then
    let l := recorded uids
    let s1 := { s with cls := { s.cls with uids := l, cycle := false, offFrom := none, lastCycle := some s.now } }
    let s2 := if l.isEmpty then s1 else s1.clsEvent 0
    match s2.fnt.collect with
    | some k => .next (s2.badgesFound k)
    | none => .next s2
  else .next s

/-! ## The external field (R538) -/

/-- The COLLECT under way is one from the badge field. -/
def badgeCollect (s : State) : Bool := match s.fnt.collect with | some k => decide (10 ≤ k.stage) | none => false

/-- EXTERNAL_FIELD_DETECTED (R538). -/
def execExternalFieldDetected (s : State) : Host.Outcome State Fault Refusal :=
  if !s.pwr.main || s.fnt.op == .halted then .next s
  else
    let s1 := if badgeCollect s then s.endCollect 0x0806 [] else s
    .next (({ s1 with cls := { s1.cls with mode := 3, extField := true, quietFrom := some s.now, cycle := false } }).clsEvent 3)

/-- READER_RESUME (R538): no external field for 1 s. -/
def execReaderResume (s : State) : Host.Outcome State Fault Refusal :=
  let quiet := match s.cls.quietFrom with | some t => decide (t + 1000000000 ≤ s.now) | none => true
  if s.cls.mode = 3 && quiet && !s.psp.field then .next { s with cls := { s.cls with mode := 0, extField := false, quietFrom := none } } else .next s

/-! ## The badge transaction (R540, R543 to R545) -/

/-- Send the APDU of the COLLECT's stage. -/
def State.sendBadge (s : State) (k : Collect) : State :=
  let s1 := s.setCollect k
  if k.stage = 12 then s1.emit (.badgeApdu 0x10 0 0 [])
  else if k.stage = 13 then s1.emit (.badgeApdu 0x12 0 k.blocksLeft [])
  else if k.stage = 14 then
    s1.emit (.badgeApdu 0x14 0 0 (match s.fnt.session with | some x => approvalMessage s x k.tokenId | none => []))
  else s1.emit (.badgeApdu 0x12 1 k.blocksLeft [])

/-- The badge's UID is bytes 6 to 15 of a TOKEN_ID (R544). -/
def uidAgrees (u : BitVec 80) (id : Bytes) : Bool := u == BitVec.ofNat 80 (field id 6 10)

/-- The badge's certificate is in: the badge is turned down, or signs (R531, R544). -/
def State.badgeCert (s : State) (k : Collect) (b : Bytes) : State :=
  let cert := if tokenCertOk b then some (tokenCertOf b) else none
  let s1 := match cert with | some c => s.raiseFloor c | none => s
  match s1.fnt.session with
  | none => s1.endCollect 0x0231 []
  | some x =>
    match tokenDenied s1 x cert k.tokenId true k.authUsed with
    | some st => s1.endCollect st []
    | none => s1.sendBadge { k with stage := 14, cert := b, data := [], blocksLeft := 0 }

/-- The badge's signature is in (R489). -/
def State.badgeSigned (s : State) (k : Collect) (sig : Bytes) : State :=
  match s.fnt.session with
  | none => s.endCollect 0x0231 []
  | some x =>
    if pairedValid (tokenCertOf k.cert).signKey (ascii "OX-QUORUM") (approvalMessage s x k.tokenId) sig then s.countToken x k.tokenId
    else s.endCollect 0x0805 []

/-- A block of an object: the next is read, or the object is whole. -/
def State.badgeBlock (s : State) (k : Collect) (body : Bytes) : State :=
  let k1 := { k with data := k.data ++ padTo 256 body, blocksLeft := k.blocksLeft + 1 }
  if k.stage = 13 then (if k1.blocksLeft < 26 then s.sendBadge k1 else s.badgeCert k1 (k1.data.take 6637))
  else if k1.blocksLeft < 14 then s.sendBadge k1 else s.badgeSigned k1 (k1.data.take 3373)

/-- A response APDU; a status word other than 0x9000 and 0x6985 counts nothing (R544). -/
def State.badgeApduIn (s : State) (k0 : Collect) (body : Bytes) (sw : Nat) : State :=
  let k := { k0 with badFrames := 0 }
  if sw = 0x6985 then s.endCollect 0x0804 []
  else if sw ≠ 0x9000 then s.endCollect 0x0805 []
  else if k.stage = 12 then
    let id := padTo 16 body
    if !uidAgrees k.uid id then s.endCollect 0x0805 []
    else s.sendBadge { k with stage := 13, tokenId := id, authUsed := bitsAt (field body 16 4) 0 17, data := [], blocksLeft := 0 }
  else if k.stage = 14 then s.sendBadge { k with stage := 15, data := [], blocksLeft := 0 }
  else s.badgeBlock k body

/-- A frame that fails CRC or parity (R540, R543): above 106 kbit/s the badge returns to 106 once; the third in a row at 106 ends the
transaction as ambiguous. -/
def State.badgeBad (s : State) (k : Collect) : State :=
  if 0 < s.cls.rate && !k.retriedRate then
    { s with cls := { s.cls with rate := 0 }, fnt := { s.fnt with collect := some { k with retriedRate := true, stage := 11, seq := k.stage, badFrames := 0 } } }
  else if k.badFrames + 1 < 3 then s.setCollect { k with badFrames := k.badFrames + 1 }
  else
    let s1 := s.clsEvent 2
    ({ s1 with cls := { s1.cls with offFrom := some s1.now, mode := 0 } }).endCollect 0x0803 []

/-- The badge's layer 4 is up at the rate both sides allow (R540); a transaction interrupted by the return to 106 goes on. -/
def State.badgeActive (s : State) (k : Collect) (rate : Nat) : State :=
  let r := if k.retriedRate then 0 else min (rate % 4) s.cls.rateLimit
  ({ s with cls := { s.cls with rate := r } }).sendBadge { k with stage := if k.seq = 0 || k.seq = 11 then 12 else k.seq, seq := 0, badFrames := 0 }

/-- BADGE_RESPONSE (R543, R544). -/
def execBadgeResponse (fr : BadgeFrame) (s : State) : Host.Outcome State Fault Refusal :=
  match s.fnt.collect with
  | none => .next s
  | some k =>
    if k.stage < 11 then .next s
    else
      match fr with
      | .bad => .next (s.badgeBad k)
      | .activated rate => if k.stage = 11 then .next (s.badgeActive k rate) else .next s
      | .apdu body sw => if k.stage = 11 then .next s else .next (s.badgeApduIn k body sw)

/-- BADGE_TIMEOUT (R545): the badge is gone. -/
def execBadgeTimeout (s : State) : Host.Outcome State Fault Refusal :=
  match s.fnt.collect with
  | none => .next s
  | some k => if 11 ≤ k.stage then .next (s.endCollect 0x0806 []) else .next s

end Sys2Proof.Machine
end

