-- ==== Sys2Proof/Machine/Gauge.lean ====
section
/-! DEFINITION. Gauge's rows (23): GAUGE.READ, the periodic commit, the samples of each second and the end of each operating
hour. -/

namespace Sys2Proof.Machine

/-! ## Reading (R520) -/

/-- `n` entries of a ring kept newest first, from SEQ `from_` upward: their bytes, zeros beyond the newest. -/
def ringBytes {α : Type} (seqOf : α → Nat) (bytes : α → Bytes) (ring : List α) (from_ n : Nat) : Bytes :=
  ((List.range n).map (fun i => match ring.find? (fun x => seqOf x == from_ + i) with | some x => bytes x | none => List.replicate 64 0)).flatten

/-- The first SEQ a read returns: the larger of FIRST and the oldest SEQ held. -/
def ringFirst {α : Type} (seqOf : α → Nat) (ring : List α) (first : Nat) : Nat :=
  max first ((ring.getLast?.map seqOf).getD 0)

/-- Entries returned of a range. -/
def ringCount {α : Type} (seqOf : α → Nat) (ring : List α) (from_ n : Nat) : Nat :=
  (ring.filter (fun x => decide (from_ ≤ seqOf x) && decide (seqOf x < from_ + n))).length

/-- A ring's answer. -/
def ringAnswer {α : Type} (seqOf : α → Nat) (bytes : α → Bytes) (ring : List α) (newest first n : Nat) : Answer :=
  let f := ringFirst seqOf ring first
  { result := natLe 4 f ++ natLe 4 (ringCount seqOf ring f n) ++ natLe 4 newest, output := ringBytes seqOf bytes ring f n }

/-- GAUGE.READ (R520). RESULT bytes 0 to 11 of a region 0 read are not stated: free values. -/
def execGaugeRead (e : Nat) (s : State) : Host.Outcome State Fault Refusal :=
  .next (s.run e (· == 0x0540) (fun c =>
    let region := param c.desc 0 1
    let first := param c.desc 4 4
    let n := param c.desc 8 4
    if region = 0 then
      let fr := s.freeBytes 12
      ({ result := fr.1, output := accBytes s.gau.acc }, fr.2)
    else if region = 1 then (ringAnswer GaugeSummary.seq summaryBytes s.gau.summaries s.gau.summarySeq first n, s)
    else (ringAnswer GaugeEvent.seq eventBytes s.gau.events s.gau.eventSeq first n, s)))

/-! ## The periodic commit (R515) -/

/-- ACCUMULATOR_COMMIT (R515): 60 s after the latest commit. -/
def execAccumulatorCommit (s : State) : Host.Outcome State Fault Refusal :=
  if s.gau.commitAt + 60000000000 ≤ s.now then .next s.gauCommit else .next s

/-! ## The samples of a second (R516) -/

/-- One second of the three histograms, the temperature extremes and the lowest VBAT. -/
def State.sampleAcc (s : State) (temp : Int) (vbatMv : Nat) : State :=
  let serves := basinNums.any (fun n => (s.basin n).serving)
  let s1 := s.gauAcc (fun a => { a with
    seconds := sat32 (a.seconds + 1)
    tempHist := tabAdd a.tempHist (binOf temp (-320) 40 32) 1
    vcoreHist := tabAdd a.vcoreHist (binOf (Int.ofNat s.bsn.voltage) 600 20 16) 1
    paceHist := if serves then tabAdd a.paceHist (binOf (Int.ofNat s.devicePace) 400 16 16) 1 else a.paceHist })
  ((s1.extreme 0 true temp).extreme 1 false temp).extreme 6 false (Int.ofNat vbatMv)

/-- The hour's trackers for the summary entry (R517). -/
def hourTrack (g : GauState) (temp : Int) (mv pace : Nat) : GauState :=
  { g with
    hourTemp := some (match g.hourTemp with
      | none => (temp, temp, temp, 1)
      | some x => (min x.1 temp, max x.2.1 temp, x.2.2.1 + temp, x.2.2.2 + 1))
    hourV := some (match g.hourV with | none => (mv, mv) | some x => (min x.1 mv, max x.2 mv))
    hourPace := max g.hourPace pace }

/-- A sample is due: VDD_CORE is present, and the counter has reached another second since the latest one (R516). -/
def sampleDue (s : State) : Bool := s.pwr.main && !s.pwr.por && s.now / 1000000000 != s.gau.secondMark

/-- TEMPERATURE_SAMPLE (R516): once per second while VDD_CORE is present; GRO_VBAT shows what was sensed. -/
def execTemperatureSample (temp : Int) (vbatMv : Nat) (s : State) : Host.Outcome State Fault Refusal :=
  if !sampleDue s then .next s else
  let s1 := ({ s with gau := { s.gau with secondMark := s.now / 1000000000 } }).sampleAcc temp vbatMv
  .next { s1 with
    gau := hourTrack s1.gau temp s1.bsn.voltage (if basinNums.any (fun n => (s1.basin n).serving) then s1.devicePace else 0)
    gro := { s1.gro with temp := temp, vbat := vbatMv } }

/-! ## The end of an hour (R514, R517, R519, R522) -/

/-- Correctable errors of a port within the hour. -/
def hourLink (g : GauState) (p : Nat) : Nat := tabGet g.acc.link (12 * p) 0 - tabGet g.hourBase.link (12 * p) 0

/-- Sum of counters 0 to n - 1 from a start index. -/
def sumFrom (t : Tab Nat) (i n : Nat) : Nat := ((List.range n).map (fun k => tabGet t (i + k) 0)).sum

/-- The class of an hour's correctable count in LINK (R516). -/
def linkClass (n : Nat) : Nat :=
  if n = 0 then 0 else if n = 1 then 1 else if n ≤ 3 then 2 else if n ≤ 15 then 3 else if n ≤ 63 then 4 else if n ≤ 255 then 5
  else if n ≤ 1023 then 6 else 7

/-- The accumulators at the end of an hour: the stamp, LIFE_PPM and the link hours. -/
def State.hourAcc (s : State) : State :=
  let g := s.gau
  s.gauAcc (fun a => { a with
    hours := sat32 (a.hours + 1), seconds := a.seconds - 3600, lifePpm := sat32 (lifePpm a.tempHist)
    link := tabAdd (tabAdd a.link (4 + linkClass (hourLink g 0)) 1) (16 + linkClass (hourLink g 1)) 1 })

/-- The summary entry of the hour that ends. -/
def hourSummary (s : State) : GaugeSummary :=
  let a := s.gau.acc
  let b := s.gau.hourBase
  let t := s.gau.hourTemp.getD (0, 0, 0, 1)
  let v := s.gau.hourV.getD (0, 0)
  { seq := s.gau.summarySeq + 1, hours := a.hours, cycles := a.cycles, tLow := t.1, tHigh := t.2.1, tMean := t.2.2.1 / t.2.2.2
    vLow := v.1, vHigh := v.2, slowest := s.gau.hourPace, faults := sumFrom a.faults 1 11 - sumFrom b.faults 1 11
    refusals := sumFrom a.refusals 0 8 - sumFrom b.refusals 0 8, late := tabGet a.misc 0 0 - tabGet b.misc 0 0
    linkErrors := hourLink s.gau 0 + hourLink s.gau 1, tampers := sumFrom a.tamper 0 16 - sumFrom b.tamper 0 16, lifePpm := a.lifePpm }

/-- HOUR_END (R514, R517, R519, R522). -/
def execHourEnd (s : State) : Host.Outcome State Fault Refusal :=
  if s.gau.acc.seconds < 3600 then .next s
  else
    let links := Int.ofNat (max (hourLink s.gau 0) (hourLink s.gau 1))
    let s1 := s.hourAcc.extreme 7 true links
    let e := hourSummary s1
    let s2 := { s1 with gau := { s1.gau with
      summaries := (e :: s1.gau.summaries).take 8192, summarySeq := e.seq, hourBase := s1.gau.acc, hourTemp := none, hourV := none, hourPace := 0 } }
    .next s2.writeCondition

end Sys2Proof.Machine
end

