-- ==== Sys2Proof/Machine/Grotto.lean ====
section
/-! DEFINITION. Grotto's commands (22): sources, corroboration, Seal and Erase, the battery domain, sticky flags and fuses. -/

namespace Sys2Proof.Machine

/-! ## Sources on main power (R497, R498) -/

/-- TAMPER_SOURCE_ASSERT (R498 to R502): a source becomes active; on battery the samples sense it (R508). -/
def execTamperSourceAssert (src : Nat) (s : State) : Host.Outcome State Fault Refusal :=
  if src < 16 && s.pwr.main then .next (s.assertSource src) else .next s

/-- TAMPER_SOURCE_DEASSERT (R497): its condition ends. -/
def execTamperSourceDeassert (src : Nat) (s : State) : Host.Outcome State Fault Refusal :=
  if src < 16 && s.gro.active.getLsbD src then
    .next { s with gro := { s.gro with
      active := s.gro.active &&& ~~~ BitVec.ofNat 16 (2 ^ src)
      endedAt := tabSet s.gro.endedAt src (groNow s)
      samples := tabSet s.gro.samples src 0 } }
  else .next s

/-! ## Corroboration (R501, R502) -/

/-- A pending source as it stands now: corroborated by itself after 10 ms of activity; given up once it is inactive and its
1 ms window is closed; else still pending. -/
def settleItem (s : State) (i : TamperItem) : TamperItem :=
  if !i.pending then i
  else if s.gro.active.getLsbD i.source then
    if i.asserted + 10000000 ≤ groNow s then { i with reached := 2, pending := false, corroborated := true } else i
  else if i.asserted + 1000000 < groNow s then { i with pending := false }
  else i

/-- Some Erase of the event was given up between two views of its items: UNCORROBORATED (R501). -/
def givenUp (before after : List TamperItem) : Bool :=
  (List.zip before after).any (fun p => p.1.pending && !p.2.pending && !p.2.corroborated)

/-- CORROBORATION_TIMEOUT (R501, R502): pending sources settle, the event's response is applied, and it closes when nothing is
pending and its collecting ms is over. -/
def execCorroborationTimeout (s : State) : Host.Outcome State Fault Refusal :=
  match s.gro.open_ with
  | none => .next s
  | some v =>
    if !s.pwr.main then .next s
    else
      let items := v.items.map (settleItem s)
      let s1 := { s with gro := { s.gro with open_ := some { v with items := items } } }
      let s2 := if givenUp v.items items then s1.groEvent 3 else s1
      let s3 := s2.applyResponse.writeOwed
      .next (if eventOver s3 then s3.closeEvent else s3)

/-! ## The end of a Seal, and an Erase's reset (R503, R504) -/

/-- A quorum session ends on entry to SEALED, except one for UNSEAL (R489). -/
def State.endForSeal (s : State) : State :=
  match s.fnt.session with
  | some x => if x.purpose = 5 then s else s.endSession
  | none => s

/-- SEAL_COMPLETE (step 5 of R503): SEALED, quorum sessions end, the event and a commit go to Gauge and the passport's record follows (R502, R522). -/
def execSealComplete (s : State) : Host.Outcome State Fault Refusal :=
  if s.gro.sealAt.isSome then
    .next (((({ s with gro := { s.gro with sealAt := none } }).endForSeal).setOp .sealed).logTamper.gauCommit.writeCondition)
  else .next s

/-- ERASE_WARM_RESET (R504, R565): once the Erase's event is in Gauge, a warm device reset and the boot that follows. -/
def execEraseWarmReset (s : State) : Host.Outcome State Fault Refusal :=
  if s.gro.erasing && s.gro.sealAt.isNone then .next (s.warmReset.bootRun 13) else .next s

/-! ## The battery domain (R506 to R511) -/

/-- Sources with a battery rate: 0 to 6 and 9 (R497). -/
def batteryWatched : BitVec 16 := 0x027F

/-- The copied response of a source (R506). -/
def GroState.copied (g : GroState) (src : Nat) : Nat := bitsAt g.copy.toNat (2 * src) 2

/-- The item of a source that asserts in a sample (R500, R501): a different source active in the same sample corroborates. -/
def batteryItem (s : State) (sample : BitVec 16) (src : Nat) : TamperItem :=
  let r := s.gro.copied src
  let mesh := src == 0 || src == 1
  let erased := if mesh then (sample.getLsbD 0 && sample.getLsbD 1) || r == 2
    else r == 2 && (List.range 16).any (fun o => o != src && sample.getLsbD o)
  { source := src, asserted := groNow s
    reached := if erased then 2 else min 1 r
    pending := !mesh && r == 2 && !erased
    corroborated := erased && !mesh
    owed := true }

/-- A pending source at a later sample: corroborated by its fourth consecutive active sample, given up when inactive. -/
def sampleItem (samples : Tab Nat) (sample : BitVec 16) (i : TamperItem) : TamperItem :=
  if !i.pending then i
  else if !sample.getLsbD i.source then { i with pending := false }
  else if 4 ≤ tabGet samples i.source 0 then { i with reached := 2, pending := false, corroborated := true }
  else i

/-- Sticky flag and counter of each source that asserts in a sample (R498). -/
def GroState.sampleMarks (g : GroState) (fresh : List Nat) : GroState :=
  fresh.foldl (fun (a : GroState) (i : Nat) => { a with
    sticky := a.sticky ||| BitVec.ofNat 16 (2 ^ i)
    counts := tabSet a.counts i (min 0xFFFF (tabGet a.counts i 0 + 1)) }) g

/-- Apply a battery event's strongest response: the seal bit, the wipe (R508). -/
def State.batteryApply (s : State) : State :=
  match s.gro.open_ with
  | none => s
  | some v =>
    let r := v.strongest
    if r ≤ v.applied then s
    else
      let s1 := { s with gro := { s.gro with open_ := some { v with applied := r }, sealBit := true } }
      if r = 2 then s1.wipeReservoir else s1

/-- Close a battery event in which no corroboration is pending. -/
def State.batteryClose (s : State) : State :=
  match s.gro.open_ with
  | some v => if v.items.any (·.pending) then s else { s with gro := { s.gro with open_ := none } }
  | none => s

/-- BATTERY_SAMPLE (R497, R508, R509): with main power absent, once per 128 night ticks; `active` are the sources whose condition holds. -/
def execBatterySample (active : BitVec 16) (s : State) : Host.Outcome State Fault Refusal :=
  if s.pwr.main || s.gro.night / 128 == s.gro.sampleMark then .next s
  else
    let g := { s.gro with sampleMark := s.gro.night / 128 }
    let seen := active &&& batteryWatched
    let sample := seen &&& ~~~ g.disabled
    let samples : Tab Nat := (List.range 16).foldl (fun (t : Tab Nat) i => tabSet t i (if sample.getLsbD i then tabGet t i 0 + 1 else 0)) g.samples
    let fresh := (List.range 16).filter (fun i => sample.getLsbD i && !g.active.getLsbD i)
    let s1 := { s with gro := { (g.sampleMarks fresh) with active := seen, samples := samples } }
    let old : List TamperItem := match s1.gro.open_ with | some v => v.items | none => []
    let kept := old.map (sampleItem samples sample)
    let s2 := if givenUp old kept then { s1 with gro := { s1.gro with event := s1.gro.event.set 3 } } else s1
    let items := kept.filter (fun i => !fresh.contains i.source) ++ fresh.map (batteryItem s2 sample)
    let v : TamperEvent := s2.gro.open_.getD { opened := groNow s2, night := s2.gro.night }
    if items.isEmpty then .next s2
    else
      .next (({ s2 with gro := { s2.gro with open_ := some { v with items := items } } }).batteryApply.writeOwed.batteryClose)

/-- MAIN_POWER_LOSS (R506, R508): the device goes down; the battery domain stays, watching its own sources. -/
def execMainPowerLoss (s : State) : Host.Outcome State Fault Refusal :=
  if s.pwr.main then
    let t := s.powerReset
    .next { t with
      gro := { t.gro with active := t.gro.active &&& batteryWatched, samples := [] }
      pwr := { t.pwr with main := false, por := true, rails := 1 } }
  else .next s

/-- VBAT_RETENTION_LOSS (R511): with main power absent, the domain loses the Reservoir, the night counter, the flags, counters and
buffer; the copied responses are the floors again. The seal bit is an open value (log entry 1). -/
def execVbatRetentionLoss (s : State) : Host.Outcome State Fault Refusal :=
  if s.pwr.main then .next s
  else
    let f := s.freeBool
    .next { f.2 with gro := { f.2.gro with
      rootHalf := none, retained := false, night := 0, nightFrac := 0, sampleMark := 0, sync := none, sticky := 0, counts := [], beb := [], bebNewest := 0
      bebValid := 0, copy := f.2.gro.floors, sealBit := f.1, open_ := none, samples := [] } }

/-- HOLDUP_RECHARGED (R507). -/
def execHoldupRecharged (s : State) : Host.Outcome State Fault Refusal :=
  .next { s with gro := { s.gro with holdupOk := true } }

/-! ## Sticky flags and fuses (R512, R513) -/

/-- STICKY_CLEAR (R8, R512): a GRO_STICKY write; `arrived` are the sources that assert during it. Only MAINTENANCE clears, an active
source's flag stays (one that is fused off holds none, R498), and an effective clear is recorded in Gauge. -/
def execStickyClear (f : FnId) (v : BitVec 32) (arrived : BitVec 16) (s : State) : Host.Outcome State Fault Refusal :=
  if isPf0 f && s.fnt.op == .maintenance then
    let bits := v.truncate 16 &&& s.gro.sticky &&& ~~~ ((s.gro.active ||| arrived) &&& ~~~ s.gro.disabled)
    if bits = 0 then .next s
    else
      .next ((({ s with gro := { s.gro with sticky := s.gro.sticky &&& ~~~ bits } }).gaugeLog 9 9 s.now (natLe 2 bits.toNat)).gauMisc 7)
  else .next s

/-- FUSE_OFF (R513): a GRO_FUSE write burns fuses in MAINTENANCE, or while the life cycle is TEST or MANUFACTURED, the meshes' only
then. -/
def execFuseOff (f : FnId) (v : BitVec 32) (s : State) : Host.Outcome State Fault Refusal :=
  let early := s.life == 1 || s.life == 2
  if isPf0 f && (early || s.fnt.op == .maintenance) then
    .next { s with gro := { s.gro with disabled := s.gro.disabled ||| (v.truncate 16 &&& (if early then 0xFFFF else 0xFFFC)) } }
  else .next s

end Sys2Proof.Machine
end

