-- ==== Sys2Proof/Machine/FabricTag.lean ====
section
/-! DEFINITION. The integrity tags of fabric transfers (R414, R415): the covered words, the tag, and the keys a receiver accepts. -/

namespace Sys2Proof.Machine

/-- A product in GF(2^64) with modulus x^64 + x^4 + x^3 + x + 1 (R414). -/
def gf64Mul (x y : BitVec 64) : BitVec 64 :=
  ((List.range 64).foldl (fun (a : BitVec 64 × BitVec 64) i =>
    (if y.getLsbD i then a.1 ^^^ a.2 else a.1, (a.2 <<< 1) ^^^ (if a.2.getLsbD 63 then 0x1B#64 else 0#64))) (0#64, x)).1

/-- Data as little-endian words, zeros filling the last (R414). -/
def dataWords : Nat → Bytes → List (BitVec 64)
  | 0, _ => []
  | n + 1, bs => BitVec.ofNat 64 (leNat (bs.take 8)) :: dataWords n (bs.drop 8)

/-- The words x_1 to x_n that a transfer's tag covers (R414). -/
def Transfer.words (t : Transfer) : List (BitVec 64) :=
  [ BitVec.ofNat 64 (t.initiator % 32 + t.kind % 8 * 2 ^ 5 + (t.len - 1) % 4096 * 2 ^ 8 + bitNat t.set * 2 ^ 20 + bitNat t.keyIndex * 2 ^ 21 + t.epoch % 2 ^ 32 * 2 ^ 32)
  , BitVec.ofNat 64 (t.addr % 2 ^ 40)
  , BitVec.ofNat 64 (t.reqGen % 2 ^ 32 + t.respGen % 2 ^ 32 * 2 ^ 32)
  , BitVec.ofNat 64 (t.seq % 2 ^ 32 + t.entry % 2 ^ 14 * 2 ^ 32 + t.inst % 2 ^ 8 * 2 ^ 46) ] ++ dataWords (ceilDiv t.data.length 8) t.data

/-- Σ x_j · H^(n+1−j), by Horner's rule. -/
def tagSum (h : BitVec 64) (ws : List (BitVec 64)) : BitVec 64 := ws.foldl (fun a w => gf64Mul (a ^^^ w) h) 0#64

/-- The tag of a transfer under a key (H, S): the low 32 bits of S ⊕ the sum (R414); the key's two words are little-endian, H first (log entry 145). -/
def Transfer.tag (t : Transfer) (key : Bytes) : BitVec 32 :=
  (BitVec.ofNat 64 (leNat (slice key 8 8)) ^^^ tagSum (BitVec.ofNat 64 (leNat (key.take 8))) t.words).setWidth 32

/-- A transfer leaves its sender under the present key, with its tag (R414, R415). -/
def State.sendTagged (s : State) (t : Transfer) : Transfer × BitVec 32 :=
  let u := { t with keyIndex := s.wei.keyIndex }
  (u, u.tag s.wei.key)

/-- The key of an index that a receiver accepts now: the present one, or the previous one for 4 µs after the change (R415). -/
def State.acceptedKey (s : State) (index : Bool) : Option Bytes :=
  if index == s.wei.keyIndex then some s.wei.key
  else match s.wei.prevKey with | some (k, t) => if s.now ≤ t then some k else none | none => none

/-- The receiver's check of a transfer's tag (R414). -/
def State.tagOk (s : State) (t : Transfer) (tag : BitVec 32) : Bool :=
  match s.acceptedKey t.keyIndex with | some k => t.tag k == tag | none => false

/-- The receiver's check of a transfer that it takes as it left its sender (R414). -/
def State.tagPasses (s : State) (t : Transfer) : Bool := let r := s.sendTagged t; s.tagOk r.1 r.2

/-- The receiver's check of a transfer whose sender had or had not yet changed over to the present key index (R415). -/
def State.tagOkEither (s : State) (t : Transfer) (tag : BitVec 32) : Bool :=
  s.tagOk { t with keyIndex := s.wei.keyIndex } tag || s.tagOk { t with keyIndex := !s.wei.keyIndex } tag

end Sys2Proof.Machine
end

