-- ==== Sys2Proof/Machine/Spring.lean ====
section
/-! DEFINITION. Spring's rows (20): the sources with their windows, estimates and exclusions, seeds, the DRBGs, the pools and raw
runs. -/

namespace Sys2Proof.Machine

/-! ## Sources -/

/-- A source; the flag selects B. -/
def State.src (s : State) (b : Bool) : Source := if b then s.spg.srcB else s.spg.srcA

def State.setSrc (s : State) (b : Bool) (x : Source) : State :=
  { s with spg := if b then { s.spg with srcB := x } else { s.spg with srcA := x } }

/-- SPG_STATUS. -/
def spgStatus (s : State) : Nat :=
  ((List.range 9).map (fun n => bitNat (s.drbg n).inst * 2 ^ n)).sum + bitNat s.spg.fatal * 2 ^ 9 + s.spg.srcA.st % 4 * 2 ^ 10
    + s.spg.srcB.st % 4 * 2 ^ 12 + bitNat s.spg.raw.isSome * 2 ^ 14 + s.spg.buffer.length % 32 * 2 ^ 15

/-- A Gauge entry of KIND 5. -/
def State.logSpring (s : State) : State := s.gaugeLog 5 10 s.now (natLe 4 (spgStatus s))

/-- The source's raw run is in progress (R475). -/
def rawOn (s : State) (b : Bool) : Bool := match s.spg.raw with | some r => r.1 == b | none => false

/-- The restart of R460: a settle of 100 µs, then a start-up window. -/
def restarted (x : Source) (now : Nat) : Source := { x with settle := some (now + 100000), startWin := true, st := if x.st = 3 then 3 else 2 }

/-- Seeds with output of a failed source completed within the 10 ms before the failure leave the buffer (R465). -/
def State.purgeSeeds (s : State) (b : Bool) : State :=
  { s with spg := { s.spg with buffer := s.spg.buffer.filter (fun x => !((if b then x.fromB else x.fromA) && decide (s.now ≤ x.at_ + 10000000))) } }

/-- The fatal entropy alarm (R473): what waits for output completes ENTROPY/FAILED; seeds and conditioner are zeroised. -/
def State.fatalAlarm (s : State) : State :=
  let waiting := (s.slu.retire.filter (fun p => heldForSeed s p.2)).map (fun (p : Nat × Cmd) => p.1)
  let s1 := { s with spg := { s.spg with fatal := true, buffer := [], cond := [], condState := [] } }
  let s2 := ((s1.spgEvent 5).gauMisc 4).logSpring
  waiting.foldl (fun a e => a.endLate e 0x0502) s2

/-- A third failure within 1 s excludes the source; with both excluded the alarm is raised (R462). -/
def State.excludeSrc (s : State) (b : Bool) : State :=
  let x := s.src b
  if x.st = 3 || (x.fails.filter (fun t => decide (s.now < t + 1000000000))).length < 3 then s
  else
    let s1 := (((s.setSrc b { x with st := 3 }).spgEvent (if b then 4 else 3)).gauMisc 3).logSpring
    if (s1.src (!b)).st = 3 && !s1.spg.fatal then s1.fatalAlarm else s1

/-- A failure of a source (R460, R462, R465). In a raw run it does not count under R462 and the run goes on (R475). -/
def State.failSrc (s : State) (b : Bool) : State :=
  let raw := rawOn s b
  let x := s.src b
  let y := { x with failsTotal := min 0xFFFF (x.failsTotal + 1) }
  let z := if raw then y else restarted { y with fails := (s.now :: y.fails).filter (fun t => decide (s.now < t + 1000000000)) } s.now
  let s1 := (((s.setSrc b z).purgeSeeds b).spgEvent (if b then 2 else 1)).logSpring
  if raw then s1 else s1.excludeSrc b

/-- One passing block is conditioned; four outputs form a seed (R464, R465). -/
def State.conditionBlock (s : State) (b : Bool) (block : Bytes) : State :=
  if 16 ≤ s.spg.buffer.length then s
  else
    let o := Config.condition s.spg.condState block
    let l := s.spg.cond ++ [(o, b)]
    if l.length < 4 then { s with spg := { s.spg with cond := l, condState := o } }
    else
      let x : Seed := { bytes := (l.map (fun (p : Bytes × Bool) => padTo 16 p.1)).flatten, fromA := l.any (fun p => !p.2), fromB := l.any (fun p => p.2), at_ := s.now }
      { s with spg := { s.spg with cond := [], condState := o, buffer := s.spg.buffer ++ [x] } }

/-- The outcome of a window that passed: a start-up window is discarded and seeding begins; an excluded source's, a raw run's and any
under the alarm feed nothing (R460, R462, R473, R475). -/
def State.passWindow (s : State) (b : Bool) (blocks : List Bytes) : State :=
  let x := s.src b
  if x.startWin then s.setSrc b { x with startWin := false, st := if x.st = 3 then 3 else 1 }
  else if x.st = 3 || rawOn s b || s.spg.fatal then s
  else blocks.foldl (fun a k => a.conditionBlock b k) s

/-- SOURCE_BLOCK (R463): the estimates of the latest 65,536 samples, in Q1.15; 0.0625 is 2,048. -/
def execSourceBlock (srcB : Bool) (bias lag1 lag2 lag3 : Int) (s : State) : Host.Outcome State Fault Refusal :=
  let s1 := s.setSrc srcB { s.src srcB with bias := bias, lag1 := lag1, lag2 := lag2, lag3 := lag3 }
  if [bias, lag1, lag2, lag3].any (fun v => decide (2048 < v.natAbs)) then .next (s1.spgEvent 6) else .next s1

/-- SOURCE_WINDOW (R459 to R465): the longest run and the largest proportion count of a window's samples decide it. -/
def execSourceWindow (srcB : Bool) (rctRun aptCount : Nat) (blocks : List Bytes) (s : State) : Host.Outcome State Fault Refusal :=
  let x := s.src srcB
  if x.settle.isSome then .next s
  else
    let s1 := s.setSrc srcB { x with rctMax := min 0xFFFF (max x.rctMax rctRun), aptMax := min 0xFFFF (max x.aptMax aptCount) }
    if (if srcB then 39 else 61) ≤ rctRun || (if srcB then 685 else 814) ≤ aptCount then .next (s1.failSrc srcB)
    else .next (s1.passWindow srcB blocks)

/-- SOURCE_SETTLE_END (R460, R461). -/
def execSourceSettleEnd (srcB : Bool) (s : State) : Host.Outcome State Fault Refusal :=
  match (s.src srcB).settle with
  | none => .next s
  | some t => if t ≤ s.now then .next (s.setSrc srcB { s.src srcB with settle := none }) else .next s

/-- SOURCE_REJOIN (R462): 1 s without a failure. -/
def execSourceRejoin (srcB : Bool) (s : State) : Host.Outcome State Fault Refusal :=
  let x := s.src srcB
  if x.st = 3 && x.fails.all (fun t => decide (t + 1000000000 ≤ s.now)) then
    .next (s.setSrc srcB { x with st := if x.settle.isSome || x.startWin then 2 else 1 })
  else .next s

/-! ## DRBGs (R466 to R469, R474) -/

/-- The personalisation string (R466). -/
def personalisation (s : State) (n : Nat) : Bytes :=
  natLe 8 s.fnt.serial ++ natLe 1 n ++ natLe 3 0 ++ natLe 4 s.gau.acc.cycles ++ natLe 8 s.now ++ natLe 4 (if n = 8 then 0 else (s.basin n).generation) ++ natLe 4 0

/-- The basin of a DRBG is powered: neither retired nor parked (a parked basin that wakes is). -/
def drbgPowered (s : State) (n : Nat) : Bool :=
  n == 8 || ((s.basin n).st != .retired && ((s.basin n).st != .parked || (s.basin n).waking))

/-- Every DRBG before n in the order of step 4 of R474 is instantiated; the order holds until Spring is seeded. -/
def drbgTurn (s : State) (n : Nat) : Bool :=
  s.spg.seeded || n == 8 || ((s.drbg 8).inst && (List.range n).all (fun i => (s.drbg i).inst || !drbgPowered s i))

/-- Every required DRBG is instantiated (R474). -/
def allSeeded (s : State) : Bool := (s.drbg 8).inst && basinNums.all (fun i => (s.drbg i).inst || !drbgPowered s i)

/-- DRBG_INSTANTIATED (R466, R468, R474): DRBG n takes the oldest seed. -/
def execDrbgInstantiated (n : Nat) (s : State) : Host.Outcome State Fault Refusal :=
  match s.spg.buffer with
  | [] => .next s
  | x :: rest =>
    if (s.drbg n).inst || s.spg.fatal || !drbgPowered s n || !drbgTurn s n then .next s
    else
      let d : Drbg := { s.drbg n with inst := true, calls := 0, lastReseed := s.now,
                                      state := Config.drbgInstantiate (x.bytes.take 48) (x.bytes.drop 48) (personalisation s n) }
      let s1 := { (s.setDrbg n d) with spg := { (s.setDrbg n d).spg with buffer := rest } }
      let s2 := if n = 8 && s1.wei.seededAt.isNone then { s1 with wei := { s1.wei with seededAt := some s1.now } } else s1
      if !s2.spg.seeded && allSeeded s2 then .next (({ s2 with spg := { s2.spg with seeded := true } }).spgEvent 0).bootOn else .next s2

/-- A reseed is due: asked for, or 2^16 calls or 100 ms have passed (R467). -/
def reseedDue (s : State) (n : Nat) : Bool :=
  s.spg.reseed.getLsbD n || decide (2 ^ 16 ≤ (s.drbg n).calls) || decide ((s.drbg n).lastReseed + 100000000 ≤ s.now)

/-- DRBG_RESEED (R466, R467). -/
def execDrbgReseed (n : Nat) (s : State) : Host.Outcome State Fault Refusal :=
  match s.spg.buffer with
  | [] => .next s
  | x :: rest =>
    if !(s.drbg n).inst || s.spg.fatal || !reseedDue s n then .next s
    else
      let s1 := s.setDrbg n (reseeded s (s.drbg n) x)
      .next { s1 with spg := { s1.spg with buffer := rest, reseed := s1.spg.reseed &&& ~~~(BitVec.ofNat 9 (2 ^ n)) } }

/-- RESEED_REQUEST (R467): a write of SPG_CTRL by PF0. -/
def execReseedRequest (f : FnId) (v : BitVec 32) (s : State) : Host.Outcome State Fault Refusal :=
  if !isPf0 f then .next s
  else
    let ok : Nat := if s.spg.fatal then 0 else ((List.range 9).map (fun n => bitNat (v.getLsbD n && (s.drbg n).inst) * 2 ^ n)).sum
    .next { s with spg := { s.spg with reseed := s.spg.reseed ||| BitVec.ofNat 9 ok, eventMsg := v.getLsbD 9 } }

/-! ## Pools (R470, R471) -/

/-- Capacity of a pool. -/
def randomPool (n : Nat) : Nat := if n = 8 then 16384 else 65536

/-- B:0x8130 ENT_READY (R471). -/
def entReady (s : State) (n : Nat) : Bool := ((s.drbg n).inst || s.spg.fatal) && decide (16 ≤ (s.drbg n).pool.length)

/-- POOL_REFILL (R470, R471): `len` more bytes of output, within the room of a pool that fell below half full and is not yet full again; a rise of ENT_READY sets the ENTROPY pending bit. -/
def execPoolRefill (n len : Nat) (s : State) : Host.Outcome State Fault Refusal :=
  let d := s.drbg n
  if !canGenerate s n || !(d.filling || decide (2 * d.pool.length < randomPool n)) then .next s
  else
    let k := min len (randomPool n - d.pool.length)
    let g := genBytes (k / 65536 + 1) d k
    let s1 := s.setDrbg n { g.2 with pool := d.pool ++ g.1, filling := decide (d.pool.length + k < randomPool n) }
    if !entReady s n && entReady s1 n then .next (s1.irq n 7) else .next s1

/-! ## Raw runs (R475) -/

/-- COUNT sample periods of a source in ns (R457). -/
def rawNs (b : Bool) (n : Nat) : Nat := if b then 250 * n else 125 * n

/-- ENTROPY.RAW (R475): the run begins, or is refused while the other source is excluded or restarting and no alarm holds. -/
def execEntropyRaw (e : Nat) (s : State) : Host.Outcome State Fault Refusal :=
  match s.ready e (· == 0x0570) with
  | none => .next s
  | some c =>
    let b := param c.desc 0 1 == 1
    let n := param c.desc 4 4
    if s.spg.raw.isSome then .next s
    else if 2 ≤ (s.src (!b)).st && !s.spg.fatal then .next (s.finish e { status := 0x0230 })
    else .next { s with spg := { s.spg with raw := some (b, n, e, s.now + rawNs b n) } }

/-- Ones in a byte string. -/
def onesIn (bs : Bytes) : Nat := (bs.map (fun x => ((List.range 8).filter (fun i => x.getLsbD i)).length)).sum

/-- RESULT of a raw run: the failures and the bias in Q1.15 over its samples. -/
def rawResult (samples : Bytes) (n rct apt : Nat) : Bytes :=
  natLe 4 rct ++ natLe 4 apt ++ natLe 2 (bitsOfInt 16 (Int.ofNat (onesIn samples * 32768) / Int.ofNat n - 16384))

/-- RAW_RUN_END (R475): the output is delivered and the source restarts. -/
def execRawRunEnd (samples : Bytes) (rct apt : Nat) (s : State) : Host.Outcome State Fault Refusal :=
  match s.spg.raw with
  | none => .next s
  | some (b, n, e, till) =>
    if s.now < till then .next s
    else
      let s1 := { s with spg := { s.spg with raw := none } }
      let s2 := s1.setSrc b (restarted (s1.src b) s1.now)
      match s2.ready e (· == 0x0570) with
      | none => .next s2
      | some _ => .next (s2.finish e { result := rawResult samples n rct apt, output := padTo (n / 8) samples })

end Sys2Proof.Machine
end

