-- ==== Sys2Proof/Machine/Retirement.lean ====
section
/-! DEFINITION. Retirement (08, 12, 13): R182's conditions, what a command commits, its output and its completion. -/

namespace Sys2Proof.Machine

/-! ## May it retire (R182) -/

/-- The command is the oldest of its queue's order. -/
def isHead (s : State) (e : Nat) (c : Cmd) : Bool :=
  match (s.queue c.fn c.q).order with
  | .cmd x :: _ => x == e
  | _ => false

/-- The conditions of R182 on the command itself. -/
def mayRetire (s : State) (e : Nat) (c : Cmd) : Bool :=
  isHead s e c &&
    (match c.verdict with
     | .open => false
     | .allow => c.phase == .done && c.status.isSome
     | .deny _ => c.phase == .squashed)

/-! ## What it changes in the key region -/

/-- The command drew the last value of a key's counter (R289). -/
def lastNonce (c : Cmd) : Bool := c.spent != 0

/-- The slots of a persistent record, the whole record or its first slot. -/
def slotsOf (s : State) (h : BitVec 64) (all : Bool) : List Nat :=
  match s.record h with
  | some r => if r.session then [] else (List.range (if all then r.slots else 1)).map (fun i => keySlot s h + i)
  | none => []

/-- The commit of a session moves the life cycle to OWNED, which clears the key region (R478). -/
def clearsKeys (s : State) (n : Nat) : Bool := match namedSession s n with | some x => x.purpose == 8 && certTo x.cert == 3 | none => false

/-- The slots that a retirement adds to the dirty list (R318). -/
def dirtied (s : State) (c : Cmd) : List Nat :=
  ((match c.effect, c.newRec with
    | .create slot, some r => if r.session then [] else (List.range r.slots).map (fun i => slot + i)
    | .keyTo h _, _ => slotsOf s h false
    | .destroy h, _ => slotsOf s h true
    | .quorum n, _ => if clearsKeys s n then s.cis.records.flatMap (fun p => if p.2.session then [] else (List.range p.2.slots).map (fun i => p.1 + i)) else []
    | _, _ => []) ++ (if c.block.isSome then slotsOf s (key1Of c.desc) false else []) ++ (if lastNonce c then slotsOf s c.spent false else [])).eraseDups

/-- The dirty list cannot take them (R318); an empty one takes the slots of any one retirement (log entry 159). -/
def stalls (s : State) (c : Cmd) : Bool :=
  let add := (dirtied s c).filter (fun k => !s.vlt.dirty.any (fun d => d.1 == k))
  !add.isEmpty && !s.vlt.dirty.isEmpty && decide (4096 < s.vlt.dirty.length + add.length)

/-- A reserved block commits as NEXT_BLOCK (R288). -/
def State.commitBlock (s : State) (c : Cmd) : State :=
  let h := key1Of c.desc
  match c.block, s.record h with
  | some b, some r =>
    let r1 := { r with nextBlock := max r.nextBlock (b + 1) }
    ((s.putRecord (keySlot s h) r1).mapCopies h (fun _ => r1)).mirrorRecord (keySlot s h) r1
  | _, _ => s

/-- The last value of a key's counter was drawn: an ACTIVE or SUSPENDED key becomes RETIRED (R276, R289). -/
def State.spendCounter (s : State) (c : Cmd) : State :=
  if lastNonce c then (s.when (decide (s.keyState c.spent < 3)) (fun a => a.setKeyState c.spent 3)).cisEvent 0 else s

/-- A new record enters the key region (R284, R295). -/
def State.commitRecord (s : State) (slot : Nat) (r : Record) : State :=
  let r1 := { r with created := s.now, stateTime := s.now }
  (s.putRecord slot r1).mirrorSlots slot r1

/-- A transition of R276 that KEY.STATE may cause. -/
def stateMove (a b : Nat) : Bool := (a == 0 && b == 1) || (a == 1 && b == 2) || (a == 2 && b == 1) || (decide (a ≤ 2) && b == 3)

/-- Commands that hold a final ALLOW on a key's earlier state (R192). -/
def holdersOf (s : State) (e : Nat) (h : BitVec 64) : List (Nat × Nat) :=
  (s.slu.retire.filter (fun p => p.1 != e && p.2.verdict == .allow && namesKey p.2.desc h)).map (fun (p : Nat × Cmd) => (p.1, p.2.order))

/-- Open verdicts that name a key are to be evaluated afresh (R192). -/
def State.recheckKey (s : State) (e : Nat) (h : BitVec 64) : State :=
  let hit (p : Nat × Cmd) : Bool := p.1 != e && p.2.verdict == .open && namesKey p.2.desc h
  { s with slu := { s.slu with retire := s.slu.retire.map (fun p => if hit p then (p.1, { p.2 with recheck := true }) else p) } }

/-- What a command's effect leaves: its status, its RESULT, the commands its completion waits for, the state. -/
structure Committed where
  status : Nat
  result : Bytes
  waitsFor : List (Nat × Nat) := []
  state : State

/-- Commit the effect of an allowed command (R90, R182, R192, R293, R489). -/
def State.commitEffect (s : State) (e : Nat) (c : Cmd) (st : Nat) : Committed :=
  match c.effect with
  | .none => { status := st, result := c.result, state := s }
  | .create slot =>
    match c.newRec with
    | some r => { status := st, result := c.result, state := s.commitRecord slot r }
    | none => { status := st, result := c.result, state := s }
  | .keyTo h k =>
    let s1 := if stateMove (s.keyState h) k then s.setKeyState h k else s
    { status := st, result := c.result, waitsFor := holdersOf s e h, state := s1.recheckKey e h }
  | .keyArm h activate t =>
    match s.arm (if activate then .keyActivate else .keyRetire) t h.toNat ((s.partOf c.fn).getD 0) c.fn with
    | .inl x => { status := x, result := [], state := s }
    | .inr (n, s1) => { status := st, result := armResult n s.tbs.nextSeq, state := s1 }
  | .destroy h => { status := st, result := c.result, waitsFor := holdersOf s e h, state := (s.destroyKey h).recheckKey e h }
  | .quorum n =>
    match s.commitQuorum n c.input with
    | some s1 => { status := st, result := c.result, state := s1 }
    | none => { status := 0x0231, result := [], state := s }

/-- An attempt that host memory ended: nothing of the command commits (R109). -/
def abandoned (c : Cmd) : Bool := match c.verdict with | .deny st => statusClass st == 7 | _ => false

/-- A command's whole commit. A block it caused to be reserved commits whatever its verdict (R288), and a counter it spent retires its key
(R289), unless it is abandoned (R109). -/
def State.commit (s : State) (e : Nat) (c : Cmd) : Committed :=
  let s1 := if abandoned c then s else (s.commitBlock c).spendCounter c
  match c.verdict with
  | .deny st => { status := st, result := [], state := s1 }
  | _ => s1.commitEffect e c (c.status.getD 0)

/-! ## Output and completion -/

/-- The writes of a command's output that no stripe has made (R19, R22). -/
def restWrites (c : Cmd) : List (Nat × Bytes) :=
  (if c.written.isEmpty then scatter (outExtents c) c.output
   else (((List.range (ceilDiv c.output.length (outStripe c.desc))).filter (fun i => !c.written.contains i)).map (stripeWrites c)).flatten)
    ++ c.extraOut

/-- Deliver what of an allowed command's output no stripe has written. -/
def State.deliverOutput (s : State) (c : Cmd) : State := s.deliverAll c (restWrites c)

/-- The command waits at its end: its queue holds its writes back, and what is left does not fit its stream window (R114). -/
def outputWaits (s : State) (c : Cmd) : Bool := c.verdict == .allow && c.status == some 0 && s.windowFull c (restWrites c)

/-- Put the completion: posted in order, or, for a moved command, kept for its resubmission (R117, R141). -/
def State.putCompletion (s : State) (c : Cmd) (k : Completion) : State :=
  let x := s.queue c.fn c.q
  let x1 := { x with order := answerDups (x.order.drop 1) k, lastRetire := s.now }
  if c.moved then
    s.setQueue c.fn c.q { x1 with
      window := if windowOwn x1.window k.tag k.slot then windowSet x1.window k.tag (.retained k (s.now + retentionNs)) else x1.window }
  else s.setQueue c.fn c.q { x1 with toPost := x1.toPost ++ [k] }

/-- Output that the command's queue still holds keeps its part of the stream windows (R114, R369). -/
def State.keepWindow (s : State) (c : Cmd) : State :=
  if 256 ≤ c.staged then
    let x := s.queue c.fn c.q
    s.setQueue c.fn c.q { x with heldWindow := x.heldWindow + c.window }
  else s

/-- The entry is freed with its reservations, marks and work buffer (R16, R182). -/
def State.freeCmd (s : State) (e : Nat) (c : Cmd) : State :=
  let s1 := ((s.freeReserved e).freeWork e).dropCmd e
  let s2 := match c.basin with
    | some b =>
      let t := s1.unmark e b
      let x := freeLanesOf (t.basin b) e (cmdBlocks s c)
      if bitsAt x.job.toNat 192 14 = e then t.setBasin b { x with jobNonce := 0 } else t.setBasin b x
    | none => s1
  ((s2.keepWindow c).unpin c).leaveMgmt e

/-- Retire one command. -/
def State.retire (s : State) (e : Nat) (c : Cmd) : State :=
  let k := s.commit e c
  let out := if c.verdict == .allow && k.status < 256 then k.state.deliverOutput c else k.state
  let done := { c.completion s.now k.status (c.vEpoch.getD c.epoch) k.result with waitsFor := k.waitsFor }
  let s1 := ((out.putCompletion c done).noteCompletion done).freeCmd e c
  (s1.drain c.fn c.q).resumeAll

/-- RETIREMENT (R182). A retirement that the full dirty list holds back waits, and MIRROR_STALL sets (R318). -/
def execRetirement (e : Nat) (s : State) : Host.Outcome State Fault Refusal :=
  match s.cmd e with
  | none => .next s
  | some c =>
    if !mayRetire s e c || outputWaits s c then .next s
    else if stalls s c then .next (s.vltEvent 6)
    else .next (s.retire e c)

end Sys2Proof.Machine
end

