-- ==== Sys2Proof/Machine/Vault.lean ====
section
/-! DEFINITION. The vault's rows (13): retraining and loss of a die, the re-wrap, the host mirror and its reload (R311 to R325). -/

namespace Sys2Proof.Machine

/-! ## Dies (R311, R312) -/

/-- DIE_RETRAIN (R311): at most once every 128 ms, one die at a time; a failed retrain is repeated at the next lower rate, and the
second failure within 1 s loses the die (R312). -/
def execDieRetrain (d : Nat) (ok : Bool) (s : State) : Host.Outcome State Fault Refusal :=
  let x := s.die d
  let other := [0, 1, 2, 3].any (fun n => n != d && (s.die n).retraining)
  let due := x.retraining || (match x.trainedAt with | none => true | some t => decide (t + 128000000 ≤ s.now))
  if !x.present || other || !due then .next s
  else if ok then .next (s.setDie d { x with retraining := false, trainedAt := some s.now })
  else
    let y : Die := { x with retraining := true, retrainFails := min 0xFF (x.retrainFails + 1), rate := max 1 (x.rate - 1), failAt := some s.now }
    let twice := match x.failAt with | some t => decide (s.now ≤ t + 1000000000) | none => false
    .next (if twice then (s.setDie d y).loseDie d else s.setDie d y)

/-- DIE_LOST (R312, R313). -/
def execDieLost (d : Nat) (s : State) : Host.Outcome State Fault Refusal := .next (s.loseDie d)

/-! ## Re-wrap (R314) -/

/-- A re-wrap starts, unless one runs or the vault is locked. -/
def State.startRewrap (s : State) : State :=
  if s.vlt.unlocked && !s.vlt.rewrap then { s with vlt := { s.vlt with rewrap := true } } else s

/-- REWRAP_GO: a write of 1 to VLT_REWRAP.GO by a PF0. -/
def execRewrapGo (f : FnId) (s : State) : Host.Outcome State Fault Refusal :=
  if isPf0 f && s.fnExists f then .next s.startRewrap else .next s

/-- REWRAP_THRESHOLD: the 2^40th line write on a present die under the current generation. -/
def execRewrapThreshold (d : Nat) (s : State) : Host.Outcome State Fault Refusal :=
  if (s.die d).present then .next s.startRewrap else .next s

/-- REWRAP_DONE (step 4). -/
def execRewrapDone (s : State) : Host.Outcome State Fault Refusal :=
  if s.vlt.rewrap then
    .next (({ s.rewrapAll with vlt := { s.vlt with rewrap := false, generation := (s.vlt.generation + 1) % 2 ^ 32 } }).vltEvent 3)
  else .next s

/-! ## The mirror's writer (R315 to R318) -/

/-- MK (R315); its context, 0, is one zero byte (log entry 42). -/
def mirrorKey (s : State) : Bytes := Config.kdf s.rwk (ascii "OX-MIR") [0] 32

/-- MAK (R315). -/
def mirrorMacKey (s : State) : Bytes := Config.kdf s.rwk (ascii "OX-MAK") [0] 32

/-- The live record that occupies a slot, with its first slot. -/
def recordAt (s : State) (slot : Nat) : Option (Nat × Record) :=
  s.cis.records.find? (fun p => decide (p.1 ≤ slot) && decide (slot < p.1 + p.2.slots))

/-- A slot's present state: LIVE, PARTITION, 256 bytes (R316). -/
def slotState (s : State) (slot : Nat) : Bool × Nat × Bytes :=
  match recordAt s slot with
  | some (h, r) => (true, r.part, padTo 256 ((recordSlots s r).getD (slot - h) []))
  | none => (false, 0, List.replicate 256 0)

/-- P of a slot state (R317). -/
def slotValue (s : State) (slot use : Nat) (live : Bool) (body : Bytes) : Nat :=
  beNat (padTo 48 (Config.hmacSha384 (mirrorMacKey s) (natLe 4 slot ++ natLe 2 use ++ natLe 2 (bitNat live) ++ body)))

/-- Bytes 0x00 to 0x2F of an entry (R316). -/
def mirrorHead (live : Bool) (part use seq slot retire : Nat) : Bytes :=
  natLe 2 0x4D56 ++ natLe 2 (bitNat live) ++ natLe 1 part ++ natLe 1 0 ++ natLe 2 use ++ natLe 8 seq ++ natLe 4 slot ++ natLe 4 0
    ++ natLe 8 retire ++ List.replicate 16 0

/-- The IV of an entry (R316). -/
def mirrorIv (seq : Nat) : Bytes := natBe 8 seq ++ List.replicate 4 0

/-- The entry of a slot state, with H over the states mirrored up to it. -/
def mirrorEntry (s : State) (seq slot retire h : Nat) : Bytes :=
  let x := slotState s slot
  let head := mirrorHead x.1 x.2.1 (tabGet s.cis.use slot 0) seq slot retire
  let c := gcmSeal (mirrorKey s) (mirrorIv seq) head (x.2.2 ++ natLe 48 h ++ List.replicate 16 0)
  head ++ padTo 16 c.2 ++ padTo 320 c.1

/-- Bytes from the ring's start of a sequence number. -/
def ringAddr (s : State) (seq : Nat) : Nat := s.vlt.mirrorBase.toNat + seq % 2 ^ s.vlt.mirrorLog2 * 384

/-- MIRROR_ENTRY_WRITE (R318): the oldest dirty slot is written at ring position SEQ mod 2^LOG2_ENTRIES while the ring has room;
SEQ_MARK advances before it is reached (log entry 41). -/
def execMirrorEntryWrite (s : State) : Host.Outcome State Fault Refusal :=
  match s.vlt.dirty with
  | [] => .next s
  | d :: rest =>
    if !(s.vlt.mirrorEn && s.vlt.unlocked) || s.vlt.durable + 2 ^ s.vlt.mirrorLog2 ≤ s.vlt.mirrorSeq then .next s
    else
      let slot := d.1
      let q := s.vlt.mirrorSeq
      let x := slotState s slot
      let p := slotValue s slot (tabGet s.cis.use slot 0) x.1 x.2.2
      let h := (s.vlt.h + 2 ^ 384 - tabGet s.vlt.pOf slot 0 + p) % 2 ^ 384
      let nb := match tabFind s.cis.records slot with | some r => some (r.handle, r.nextBlock) | none => none
      let w : MirrorEntry := { seq := q, slot := slot, first := d.2.1, retire := d.2.2, nextBlock := nb }
      let s1 := { s with vlt := { s.vlt with
        dirty := rest, mirrorSeq := q + 1, h := h, pOf := tabSet s.vlt.pOf slot p, written := s.vlt.written ++ [w]
        seqMark := if s.vlt.seqMark ≤ q then s.vlt.seqMark + 65536 else s.vlt.seqMark } }
      .next { s1 with out := s1.out ++ s1.writesOf ⟨s.vlt.mirrorPort, 0⟩ none (ringAddr s q) (mirrorEntry s q slot d.2.2 h) }

/-- VLT_DURABLE_THROUGH (R320). -/
def State.durableThrough (s : State) : Nat :=
  let firsts := s.vlt.dirty.map (fun d => d.2.1) ++ s.vlt.written.map (fun w => w.first)
  match firsts with
  | [] => s.now
  | a :: r => r.foldl min a - 1

/-- MIRROR_ACK (R320): a value not above D or not below VLT_MIRROR_SEQ is discarded; otherwise the entry is read back. -/
def execMirrorAck (f : FnId) (v : BitVec 64) (s : State) : Host.Outcome State Fault Refusal :=
  if !(isPf0 f && s.fnExists f) then .next s
  else if v.toNat ≤ s.vlt.durable || s.vlt.mirrorSeq ≤ v.toNat then .next (s.vltEvent 7)
  else
    .next (({ s with vlt := { s.vlt with mirrorAck := v.toNat, ackPending := true } }).readHost ⟨s.vlt.mirrorPort, 0⟩ (ringAddr s v.toNat) 384)

/-- A durable mirror entry covers a journal entry of its slot (R320): the key's record is durable with an equal or later NEXT_BLOCK, or the key is
gone and so is its record there. -/
def mirrorCovers (s : State) (w : MirrorEntry) (h : BitVec 64) (block : Nat) : Bool :=
  keySlot s h == w.slot && !hSession h &&
    (match w.nextBlock with
     | some (k, nb) => if k = h then decide (block < nb) else (s.record h).isNone
     | none => (s.record h).isNone)

/-- Journal entries that a durable mirror entry covers are dropped (R288, R320). -/
def State.dropJournal (s : State) (w : MirrorEntry) : State :=
  { s with cis := { s.cis with journal := s.cis.journal.filter (fun j => !mirrorCovers s w (BitVec.ofNat 64 j.1) j.2.1) } }

/-- MIRROR_ACK_READBACK (R320): the TAG is checked under the acknowledged SEQ; D and the entry's H go to MRAM. -/
def execMirrorAckReadback (entry : Bytes) (s : State) : Host.Outcome State Fault Refusal :=
  if !s.vlt.ackPending then .next s
  else
    let a := s.vlt.mirrorAck
    let s0 := { s with vlt := { s.vlt with ackPending := false } }
    match gcmOpen (mirrorKey s) (mirrorIv a) (slice entry 0 0x30) (slice entry 0x40 320) (slice entry 0x30 16) with
    | none => .next (s0.vltEvent 7)
    | some body =>
      let s1 := (s.vlt.written.filter (fun w => decide (w.seq ≤ a))).foldl State.dropJournal s0
      .next { s1 with vlt := { s1.vlt with durable := a, hDurable := field body 256 48, written := s1.vlt.written.filter (fun w => decide (a < w.seq)) } }

/-- MIRROR_CTRL_WRITE (R325). -/
def execMirrorCtrlWrite (f : FnId) (v : BitVec 32) (s : State) : Host.Outcome State Fault Refusal :=
  let en := bitAt v.toNat 0
  let lg := bitsAt v.toNat 1 5
  if !(isPf0 f && s.fnExists f) then .next s
  else if s.vlt.mirrorEn then .next { s with vlt := { s.vlt with mirrorEn := en } }
  else if en && !(decide (10 ≤ lg) && decide (lg ≤ 22)) then .next s
  else .next { s with vlt := { s.vlt with mirrorEn := en, mirrorLog2 := lg, mirrorPort := if en then f.port else s.vlt.mirrorPort } }

/-! ## Reload (R321, R322) -/

/-- The reload fails: every slot of every partition's persistent range is cleared. -/
def State.failReload (s : State) (cause : Nat) : State :=
  let gone := s.cis.records.filter (fun p => !p.2.session)
  let s1 := gone.foldl (fun a p => (a.dropCopies p.2.handle).storeSlots p.1 (List.replicate p.2.slots [])) s
  ({ s1 with
    cis := { s1.cis with records := s1.cis.records.filter (fun p => p.2.session), use := s1.cis.use.filter (fun p => !s.inPartRange p.1) }
    vlt := { s1.vlt with rlState := 3, rlCause := cause } }).vltEvent 5

/-- Two or more dies are lost (cause 6). -/
def diesGone (s : State) : Bool := diesLost s 2

/-- The partition whose persistent range holds a slot. -/
def slotOwner (s : State) (slot : Nat) : Option Partition :=
  match s.lay.active with
  | none => none
  | some l => l.partitions.find? (fun x => decide (x.keyBase ≤ slot) && decide (slot < x.keyBase + x.keySlots))

/-- The plain header of an entry passes the FORMAT check: MAGIC, the reserved fields, SLOT, and PARTITION against the Layout. -/
def entryFormatOk (s : State) (e : Bytes) : Bool :=
  let slot := field e 0x10 4
  field e 0 2 == 0x4D56 && decide (field e 2 2 < 2) && field e 5 1 == 0 && field e 0x14 4 == 0 && allZero (slice e 0x20 16)
    && decide (slot < s.keySlots)
    && (if bitAt (field e 2 2) 0 then (match slotOwner s slot with | some x => field e 4 1 == x.part | none => false) else field e 4 1 == 0)

/-- The record of a slot's 256 bytes and of the extension slots after it, none where the bytes are no record of that slot (R272). -/
def parseRecord (s : State) (slot use : Nat) (b : Bytes) (ext : List Bytes) : Option Record :=
  match slotOwner s slot with
  | none => none
  | some x =>
    let h := BitVec.ofNat 64 (field b 0x08 8)
    if field b 0 2 = 1 && field b 5 1 = 0 && h = makeHandle false x.part use (slot - x.keyBase) then
      let n := field b 0x50 2
      let alg := field b 2 1
      let pub := bitAt (field b 0x1D 1) 0
      let head : Record := { alg := alg, cls := field b 3 1, state := field b 4 1, part := x.part, ext := field b 7 1, handle := h
                             usage := BitVec.ofNat 64 (field b 0x10 8), nonceField := BitVec.ofNat 32 (field b 0x18 4), publicOnly := pub
                             created := field b 0x20 8, stateTime := field b 0x28 8, nextBlock := field b 0x30 8, writeCount := field b 0x38 4
                             bdkId := BitVec.ofNat 32 (field b 0x3C 4), label := slice b 0x40 16, kcv := slice b 0x52 3 }
      let ct := ((slice b 0x58 88) ++ ext.flatten).take n
      let mat := (gcmOpen (wrapKey s head) (wrapIv head) (recordHead head 0 0 0 0 n) ct (slice b 0xB0 16)).getD []
      some { head with comps := splitComps ((compTable alg n).filter (fun c => !(pub && c.2.2))) mat }
    else none

/-- Read the records out of the presented slots in slot order: a live slot that no earlier record covers begins one; none where one
disagrees with its slot. -/
def rebuild (s : State) : Nat → Tab (Nat × Bool × Bytes) → Option (Tab Record)
  | _, [] => some []
  | next, (slot, use, live, b) :: r =>
    if !live || slot < next then rebuild s next r
    else
      let n := field b 7 1
      let ext := (List.range n).map (fun i => (tabGet s.vlt.rlSlots (slot + 1 + i) (0, false, [])).2.2)
      match parseRecord s slot use b ext, rebuild s (slot + 1 + n) r with
      | some k, some t => some ((slot, k) :: t)
      | _, _ => none

/-- A key's next block after a boot (R289); past the last one the key is RETIRED. -/
def State.restoreCounter (s : State) (slot : Nat) (r : Record) : State :=
  let nb := match s.journalled r.handle with | some b => max r.nextBlock (b + 1) | none => r.nextBlock
  let spent := decide (2 ^ 48 ≤ nb) && decide (r.state < 3)
  let s1 := s.putRecord slot { r with nextBlock := nb, state := if spent then 3 else r.state }
  if spent then s1.cisEvent 0 else s1

/-- The reload succeeds: the records and USE values are those presented; a device in BOOTING serves (R321, R322, R481). -/
def State.finishReload (s : State) (recs : Tab Record) : State :=
  let s1 := { s with
    cis := { s.cis with records := s.cis.records.filter (fun p => p.2.session)
                        use := s.vlt.rlSlots.foldl (fun (u : Tab Nat) (p : Nat × Nat × Bool × Bytes) => tabSet u p.1 p.2.1) (s.cis.use.filter (fun p => !s.inPartRange p.1)) }
    vlt := { s.vlt with reload := false, loaded := true, rlState := 2, rlCause := 0, h := s.vlt.hDurable
                        pOf := s.vlt.rlSlots.map (fun (p : Nat × Nat × Bool × Bytes) => (p.1, slotValue s p.1 p.2.1 p.2.2.1 p.2.2.2)) } }
  let s2 := (recs.foldl (fun (a : State) (p : Nat × Record) => a.restoreCounter p.1 p.2) s1).vltEvent 4
  if s2.fnt.op == .booting && 13 ≤ s2.pwr.bootStep then s2.setOp .serving else s2

/-- With END set and every entry consumed, the sum decides (cause 5), then the records (cause 1). -/
def State.checkReload (s : State) : State :=
  if !(s.vlt.reload && s.vlt.unlocked && s.vlt.endSet && s.vlt.rlHead == s.vlt.tail) || s.vlt.rlState = 3 then s
  else if diesGone s then s.failReload 6
  else if s.vlt.rlSum ≠ s.vlt.hDurable then s.failReload 5
  else match rebuild s 0 s.vlt.rlSlots with
    | some t => s.finishReload t
    | none => s.failReload 1

/-- A write of TAIL, END or RESTART is by a PF0, while RELOAD is set. -/
def reloadOpen (s : State) (f : FnId) : Bool := isPf0 f && s.fnExists f && s.vlt.reload

/-- RELOAD_TAIL (R321): discarded after a failure. -/
def execReloadTail (f : FnId) (v : BitVec 32) (s : State) : Host.Outcome State Fault Refusal :=
  if reloadOpen s f && s.vlt.rlState ≠ 3 then
    .next ({ s with vlt := { s.vlt with tail := v.toNat, rlState := 1 } }).checkReload
  else .next s

/-- One entry's cause of failure, or its slot state (R321). -/
def checkEntry (s : State) (e : Bytes) : Nat ⊕ (Nat × Nat × Bool × Bytes) :=
  let slot := field e 0x10 4
  if diesGone s then .inl 6
  else if !entryFormatOk s e then .inl 1
  else
    match gcmOpen (mirrorKey s) (mirrorIv (field e 8 8)) (slice e 0 0x30) (slice e 0x40 320) (slice e 0x30 16) with
    | none => .inl 2
    | some body =>
      if s.vlt.durable < field e 8 8 then .inl 3
      else if tabHas s.vlt.rlSlots slot then .inl 4
      else .inr (slot, field e 6 2, bitAt (field e 2 2) 0, padTo 256 (slice body 0 256))

/-- RELOAD_ENTRY (R321): the next entry below TAIL is consumed, checked and kept, and both copies of its slot take it. -/
def execReloadEntry (entry : Bytes) (s : State) : Host.Outcome State Fault Refusal :=
  if !(s.vlt.reload && s.vlt.unlocked && s.vlt.rlState == 1 && decide (s.vlt.rlHead < s.vlt.tail)) then .next s
  else
    match checkEntry s entry with
    | .inl cause => .next (({ s with vlt := { s.vlt with rlHead := s.vlt.rlHead + 1 } }).failReload cause)
    | .inr x =>
      .next (({ s with vlt := { s.vlt with
        rlHead := s.vlt.rlHead + 1, rlSlots := tabSet s.vlt.rlSlots x.1 x.2
        rlSum := (s.vlt.rlSum + slotValue s x.1 x.2.1 x.2.2.1 x.2.2.2) % 2 ^ 384 } }).storeSlots x.1 [x.2.2.2]).checkReload

/-- RELOAD_END (R321): discarded after a failure. -/
def execReloadEnd (f : FnId) (s : State) : Host.Outcome State Fault Refusal :=
  if reloadOpen s f && s.vlt.rlState ≠ 3 then
    .next ({ s with vlt := { s.vlt with endSet := true, rlState := 1 } }).checkReload
  else .next s

/-- RELOAD_RESTART (R321): a new reload from HEAD 0; with two dies lost it fails at once. -/
def execReloadRestart (f : FnId) (s : State) : Host.Outcome State Fault Refusal :=
  if !reloadOpen s f then .next s
  else
    let s1 := { s with vlt := { s.vlt with rlState := 1, rlCause := 0, rlHead := 0, tail := 0, endSet := false, rlSlots := [], rlSum := 0 } }
    .next (if diesGone s then s1.failReload 6 else s1)

end Sys2Proof.Machine
end

