-- ==== Sys2Proof/Machine/Weir.lean ====
section
/-! DEFINITION. What Weir's permitted accesses reach, its tag keys (R415), and the debug access port (R413). -/

namespace Sys2Proof.Machine

/-! ## Contents of a permitted access -/

/-- A register's value at an offset of a region: (offset, bytes, value). -/
abbrev RegVal := Nat × Nat × Nat

/-- The bytes of n from an offset, of the registers that lie there; gaps read 0. -/
def regBytes (rs : List RegVal) (off n : Nat) : Bytes :=
  (List.range n).map (fun i =>
    match rs.find? (fun r => decide (r.1 ≤ off + i) && decide (off + i < r.1 + r.2.1)) with
    | some r => BitVec.ofNat 8 (r.2.2 / 2 ^ (8 * (off + i - r.1)))
    | none => 0)

/-- JET_STATUS_n (10). -/
def Lane.bits (x : Lane) : Nat := bitNat x.busy + x.alg % 256 * 2 + x.mode % 16 * 2 ^ 9 + x.entry % 2 ^ 14 * 2 ^ 13 + bitNat x.cascade * 2 ^ 27

/-- CAS_STATUS (11). -/
def Cascade.status (x : Cascade) : Nat :=
  (if x.running.isSome then 2 else if x.wiping then 3 else if x.owner.isSome then 1 else 0) + x.queue.length % 32 * 4 + bitNat x.seqOpen * 2 ^ 7
    + x.error % 16 * 2 ^ 8 + x.owner.getD 0 % 2 ^ 14 * 2 ^ 12

/-- CAS_RESULT (11). -/
def Cascade.result (x : Cascade) : Nat :=
  bitNat x.checkPass + bitNat x.normGe * 2 + bitNat x.short * 4 + bitNat x.failed * 8 + x.passed % 256 * 16 + x.blocks % 128 * 2 ^ 12

/-- WEI_KSEL (17). -/
def KPair.kselBits (k : KPair) : Nat := (k.kselNext.getD k.ksel) % 4 + bitNat k.kselNext.isSome * 4

/-- The JET_ and CAS_ registers of a basin control region as they read (10, 11); CAS_WINDOW_DATA apart. -/
def basinRegs (s : State) (b : Nat) : List RegVal :=
  let x := s.basin b
  let st := x.jobState % 4 + x.jobError % 16 * 16 + x.jobLanes.toNat * 256
  [(0x4000, 32, 0), (0x4020, 4, st), (0x4024, 4, x.jetEvent.flags.toNat), (0x4028, 4, x.jetEvent.counts.toNat % 2 ^ 24), (0x4030, 16, x.jobNonce.toNat)]
    ++ (List.range 10).map (fun n => (0x4040 + 8 * n, 4, (tabGet x.lanes n {}).bits))
    ++ (List.range 10).map (fun n => (0x4090 + 8 * n, 8, (tabGet x.lanes n {}).blocks))
    ++ [(0x5000, 16, 0), (0x5010, 4, x.cas.status), (0x5014, 4, x.cas.result), (0x5018, 4, x.cas.event.flags.toNat)
        , (0x501C, 4, x.cas.event.counts.toNat % 2 ^ 32), (0x5020, 4, x.cas.winAddr), (0x5040, 8, x.cas.cycles)]

/-- A read reaches CAS_WINDOW_DATA (R258, R268). -/
def State.readWindow (s : State) (b : Nat) : Nat × State :=
  let x := (s.basin b).cas
  if casBusy x then (0, s.casError b 9)
  else if (x.slot x.winAddr).t then (0, s.mapCas b (fun y => { y with event := y.event.set 2 }))
  else ((x.slot x.winAddr).data.toNat, s)

/-- The WEI_K registers of a pair (17). -/
def weirRegs (k : KPair) : List RegVal := [(0x6000, 4, k.kselBits), (0x6010, 16, k.kfault.toNat)]

/-- The default code and stack descriptors of ring 0: the window up to the Refuge stack, RD and EX or RD and WR, VALID (19). -/
def windowDesc (p : Nat) (code : Bool) : Nat :=
  (if p = 8 then 0x21000000 else localBase p + 0x200000) + 0xFEEFF * 2 ^ 64 + 2 ^ 96 + (if code then 2 ^ 98 else 2 ^ 97) + 2 ^ 101

/-- BSN_INT_RSEG_r (R441). -/
def rsegOf (k : KPair) (p r : Nat) : BitVec 256 :=
  match tabFind k.rseg r with
  | some v => v
  | none => if r = 0 then BitVec.ofNat 256 (windowDesc p true + windowDesc p false * 2 ^ 128) else 0

/-- The interrupt-controller registers of a pair (19), at their offsets. -/
def intRegs (k : KPair) (p : Nat) : List RegVal :=
  (List.range 4).map (fun r => (0x20 * r, 32, (rsegOf k p r).toNat))
    ++ [(0x80, 8, k.gate.toNat), (0x88, 4, k.refugeDepth % 16 + k.lastVector % 64 * 16 + bitNat k.waiting * 2 ^ 10), (0x90, 4, k.wdogPeriod)]
    ++ (List.range 4).map (fun i => (0xA0 + 8 * i, 8, leNat ((List.range 8).map (fun j => BitVec.ofNat 8 (tabGet k.intCount (8 * i + j) 0)))))
    ++ (List.range 8).map (fun i => (0xC0 + 8 * i, 8, leNat ((List.range 8).map (fun j => BitVec.ofNat 8 (tabGet k.lfireCount (8 * i + j) 0)))))
    ++ (List.range 2).map (fun i => let t := tabGet k.timers i (0, false); (0x100 + 8 * i, 8, t.1 + bitNat t.2 * 2 ^ 48))

/-- Where an address lies among the registers that chapters 10, 11, 17 and 19 place in peripheral space: the pair and the offset
in its control region, or in its interrupt controller (true). -/
def regPlace (a : Nat) : Option (Bool × Nat × Nat) :=
  let k := a / 0x10000
  let off := a % 0x10000
  if k < 8 && (decide (0x4000 ≤ off) && decide (off < 0x40E0) || decide (0x5000 ≤ off) && decide (off < 0x6020)) then some (false, k, off)
  else if 8 ≤ k && k < 16 && off < 0x110 then some (true, k - 8, off)
  else if k = 34 && 0x6000 ≤ off && off < 0x6020 then some (false, 8, off)
  else if k = 34 && 0x7000 ≤ off && off < 0x7110 then some (true, 8, off - 0x7000)
  else none

/-- The memories whose bytes the state holds in the clear: basin SRAM, staging, Fountainhead SRAM. -/
def isMemory (a : Nat) : Bool := match targetOf a with | some t => t == 1 || t == 2 || t == 3 | none => false

/-- The vault's data space. -/
def isVault (a : Nat) : Bool := targetOf a == some 8

/-- A line of the work region fails its check in a fabric access (R310): it is counted, LINE_LOST sets, and the lines return to never written. -/
def State.workLineFailed (s : State) (d off n : Nat) : State :=
  ((s.noteMac d).lineLost d).vaultWrite d (off / 64 * 64) (List.replicate (64 * (linesOf off n).length) 0)

/-- A fabric read of the vault (R306 to R308); of a die that does not answer, or of a line that fails its check, the bytes are open (log entry
144). -/
def State.vaultLoad (s : State) (a n : Nat) : Bytes × State :=
  let p := vaultPlace a
  if !s.dieServed p.1 then s.freeBytes n
  else
    match s.vaultRead p.1 p.2 n with
    | some bs => (bs, s.cachePaths p.1 p.2 n)
    | none => let r := s.freeBytes n; (r.1, r.2.workLineFailed p.1 p.2 n)

/-- A fabric write to the vault; a die that does not answer takes none. -/
def State.vaultStore (s : State) (a : Nat) (bs : Bytes) : State :=
  let p := vaultPlace a
  if s.dieServed p.1 then s.vaultWrite p.1 p.2 bs else s

/-- The companion MRAM and the passport FRAM, where fabric stores leave bytes in `nvm`. -/
def isNvm (a : Nat) : Bool := match targetOf a with | some t => t == 4 || t == 5 | none => false

/-- Bytes at an address, each replaced by what a store left there. -/
def nvmOver : Tab Byte → Nat → Bytes → Bytes
  | _, _, [] => []
  | m, a, b :: r => tabGet m a b :: nvmOver m (a + 1) r

/-- Leave bytes at an address. -/
def nvmWriteN : Tab Byte → Nat → Bytes → Tab Byte
  | m, _, [] => m
  | m, a, b :: r => nvmWriteN (tabSet m a b) (a + 1) r

/-- Read n bytes of a permitted access at a ring by a pair (9 for the debug access port); none where the spec places nothing that the
state holds. -/
def State.fabricRead (s : State) (init ring a n : Nat) : Option (Bytes × State) :=
  if isMemory a then some (memReadN s.mem a n, s)
  else if isVault a then some (s.vaultLoad a n)
  else if isNvm a then let r := s.freeBytes n; some (nvmOver s.nvm a r.1, r.2)
  else
    match (if a < 0x800000 then regPlace a else none) with
    | none => none
    | some (true, p, off) => some (if init = p && ring = 0 then regBytes (intRegs (s.pair p) p) off n else List.replicate n 0, s)
    | some (false, p, off) =>
      if off < 0x6000 then
        let hit := decide (off < 0x5040) && decide (0x5030 < off + n)
        let w := if hit then s.readWindow p else (0, s)
        some (regBytes ((0x5030, 16, w.1) :: basinRegs s p) off n, w.2)
      else some (if init = p then regBytes (weirRegs (s.pair p)) off n else List.replicate n 0, s)

/-! ## Tagged requests (R414) -/

/-- A fabric request of a pair (9 for the debug access port) to the unit at an address; a basin pair's carries the entry and the instance that its
firmware serves. -/
def State.request (s : State) (init kind : Nat) (set : Bool) (a n : Nat) (data : Bytes) (e : Option Nat) : Transfer :=
  { initiator := init, kind := kind, len := n, set := set, epoch := s.lay.epoch, addr := a
    reqGen := s.genOf init, respGen := s.genOf (unitAt a), seq := s.slu.launchSeq
    entry := e.getD 0, inst := match e.bind s.cmd with | some c => c.inst.toNat | none => 0, data := data }

/-! ## Tag keys (R415) -/

/-- A new key is due, but not while the fatal entropy alarm holds (R473): at the first broadcast instant at least 1 µs after DRBG 8 is seeded, then at each multiple of 2^30 ns. -/
def rekeyDue (s : State) : Bool :=
  if s.spg.fatal then false
  else if s.wei.tagKey then decide (s.wei.rekeyMark < s.now / 2 ^ 30)
  else match s.wei.seededAt with | some t => decide (ceilDiv (t + 1000) 64 * 64 ≤ s.now) | none => false

/-- WEIR_REKEY: a new (H, S) from the Fountainhead DRBG; the previous one is accepted for 4 µs more. -/
def execWeirRekey (s : State) : Host.Outcome State Fault Refusal :=
  if !rekeyDue s then .next s
  else
    match s.draw 8 16 with
    | none => .next s
    | some r =>
      .next (({ r.2 with wei := { r.2.wei with
        key := r.1, prevKey := some (s.wei.key, s.now + 4000), keyIndex := !s.wei.keyIndex, tagKey := true, rekeyMark := s.now / 2 ^ 30 } }).weiEvent 6)

/-- TAG_KEY_RETIRE: receivers zeroise the previous key. -/
def execTagKeyRetire (s : State) : Host.Outcome State Fault Refusal :=
  match s.wei.prevKey with
  | none => .next s
  | some (_, t) => if t ≤ s.now then .next { s with wei := { s.wei with prevKey := none } } else .next s

/-! ## The selector (R410) -/

/-- The ring of a pair. -/
def KPair.ring (k : KPair) : Nat := bitsAt k.st.toNat 6 2

/-- A write of WEI_KSEL by a pair: at ring 0, not 3; it waits for the context switch. -/
def State.writeKsel (s : State) (p v : Nat) : State :=
  let k := s.pair p
  if k.ring ≠ 0 || v % 4 = 3 then s else s.setPair p { k with kselNext := some (v % 4) }

/-- WEI_KSEL_WRITE (R410). -/
def execWeiKselWrite (pair : Nat) (v : BitVec 32) (s : State) : Host.Outcome State Fault Refusal :=
  if pair ≤ 8 then .next (s.writeKsel pair v.toNat) else .next s

/-! ## The debug access port (R412, R413) -/

/-- DEBUG_ACCESS: checked at once against the certificate's rights; a denial is counted, recorded and reported to Grotto. -/
def execDebugAccess (addr : BitVec 40) (write : Bool) (lenM1 : Nat) (data : Bytes) (s : State) : Host.Outcome State Fault Refusal :=
  if s.wei.debugAcc.isSome then .next s
  else
    let c := weirCheck s 9 0 s.wei.live addr.toNat (lenM1 + 1) write
    let req := s.sendTagged (s.request 9 (bitNat write) s.wei.live addr.toNat (lenM1 + 1) (if write then padTo (lenM1 + 1) data else []) none)
    let acc : DebugAcc := {
      tag := req.2, addr := addr, write := write, lenM1 := lenM1, data := data, due := s.now + 4096, denied := c.isSome, set := s.wei.live
      epoch := s.lay.epoch, unit := unitAt addr.toNat, respGen := s.genOf (unitAt addr.toNat) }
    let s1 := { s with wei := { s.wei with debugAcc := some acc } }
    match c with
    | none => .next s1
    | some (cause, off) =>
      .next (((s1.recordDeny (denyBits s 9 0 s.wei.live addr.toNat (lenM1 + 1) write cause off)).weiEvent 3).assertSource 15)

end Sys2Proof.Machine
end

