-- ==== Sys2Proof/Machine/KeeperOps.lean ====
section
/-! DEFINITION. The shared operations of the keeper core (18, 19): registers and flags, segments and addresses, exceptions and
frames, accesses over both paths, the bit space, issue. -/

namespace Sys2Proof.Machine

/-! ## Registers and flags (R417, R418) -/

/-- Bits [hi:lo] of a word. -/
def low32 (v : BitVec 128) : Nat := v.toNat % 2 ^ 32

/-- SP_r. -/
def KPair.spOf (k : KPair) (r : Nat) : Nat := (tabGet k.sp r 0).toNat

/-- SP_r is written. -/
def KPair.putSp (k : KPair) (r v : Nat) : KPair := { k with sp := tabSet k.sp r (BitVec.ofNat 32 v) }

/-- W_i; W15 views SP of the current ring. -/
def KPair.reg (k : KPair) (i : Nat) : BitVec 128 := if i = 15 then BitVec.ofNat 128 (k.spOf k.ring) else tabGet k.w i 0

/-- W_i is written. -/
def KPair.putReg (k : KPair) (i : Nat) (v : BitVec 128) : KPair :=
  if i = 15 then k.putSp k.ring (low32 v) else { k with w := tabSet k.w i v }

/-- ST with bit i as given. -/
def putBit (st : BitVec 32) (i : Nat) (v : Bool) : BitVec 32 :=
  if v then st ||| BitVec.ofNat 32 (2 ^ i) else st &&& ~~~ BitVec.ofNat 32 (2 ^ i)

/-- C, Z, N and V are set. -/
def KPair.flags (k : KPair) (c z n v : Bool) : KPair := { k with st := putBit (putBit (putBit (putBit k.st 0 c) 1 z) 2 n) 3 v }

def KPair.c (k : KPair) : Bool := k.st.getLsbD 0
def KPair.z (k : KPair) : Bool := k.st.getLsbD 1
def KPair.n (k : KPair) : Bool := k.st.getLsbD 2
def KPair.v (k : KPair) : Bool := k.st.getLsbD 3
def KPair.bf (k : KPair) : Bool := k.st.getLsbD 4
def KPair.ie (k : KPair) : Bool := k.st.getLsbD 5

/-- PC moves past an instruction of `size` bytes. -/
def KPair.past (k : KPair) (size : Nat) : KPair := { k with pc := k.pc + BitVec.ofNat 32 size }

/-- A signed field of w bits as an offset modulo 2^32. -/
def signedOff (w v scale : Nat) : Nat := bitsOfInt 32 (signedOf w v * (scale : Int))

/-! ## Segments (R419, R420) -/

def KPair.seg (k : KPair) (i : Nat) : Nat := (tabGet k.sg i 0).toNat

/-- Cause of a failed check of a descriptor, 0 when it passes: `right` 0 RD, 1 WR, 2 EX (FLT.CAUSE). -/
def segCause (d right ring off size align : Nat) : Nat :=
  if !bitAt d 101 then 4
  else if !bitAt d (96 + right) then 2
  else if bitsAt d 99 2 < ring then 3
  else if off % align ≠ 0 then 5
  else if bitsAt d 64 32 < off + size - 1 then 1
  else 0

/-- The linear address of an offset (R421). -/
def linear (d off : Nat) : Nat := (bitsAt d 0 40 + off) % 2 ^ 40

/-- The window base of a pair (R422). -/
def windowBase (p : Nat) : Nat := if p = 8 then 0x21000000 else localBase p + 0x200000

/-- An address lies in the pair's core-local window. -/
def inWindow (p a : Nat) : Bool := decide (windowBase p ≤ a) && decide (a < windowBase p + 0x100000)

/-- An access touches the Refuge stack or bit RAM, which rings 1 to 3 may not (R422). -/
def inReserved (p a n : Nat) : Bool := inWindow p a && decide (windowBase p + 0xFEF00 < a + n)

/-- The 64 bits of FLT. -/
def fltBits (off seg cause : Nat) (write : Bool) : BitVec 64 :=
  BitVec.ofNat 64 (off % 2 ^ 32 + seg % 8 * 2 ^ 32 + cause % 16 * 2 ^ 35 + bitNat write * 2 ^ 39)

/-! ## Writes over the fabric -/

/-- Replace bytes of a value of w bytes by those of a store that lie on it. -/
def patch (old w at_ off : Nat) (bs : Bytes) : Nat :=
  leNat ((List.range w).map (fun i =>
    if off ≤ at_ + i && at_ + i < off + bs.length then bs.getD (at_ + i - off) 0 else BitVec.ofNat 8 (old / 2 ^ (8 * i))))

/-- A store covers a register of w bytes whole. -/
def covers (at_ w off n : Nat) : Bool := decide (off ≤ at_) && decide (at_ + w ≤ off + n)

/-- A timer whose instant has come fires: ARMED clears and its pending bit sets (19). AT holds 48 bits of the instant, so an instant is
past while it lies within the last 2^47 ns (log entry 46). -/
def State.timerDue (s : State) (p i : Nat) : State :=
  let k := s.pair p
  let t := tabGet k.timers i (0, false)
  if t.2 && decide ((s.now + 2 ^ 48 - t.1) % 2 ^ 48 < 2 ^ 47) then
    (s.setPair p { k with timers := tabSet k.timers i (t.1, false) }).irq p (5 + i)
  else s

/-- The watchdog's period starts anew. -/
def KPair.kick (k : KPair) (now : Nat) : KPair := { k with wdogKick := now, wdogExpired := false, wdogSpent := false }

/-- Reserved bits of a descriptor of R419. -/
def descMask : Nat := 2 ^ 40 - 1 + (2 ^ 38 - 1) * 2 ^ 64

/-- A ring-0 store to the pair's own interrupt controller (19). -/
def State.writeInt (s : State) (p off : Nat) (bs : Bytes) : State :=
  let k := s.pair p
  let n := bs.length
  let touch (at_ w : Nat) : Bool := decide (at_ < off + n) && decide (off < at_ + w)
  let rseg := (List.range 4).foldl (fun (t : Tab (BitVec 256)) r =>
    if touch (0x20 * r) 32 then
      let v := patch (rsegOf k p r).toNat 32 (0x20 * r) off bs
      tabSet t r (BitVec.ofNat 256 ((v % 2 ^ 128 &&& descMask) + (v / 2 ^ 128 &&& descMask) * 2 ^ 128))
    else t) k.rseg
  let gate := if touch 0x80 8 then BitVec.ofNat 64 (patch k.gate.toNat 8 0x80 off bs % 2 ^ 45) else k.gate
  let wd := if touch 0x90 4 then patch k.wdogPeriod 4 0x90 off bs else k.wdogPeriod
  let k1 : KPair := { k with rseg := rseg, gate := gate, wdogPeriod := wd % 2 ^ 24 }
  let k2 := if touch 0x90 4 && bitAt wd 31 then k1.kick s.now else k1
  (List.range 2).foldl (fun (a : State) i =>
    if touch (0x100 + 8 * i) 8 then
      let t := tabGet (a.pair p).timers i (0, false)
      let v := patch (t.1 + bitNat t.2 * 2 ^ 48) 8 (0x100 + 8 * i) off bs
      (a.setPair p { a.pair p with timers := tabSet (a.pair p).timers i (v % 2 ^ 48, bitAt v 48) }).timerDue p i
    else a) (s.setPair p k2)

/-- The operands of a CAS_CMD word (11). -/
def casWord (v : Nat) : CasOps :=
  { nw := bitsAt v 8 5, ctx := bitsAt v 13 3, d := bitsAt v 16 12, a := bitsAt v 28 12, b := bitsAt v 40 12, c := bitsAt v 52 12
    l := bitsAt v 64 13, mode := bitsAt v 80 8, entry := bitsAt v 88 14 }

/-- A store to a basin control region's JET_ and CAS_ registers: each register it covers whole is written (10, 11, log entry 46). -/
def State.writeBasinRegs (s : State) (b off : Nat) (bs : Bytes) : State :=
  let n := bs.length
  let v (at_ w : Nat) : Nat := leNat (slice bs (at_ - off) w)
  let s1 := if covers 0x4000 16 off n then s.setBasin b { s.basin b with jobLow := BitVec.ofNat 128 (v 0x4000 16) } else s
  let s2 := if covers 0x4010 16 off n then s1.startJob b (BitVec.ofNat 256 ((s1.basin b).jobLow.toNat + v 0x4010 16 * 2 ^ 128)) else s1
  let s3 := if covers 0x4024 4 off n then s2.setBasin b { s2.basin b with jetEvent := (s2.basin b).jetEvent.clear (BitVec.ofNat 8 (v 0x4024 4)) 0 } else s2
  let s4 := if covers 0x5000 16 off n then s3.casIssue b (bitsAt (v 0x5000 16) 0 8) (casWord (v 0x5000 16)) else s3
  let s5 := if covers 0x5018 4 off n then s4.mapCas b (fun y => { y with event := y.event.clear (BitVec.ofNat 8 (v 0x5018 4)) 0 }) else s4
  let s6 := if covers 0x5020 4 off n then s5.mapCas b (fun y => { y with winAddr := v 0x5020 4 % 4096 }) else s5
  if covers 0x5030 16 off n then
    (if casBusy (s6.basin b).cas then s6.casError b 9 else s6.casPut b (s6.basin b).cas.winAddr [BitVec.ofNat 128 (v 0x5030 16)] false)
  else s6

/-- The effect of a permitted store of a pair (9 for the debug access port) at a ring. The boot ROM keeps its contents, and a store to an offset of
peripheral space at which the spec places no register changes nothing (R100, log entry 44). -/
def State.fabricWrite (s : State) (p ring a : Nat) (bs : Bytes) : State :=
  if isMemory a then { s with mem := memWriteN s.mem a bs }
  else if isVault a then s.vaultStore a bs
  else if isNvm a then { s with nvm := nvmWriteN s.nvm a bs }
  else
    match (if a < 0x800000 then regPlace a else none) with
    | none => s
    | some (true, q, off) => if p = q && ring = 0 then s.writeInt q off bs else s
    | some (false, q, off) =>
      if off < 0x6000 then s.writeBasinRegs q off bs
      else if q = p && covers 0x6000 4 off bs.length then s.writeKsel q (leNat (slice bs (0x6000 - off) 4)) else s

/-! ## Frames and exceptions (R441, R445 to R449) -/

/-- A frame's 32 bytes. -/
def frameBytes (pc st sp vec : Nat) (kind refuge : Bool) (rc detail : Nat) : Bytes :=
  natLe 4 pc ++ natLe 4 st ++ natLe 4 sp ++ natLe 4 (vec % 64 + bitNat kind * 64 + bitNat refuge * 128) ++ natLe 4 rc ++ natLe 4 detail
    ++ List.replicate 8 0

/-- CS of ring r. -/
def ringCode (k : KPair) (p r : Nat) : BitVec 128 := (rsegOf k p r).setWidth 128

/-- SS of ring r. -/
def ringStack (k : KPair) (p r : Nat) : BitVec 128 := ((rsegOf k p r) >>> 128).setWidth 128

/-- The fixed descriptor of the Refuge stack (R448). -/
def refugeDesc (p : Nat) : BitVec 128 := BitVec.ofNat 128 (windowBase p + 0xFEF00 + 0xFF * 2 ^ 64 + 2 ^ 96 + 2 ^ 97 + 2 ^ 101)

/-- Cause of a failed 32-byte push or pop of a frame at an offset, 0 when it passes: the check of R420, and, as the accesses of R421 are, Weir's for a
frame outside the core-local window; a frame that Weir denies fails as one past its segment's LIMIT (log entry 45). -/
def State.frameCause (s : State) (p d right ring off : Nat) : Nat :=
  let c := segCause d right ring off 32 32
  if c ≠ 0 then c
  else if !inWindow p (linear d off) then (if (weirCheck s p ring (pairSet s p) (linear d off) 32 (right == 1)).isSome then 1 else 0)
  else if 0 < ring && inReserved p (linear d off) 32 then 7
  else 0

/-- Write a frame in the step that pushes it. -/
def State.putFrame (s : State) (p ring a : Nat) (frame : Bytes) : State :=
  if inWindow p a then { s with mem := memWriteN s.mem a frame } else s.fabricWrite p ring a frame

/-- Read a frame in the step that pops it. -/
def State.getFrame (s : State) (p ring a : Nat) : Bytes × State :=
  if inWindow p a then (memReadN s.mem a 32, s)
  else match s.fabricRead p ring a 32 with | some r => r | none => s.freeBytes 32

/-- Entry to a vector: segment registers, stack pointer, status and pc change as one step with the frame (R447). -/
def State.vectorAt (s : State) (p vec : Nat) (stack : BitVec 128) (sp depth : Nat) (frame : Bytes) : State :=
  let k := s.pair p
  let k1 : KPair := { k.putSp 0 sp with
    sg := tabSet (tabSet k.sg 0 (ringCode k p 0)) 2 stack
    st := k.st &&& ~~~ 0xE0#32
    pc := BitVec.ofNat 32 (0x20 * vec)
    lastVector := vec, refugeDepth := depth, load := none, fencing := false, waiting := false }
  (s.setPair p k1).putFrame p 0 (linear stack.toNat sp) frame

/-- The entry that a basin pair's firmware serves: that of the keeper job it runs, else that of its Cascade's sequence (log entry 141). -/
def State.servedBy (s : State) (p : Nat) : Option Nat :=
  if (s.basin p).jobState = 1 then some (bitsAt (s.basin p).job.toNat 192 14) else (s.basin p).cas.owner

/-- A frame push that failed (R448): vector 2 on the empty Refuge stack, with the vector whose push it was in DETAIL, 0 for a gate. -/
def State.failedPush (s : State) (p pc vec : Nat) : State :=
  let k := s.pair p
  s.vectorAt p 2 (refugeDesc p) 0xE0 1 (frameBytes pc k.st.toNat (k.spOf 0) 2 true true k.rc.toNat vec)

/-- TAKING AN EXCEPTION with a saved pc (R447 to R449): onto ring 0's stack, or the Refuge stack when that push fails. -/
def State.takeAt (s : State) (p vec pc detail : Nat) : State :=
  let k := s.pair p
  let sp := k.spOf 0
  let st := k.st.toNat
  let rc := k.rc.toNat
  let down := (sp + 2 ^ 32 - 32) % 2 ^ 32
  if 0 < k.refugeDepth then
    if 8 ≤ k.refugeDepth then s.refugeHalt p (s.servedBy p)
    else s.vectorAt p vec (refugeDesc p) down (k.refugeDepth + 1) (frameBytes pc st sp vec true true rc detail)
  else if s.frameCause p (ringStack k p 0).toNat 1 0 down = 0 then
    s.vectorAt p vec (ringStack k p 0) down 0 (frameBytes pc st sp vec true false rc detail)
  else s.failedPush p pc vec

/-- A synchronous exception of the instruction at PC. -/
def State.take (s : State) (p vec detail : Nat) : State := s.takeAt p vec (s.pair p).pc.toNat detail

/-- A failed segment check writes FLT and takes its vector: 3, or 2 for the stack (R420). -/
def State.segFault (s : State) (p seg off cause : Nat) (write : Bool) (vec : Nat) : State :=
  (s.setPair p { s.pair p with flt := fltBits off seg cause write }).take p vec 0

/-- An encoding of R430. -/
def State.undefinedAt (s : State) (p : Nat) : State := s.take p 5 0

/-- A denied fabric access of a pair (R404). -/
def State.keeperDenied (s : State) (p a n : Nat) (write : Bool) (cause off : Nat) : State :=
  let d := denyBits s p (s.pair p).ring (pairSet s p) a n write cause off
  (((s.setPair p { s.pair p with kfault := d }).recordDeny d).weiEvent 2).take p 4 0

/-! ## Accesses (R421, R453) -/

/-- Where a checked access goes. -/
inductive Access where
  | window (a : Nat)
  | fabric (a : Nat)
  | seg (cause : Nat)
  | denied (a cause off : Nat)
  deriving DecidableEq, Repr

/-- An access of `size` bytes through a segment: its check, its path, Weir's check. -/
def accessOf (s : State) (p seg right off size : Nat) (align : Nat) : Access :=
  let k := s.pair p
  let c := segCause (k.seg seg) right k.ring off size align
  let a := linear (k.seg seg) off
  if c ≠ 0 then .seg c
  else if inWindow p a then (if 0 < k.ring && inReserved p a size then .seg 7 else .window a)
  else
    match weirCheck s p k.ring (pairSet s p) a size (right == 1) with
    | none => .fabric a
    | some (cause, o) => .denied a cause o

/-- A read's value reaches the pair: a register, a POP or a RET. -/
def KPair.arrive (k : KPair) (kind rd : Nat) (v : Nat) (next : BitVec 32) : KPair :=
  if kind = 0 then { k.putReg rd (BitVec.ofNat 128 v) with pc := next }
  else if kind = 1 then
    let k1 := k.putReg rd (BitVec.ofNat 128 v)
    { k1.putSp k1.ring ((k1.spOf k1.ring + 16) % 2 ^ 32) with pc := next }
  else { k.putSp k.ring ((k.spOf k.ring + 16) % 2 ^ 32) with pc := BitVec.ofNat 32 v }

/-- A load: at once in the window; over the fabric the pair waits for its data (R453). -/
def State.keeperLoad (s : State) (p kind seg right off size align rd isize vec : Nat) : State :=
  let k := s.pair p
  let next := k.pc + BitVec.ofNat 32 isize
  match accessOf s p seg right off size align with
  | .seg c => s.segFault p seg off c false vec
  | .denied a c o => s.keeperDenied p a size false c o
  | .window a => s.setPair p (k.arrive kind rd (leNat (memReadN s.mem a size)) next)
  | .fabric a =>
    let r := s.sendTagged (s.request p 0 (pairSet s p) a size [] (s.servedBy p))
    s.setPair p { k with load := some { kind := kind, rd := rd, addr := a, size := size, next := next, set := pairSet s p, epoch := s.lay.epoch, req := r.1, tag := r.2 } }

/-- A transfer between a pair and the unit at an address fails its tag (R416): discarded and recorded, a detected fault of each basin concerned, else
sent again; a load stays in flight. -/
def State.transferFailed (s : State) (p a : Nat) : State :=
  let u := unitAt a
  let t := s.tagFailure
  let t1 := if u < 8 then t.detected u 6 12 none else t
  if p < 8 then (if p = u then t1 else t1.detected p 6 12 (s.servedBy p)) else if u < 8 then t1 else t1.resend 8

/-- What a store comes to: a state, with PC unmoved, or an exception. -/
inductive Stored where
  | done (s : State)
  | raised (s : State)

/-- A store of bytes through a segment (R421, R423). -/
def State.keeperStore (s : State) (p seg off : Nat) (bs : Bytes) (vec : Nat) : Stored :=
  let k := s.pair p
  match accessOf s p seg 1 off bs.length bs.length with
  | .seg c => .raised (s.segFault p seg off c true vec)
  | .denied a c o => .raised (s.keeperDenied p a bs.length true c o)
  | .window a => .done { s with mem := memWriteN s.mem a bs }
  | .fabric a =>
    let req := s.request p 1 (pairSet s p) a bs.length bs (s.servedBy p)
    let t := if s.tagPasses req then s.fabricWrite p k.ring a bs else s.transferFailed p a
    .done (t.setPair p { t.pair p with stores := (t.pair p).stores ++ [(a, bs, pairSet s p, s.lay.epoch, (s.sendTagged req).2)] })

/-! ## Issue (R420, R421, R452) -/

/-- The pair issues: its basin runs, vector 0 has been taken, and nothing holds it. -/
def issues (s : State) (p : Nat) : Bool :=
  let k := s.pair p
  decide (p ≤ 8) && (p == 8 || !((s.basin p).st == .off || (s.basin p).st == .retired || (s.basin p).st == .resetting))
    && !(k.halted || k.waiting || k.resetVector || k.load.isSome || k.fencing)

/-- A fetch comes from the window, or for the Fountainhead pair from the boot ROM. -/
def fetchPlace (p a : Nat) : Bool := inWindow p a || (p == 8 && targetOf a == some 6)

/-- The failing fetch of a halfword at an offset: its cause, 0 when it passes. -/
def fetchCause (p : Nat) (k : KPair) (off : Nat) : Nat :=
  let c := segCause (k.seg 0) 2 k.ring off 2 2
  if c ≠ 0 then c else if fetchPlace p (linear (k.seg 0) off) then 0 else 6

/-- Weir's denial of the fetch of a halfword over the fabric: its cause and offset, none where it passes (R401, R421). -/
def fetchDenied (s : State) (p off : Nat) : Option (Nat × Nat) :=
  let k := s.pair p
  let a := linear (k.seg 0) off
  if inWindow p a then none else weirCheck s p k.ring (pairSet s p) a 2 false

/-- The exception of a halfword's fetch, none where it passes its segment and Weir (R404, R420, R421). -/
def State.fetchFault (s : State) (p off : Nat) : Option State :=
  let k := s.pair p
  let c := fetchCause p k off
  if c ≠ 0 then some (s.segFault p 0 off c false 3)
  else (fetchDenied s p off).map (fun d => s.keeperDenied p (linear (k.seg 0) off) 2 false d.1 d.2)

/-- Run an instruction of `size` bytes at PC when the pair issues and its fetch passes. -/
def State.instr (s : State) (p size : Nat) (f : KPair → Host.Outcome State Fault Refusal) : Host.Outcome State Fault Refusal :=
  let k := s.pair p
  if !issues s p then .next s
  else
    match s.fetchFault p k.pc.toNat with
    | some t => .next t
    | none =>
      match (if size = 4 then s.fetchFault p (k.pc.toNat + 2) else none) with
      | some t => .next t
      | none => f k

/-- The pair's lowest takeable vector (R452). -/
def takeable (k : KPair) : Option Nat :=
  if k.notice.isSome then some 1
  else if k.wdogExpired then some 9
  else if !k.ie then none
  else ((List.range 32).find? (fun i => (k.pend &&& k.ena).getLsbD i)).map (16 + ·)

/-! ## The bit space (R424, R425, R451, R455) -/

/-- Interrupt sources that are not reserved (R450). -/
def irqSources (p : Nat) : Nat := if p = 8 then 10 else 9

/-- The address of a bit-RAM bit's byte (R422). -/
def bitByte (p b : Nat) : Nat := windowBase p + 0xFF000 + b / 8

/-- Read a bit. -/
def readBit (s : State) (p b : Nat) : Bool :=
  let k := s.pair p
  let x := s.basin p
  if b < 0x8000 then (memRead s.mem (bitByte p b)).getLsbD (b % 8)
  else if 0x8100 ≤ b && b < 0x810A && p < 8 then (tabGet x.lanes (b - 0x8100) {}).busy
  else if b = 0x8110 && p < 8 then x.jobDone
  else if b = 0x8111 && p < 8 then x.jobErr
  else if b = 0x8120 && p < 8 then x.cas.cmdDone
  else if b = 0x8121 && p < 8 then x.cas.cmdError
  else if b = 0x8122 && p < 8 then x.cas.queue.isEmpty
  else if b = 0x8123 && p < 8 then x.cas.invFail
  else if b = 0x8130 then entReady s p
  else if b = 0x8131 then s.spg.fatal
  else if 0x8200 ≤ b && b < 0x8220 then decide (b - 0x8200 < irqSources p) && k.pend.getLsbD (b - 0x8200)
  else if 0x8240 ≤ b && b < 0x8260 then decide (b - 0x8240 < irqSources p) && k.ena.getLsbD (b - 0x8240)
  else if 0x8300 ≤ b && b < 0x8340 then k.lfire.getLsbD (b - 0x8300)
  else false

/-- A clear of a W1C flag, while `n` sets arrive: it is left set where one did, and its count becomes their number (R8, R9, R455). -/
def State.clearFlag (s : State) (p b n : Nat) : State :=
  let k := s.pair p
  let x := s.basin p
  let up := n != 0
  if b = 0x8110 && p < 8 then s.setBasin p { x with jobDone := up }
  else if b = 0x8111 && p < 8 then s.setBasin p { x with jobErr := up }
  else if b = 0x8120 && p < 8 then s.mapCas p (fun y => { y with cmdDone := up })
  else if b = 0x8121 && p < 8 then s.mapCas p (fun y => { y with cmdError := up })
  else if b = 0x8123 && p < 8 then s.mapCas p (fun y => { y with invFail := up })
  else if 0x8200 ≤ b && b < 0x8200 + irqSources p then
    s.setPair p { k with pend := putBit k.pend (b - 0x8200) up, intCount := tabSet k.intCount (b - 0x8200) (min 0xFF n) }
  else if 0x8300 ≤ b && b < 0x8340 then
    let m := BitVec.ofNat 64 (2 ^ (b - 0x8300))
    s.setPair p { k with lfire := if up then k.lfire ||| m else k.lfire &&& ~~~ m, lfireCount := tabSet k.lfireCount (b - 0x8300) (min 0xFF n) }
  else s

/-- Write a bit: bit RAM, an enable bit, or a W1C flag by a 1; any other mapped bit discards it. -/
def State.writeBit (s : State) (p b : Nat) (v : Bool) (arrived : Nat) : State :=
  if b < 0x8000 then
    let o := memRead s.mem (bitByte p b)
    let m := BitVec.ofNat 8 (2 ^ (b % 8))
    { s with mem := memWrite s.mem (bitByte p b) (if v then o ||| m else o &&& ~~~ m) }
  else if 0x8240 ≤ b && b < 0x8240 + irqSources p then s.setPair p { s.pair p with ena := putBit (s.pair p).ena (b - 0x8240) v }
  else if v then s.clearFlag p b arrived
  else s

/-- The ring may use the area of a bit (R424). -/
def bitAllowed (ring b : Nat) : Bool := (decide (0x4000 ≤ b) && decide (b < 0x8000)) || decide (ring ≤ 1)

/-- A bit instruction that breaks R424 or R425. -/
def State.bitFault (s : State) (p b : Nat) (write : Bool) : State :=
  (s.setPair p { s.pair p with flt := fltBits b 0 8 write }).take p 7 0

/-! ## The debug access port (R412, R413) -/

/-- DEBUG_ACCESS_RESPONSE (R200, R413, R414): 4,096 ns after its check. A permitted access acts on memory and on the placed registers; a read of any other
target returns open bytes (log entries 1, 44). One whose target stalled, is in RESETTING or was reset meanwhile, or whose tag fails, returns no
data. -/
def execDebugAccessResponse (s : State) : Host.Outcome State Fault Refusal :=
  match s.wei.debugAcc with
  | none => .next s
  | some x =>
    if s.now < x.due then .next s
    else
      let s1 := { s with wei := { s.wei with debugAcc := none } }
      if x.denied || s.unitResetting x.unit || x.respGen != s.genOf x.unit then .next (s1.emit (.debugReply none))
      else if !s.tagPasses (s.request 9 (bitNat x.write) x.set x.addr.toNat (x.lenM1 + 1) (if x.write then padTo (x.lenM1 + 1) x.data else []) none) then
        .next (s1.tagFailure.emit (.debugReply none))
      else if x.write then
        .next ((s1.fabricWrite 9 0 x.addr.toNat (padTo (x.lenM1 + 1) x.data)).emit (.debugReply (some [])))
      else
        match s1.fabricRead 9 0 x.addr.toNat (x.lenM1 + 1) with
        | some r => .next (r.2.emit (.debugReply (some r.1)))
        | none =>
          let r := s1.freeBytes (x.lenM1 + 1)
          .next (r.2.emit (.debugReply (some r.1)))

end Sys2Proof.Machine
end

