-- ==== Sys2Proof/Machine/KeeperAlu.lean ====
section
/-! DEFINITION. Keeper moves, arithmetic, logic, shifts, fields and immediates (R427 to R429). -/

namespace Sys2Proof.Machine

/-! ## Operands and results -/

/-- Bits of a width code. -/
def widthOf (code : Nat) : Nat := if code = 0 then 128 else if code = 1 then 64 else 32

/-- An operation's operands: width, destination, first, second, bytes of the instruction. -/
structure AluIn where
  w : Nat
  rd : Nat
  a : Nat
  b : Nat
  size : Nat
  deriving DecidableEq, Repr

/-- The operands of a form; none where the form or the width does not exist, or a field that must be zero is not (R430). `rr` and
`rrr` say which forms the operation has; `zeroD` and `zeroT` that rd or rt of the RRR form is zero. -/
def aluIn (k : KPair) (o : AluForm) (rr zeroD zeroT : Bool) : Option AluIn :=
  match o with
  | .rr rd rs => if rr then some { w := 128, rd := rd, a := (k.reg rd).toNat, b := (k.reg rs).toNat, size := 2 } else none
  | .rrr c rd rs rt =>
    if 3 ≤ c || (zeroD && rd != 0) || (zeroT && rt != 0) then none
    else some { w := widthOf c, rd := rd, a := (k.reg rs).toNat % 2 ^ widthOf c, b := (k.reg rt).toNat % 2 ^ widthOf c, size := 4 }

/-- Bytes of a form. -/
def AluForm.size (o : AluForm) : Nat := match o with | .rr _ _ => 2 | .rrr _ _ _ _ => 4

/-- The signed reading of a value leaves the range of w bits. -/
def overflows (w : Nat) (x : Int) : Bool := decide (x < -(2 : Int) ^ (w - 1)) || decide ((2 : Int) ^ (w - 1) ≤ x)

/-- An operation's result with C and V; Z and N follow the result. -/
structure AluOut where
  r : Nat
  c : Bool
  v : Bool

/-- Addition with a carry in. -/
def addOut (w a b cin : Nat) : AluOut :=
  { r := (a + b + cin) % 2 ^ w, c := decide (2 ^ w ≤ a + b + cin), v := overflows w (signedOf w a + signedOf w b + cin) }

/-- Subtraction with a borrow in. -/
def subOut (w a b bin : Nat) : AluOut :=
  { r := (a + 2 ^ (w + 1) - b - bin) % 2 ^ w, c := decide (a < b + bin), v := overflows w (signedOf w a - signedOf w b - bin) }

/-- A logical result clears C and V. -/
def logicOut (r : Nat) : AluOut := { r := r, c := false, v := false }

/-- Write a result and its flags at the width, and pass the instruction. -/
def KPair.finishAlu (k : KPair) (i : AluIn) (o : AluOut) (write : Bool) : KPair :=
  let k1 := k.flags o.c (o.r == 0) (bitAt o.r (i.w - 1)) o.v
  (if write then k1.putReg i.rd (BitVec.ofNat 128 o.r) else k1).past i.size

/-- Run an operation of the RR and RRR forms. -/
def State.alu (s : State) (p : Nat) (o : AluForm) (rr zeroD zeroT write : Bool) (f : KPair → AluIn → AluOut) : Host.Outcome State Fault Refusal :=
  s.instr p (AluForm.size o) (fun k =>
    match aluIn k o rr zeroD zeroT with
    | none => .next (s.undefinedAt p)
    | some i => .next (s.setPair p (k.finishAlu i (f k i) write)))

/-! ## RR and RRR operations -/

/-- MOV (R427). -/
def execMov (p rd rs : Nat) (s : State) : Host.Outcome State Fault Refusal :=
  s.instr p 2 (fun k => .next (s.setPair p ((k.putReg rd (k.reg rs)).past 2)))

def execAdd (p : Nat) (o : AluForm) (s : State) : Host.Outcome State Fault Refusal := s.alu p o true false false true (fun _ i => addOut i.w i.a i.b 0)
def execSub (p : Nat) (o : AluForm) (s : State) : Host.Outcome State Fault Refusal := s.alu p o true false false true (fun _ i => subOut i.w i.a i.b 0)
def execAdc (p : Nat) (o : AluForm) (s : State) : Host.Outcome State Fault Refusal :=
  s.alu p o false false false true (fun k i => addOut i.w i.a i.b (bitNat k.c))
def execSbb (p : Nat) (o : AluForm) (s : State) : Host.Outcome State Fault Refusal :=
  s.alu p o false false false true (fun k i => subOut i.w i.a i.b (bitNat k.c))
def execAnd (p : Nat) (o : AluForm) (s : State) : Host.Outcome State Fault Refusal := s.alu p o true false false true (fun _ i => logicOut (i.a &&& i.b))
def execOr (p : Nat) (o : AluForm) (s : State) : Host.Outcome State Fault Refusal := s.alu p o true false false true (fun _ i => logicOut (i.a ||| i.b))
def execXor (p : Nat) (o : AluForm) (s : State) : Host.Outcome State Fault Refusal := s.alu p o true false false true (fun _ i => logicOut (i.a ^^^ i.b))
def execAndn (p : Nat) (o : AluForm) (s : State) : Host.Outcome State Fault Refusal :=
  s.alu p o false false false true (fun _ i => logicOut (i.a &&& (2 ^ i.w - 1 - i.b)))

/-- TST (R427): the flags of an AND. -/
def execTst (p rd rs : Nat) (s : State) : Host.Outcome State Fault Refusal := s.alu p (.rr rd rs) true false false false (fun _ i => logicOut (i.a &&& i.b))

/-- CMP: the flags of a subtraction; rd of the RRR form is zero. -/
def execCmp (p : Nat) (o : AluForm) (s : State) : Host.Outcome State Fault Refusal := s.alu p o true true false false (fun _ i => subOut i.w i.a i.b 0)

/-- The shift count: bits [6:0] modulo the width. -/
def shiftBy (i : AluIn) : Nat := i.b % 128 % i.w

/-- Rotate right. -/
def rotr (w a n : Nat) : Nat := (a / 2 ^ n + a * 2 ^ (w - n)) % 2 ^ w

/-- Arithmetic shift right. -/
def sarN (w a n : Nat) : Nat := bitsOfInt w (signedOf w a / (2 : Int) ^ n)

def execShl (p : Nat) (o : AluForm) (s : State) : Host.Outcome State Fault Refusal :=
  s.alu p o true false false true (fun _ i => logicOut (i.a * 2 ^ shiftBy i % 2 ^ i.w))
def execShr (p : Nat) (o : AluForm) (s : State) : Host.Outcome State Fault Refusal :=
  s.alu p o true false false true (fun _ i => logicOut (i.a / 2 ^ shiftBy i))
def execSar (p : Nat) (o : AluForm) (s : State) : Host.Outcome State Fault Refusal :=
  s.alu p o true false false true (fun _ i => logicOut (sarN i.w i.a (shiftBy i)))
def execRor (p : Nat) (o : AluForm) (s : State) : Host.Outcome State Fault Refusal :=
  s.alu p o true false false true (fun _ i => logicOut (rotr i.w i.a (shiftBy i)))

/-- NOT (R427): the complement of rs. -/
def execNot (p rd rs : Nat) (s : State) : Host.Outcome State Fault Refusal :=
  s.alu p (.rr rd rs) true false false true (fun _ i => logicOut (2 ^ 128 - 1 - i.b))

/-- NEG (R427): 0 - rs. -/
def execNeg (p rd rs : Nat) (s : State) : Host.Outcome State Fault Refusal :=
  s.alu p (.rr rd rs) true false false true (fun _ i => subOut 128 0 i.b 0)

/-- A product's half: Z and N follow it; V is as given, or open where none is; the spec states no C of a product, so it is open (log entry 1). -/
def State.mulHalf (s : State) (p : Nat) (o : AluForm) (f : AluIn → Nat) (ovf : AluIn → Option Bool) : Host.Outcome State Fault Refusal :=
  s.instr p (AluForm.size o) (fun k =>
    match aluIn k o false false false with
    | none => .next (s.undefinedAt p)
    | some i =>
      let c := s.freeBool
      let v := match ovf i with | some b => (b, c.2) | none => c.2.freeBool
      .next (v.2.setPair p (k.finishAlu i { r := f i, c := c.1, v := v.1 } true)))

/-- The signed product does not fit the width (R418). -/
def mulOver (i : AluIn) : Bool := signedOf i.w i.a * signedOf i.w i.b != signedOf i.w (i.a * i.b % 2 ^ i.w)

/-- MUL: the low half; V is signed overflow (R418, R429). -/
def execMul (p : Nat) (o : AluForm) (s : State) : Host.Outcome State Fault Refusal :=
  s.mulHalf p o (fun i => i.a * i.b % 2 ^ i.w) (fun i => some (mulOver i))

/-- MULH: the unsigned high half, of which the spec states no signed overflow. -/
def execMulh (p : Nat) (o : AluForm) (s : State) : Host.Outcome State Fault Refusal :=
  s.mulHalf p o (fun i => i.a * i.b / 2 ^ i.w) (fun _ => none)

def execBswap (p : Nat) (o : AluForm) (s : State) : Host.Outcome State Fault Refusal :=
  s.alu p o false false true true (fun _ i => logicOut (leNat (natLe (i.w / 8) i.a).reverse))

/-- Leading zeros at the width. -/
def clzN : Nat → Nat → Nat
  | 0, _ => 0
  | w + 1, a => if bitAt a w then 0 else 1 + clzN w a

def execClz (p : Nat) (o : AluForm) (s : State) : Host.Outcome State Fault Refusal :=
  s.alu p o false false true true (fun _ i => logicOut (clzN i.w i.a))
def execPopc (p : Nat) (o : AluForm) (s : State) : Host.Outcome State Fault Refusal :=
  s.alu p o false false true true (fun _ i => logicOut (((List.range i.w).filter (fun j => bitAt i.a j)).length))

/-! ## Immediates -/

/-- Bytes of an immediate form. -/
def ImmForm.size (o : ImmForm) : Nat := match o with | .ri _ _ => 2 | .ri16 _ _ => 4 | .rri _ _ _ => 4

/-- MOVI: imm7 or imm16, zero-extended; the flags stay. -/
def execMovi (p : Nat) (o : ImmForm) (s : State) : Host.Outcome State Fault Refusal :=
  s.instr p (ImmForm.size o) (fun k =>
    match o with
    | .ri rd i => .next (s.setPair p ((k.putReg rd (BitVec.ofNat 128 i)).past 2))
    | .ri16 rd i => .next (s.setPair p ((k.putReg rd (BitVec.ofNat 128 i)).past 4))
    | .rri _ _ _ => .next (s.undefinedAt p))

/-- MOVHI: bits [31:16], the rest kept. -/
def execMovhi (p rd imm16 : Nat) (s : State) : Host.Outcome State Fault Refusal :=
  s.instr p 4 (fun k =>
    let v := (k.reg rd).toNat
    .next (s.setPair p ((k.putReg rd (BitVec.ofNat 128 (v / 2 ^ 32 * 2 ^ 32 + imm16 % 2 ^ 16 * 2 ^ 16 + v % 2 ^ 16))).past 4)))

/-- An RI16 logical operation with the immediate zero-extended. -/
def State.logicImm (s : State) (p rd : Nat) (f : Nat → Nat) : Host.Outcome State Fault Refusal :=
  s.instr p 4 (fun k =>
    .next (s.setPair p (k.finishAlu { w := 128, rd := rd, a := 0, b := 0, size := 4 } (logicOut (f (k.reg rd).toNat)) true)))

def execAndi (p rd imm16 : Nat) (s : State) : Host.Outcome State Fault Refusal := s.logicImm p rd (fun v => v &&& imm16 % 2 ^ 16)
def execOri (p rd imm16 : Nat) (s : State) : Host.Outcome State Fault Refusal := s.logicImm p rd (fun v => v ||| imm16 % 2 ^ 16)

/-- The operands of ADDI and CMPI: `signed` extends the RI immediate's sign, `cmp` asks for rs zero and takes rd. -/
def immIn (k : KPair) (o : ImmForm) (cmp : Bool) : Option AluIn :=
  match o with
  | .ri rd i => some { w := 128, rd := rd, a := (k.reg rd).toNat, b := if cmp then i % 128 else bitsOfInt 128 (signedOf 7 i), size := 2 }
  | .ri16 _ _ => none
  | .rri rd rs i =>
    if cmp then (if rs = 0 then some { w := 128, rd := rd, a := (k.reg rd).toNat, b := i % 2 ^ 14, size := 4 } else none)
    else some { w := 128, rd := rd, a := (k.reg rs).toNat, b := bitsOfInt 128 (signedOf 14 i), size := 4 }

/-- ADDI: rd + imm7, or rs + imm14, signed. -/
def execAddi (p : Nat) (o : ImmForm) (s : State) : Host.Outcome State Fault Refusal :=
  s.instr p (ImmForm.size o) (fun k =>
    match immIn k o false with
    | none => .next (s.undefinedAt p)
    | some i => .next (s.setPair p (k.finishAlu i (addOut 128 i.a i.b 0) true)))

/-- CMPI: the flags of rd - imm7 or rd - imm14, zero-extended. -/
def execCmpi (p : Nat) (o : ImmForm) (s : State) : Host.Outcome State Fault Refusal :=
  s.instr p (ImmForm.size o) (fun k =>
    match immIn k o true with
    | none => .next (s.undefinedAt p)
    | some i => .next (s.setPair p (k.finishAlu i (subOut 128 i.a i.b 0) false)))

/-! ## Fields (R429) -/

/-- pos and len of EXTF and INSF; none past bit 127. -/
def fieldOf (imm14 : Nat) : Option (Nat × Nat) :=
  let pos := bitsAt imm14 0 7
  let len := bitsAt imm14 7 7 + 1
  if pos + len ≤ 128 then some (pos, len) else none

def execExtf (p rd rs imm14 : Nat) (s : State) : Host.Outcome State Fault Refusal :=
  s.instr p 4 (fun k =>
    match fieldOf imm14 with
    | none => .next (s.undefinedAt p)
    | some (pos, len) => .next (s.setPair p ((k.putReg rd (BitVec.ofNat 128 (bitsAt (k.reg rs).toNat pos len))).past 4)))

def execInsf (p rd rs imm14 : Nat) (s : State) : Host.Outcome State Fault Refusal :=
  s.instr p 4 (fun k =>
    match fieldOf imm14 with
    | none => .next (s.undefinedAt p)
    | some (pos, len) =>
      let o := (k.reg rd).toNat
      let v := o - bitsAt o pos len * 2 ^ pos + (k.reg rs).toNat % 2 ^ len * 2 ^ pos
      .next (s.setPair p ((k.putReg rd (BitVec.ofNat 128 v)).past 4)))

end Sys2Proof.Machine
end

