-- ==== Sys2Proof/Machine/KeeperMem.lean ====
section
/-! DEFINITION. Keeper loads, stores, jumps, calls, stack and bit instructions (R421 to R432). -/

namespace Sys2Proof.Machine

/-! ## Loads and stores (R427, R428, R453) -/

/-- Register, segment, offset, bytes of the access and of the instruction; none for a size that does not exist (R430). -/
def memIn (k : KPair) (o : MemForm) : Option (Nat × Nat × Nat × Nat × Nat) :=
  match o with
  | .rr sz rd rs => if sz = 1 || 4 < sz then none else some (rd, 1, low32 (k.reg rs), 2 ^ sz, 2)
  | .mem rd seg base sz d => if 4 < sz then none else some (rd, seg, (low32 (k.reg base) + signedOff 10 d (2 ^ sz)) % 2 ^ 32, 2 ^ sz, 4)

/-- Bytes of a form. -/
def MemForm.size (o : MemForm) : Nat := match o with | .rr _ _ _ => 2 | .mem _ _ _ _ _ => 4

/-- LD: zero-extends. -/
def execLd (p : Nat) (o : MemForm) (s : State) : Host.Outcome State Fault Refusal :=
  s.instr p (MemForm.size o) (fun k =>
    match memIn k o with
    | none => .next (s.undefinedAt p)
    | some (rd, seg, off, n, isz) => .next (s.keeperLoad p 0 seg 0 off n n rd isz 3))

/-- The reply to a fabric load, as its integrity tag covers it (R414). -/
def FabLoad.reply (l : FabLoad) (g : ReplyGen) (data : Bytes) : Transfer :=
  { l.req with kind := 2, reqGen := g.echoed, respGen := g.responder, data := data }

/-- A transfer to the Fountainhead pair that passes ends its run of failures (R416). -/
def State.clearRetries (s : State) (p : Nat) : State := { s with wei := { s.wei with retries := if p = 8 then tabDel s.wei.retries 8 else s.wei.retries } }

/-- FABRIC_LOAD_RETURN (R200, R414, R453): a reply of other generations is discarded, and one whose tag fails is a tag failure; a unit in RESETTING
gives no data, so that the value is free (log entry 128); a reply under the previous key index is accepted while its key is (R415). The data of memory and of the placed registers come from the state; of any other target
the row gives them (log entry 44). -/
def execFabricLoadReturn (p : Nat) (x : LoadReply) (s : State) : Host.Outcome State Fault Refusal :=
  let k := s.pair p
  match k.load with
  | none => .next s
  | some l =>
    if !s.fresh (unitAt l.addr) p x.gens then .next s
    else
      let r := if s.unitResetting (unitAt l.addr) then s.freeBytes l.size
        else (s.fabricRead p k.ring l.addr l.size).getD (padTo l.size x.data, s)
      if !s.tagOkEither (l.reply x.gens r.1) x.tag then .next (s.transferFailed p l.addr)
      else .next ((r.2.setPair p { (r.2.pair p).arrive l.kind l.rd (leNat r.1) l.next with load := none }).clearRetries p)

/-- What a store leaves, once PC has moved past it, or the exception it took. -/
def Stored.outcome (r : Stored) (p : Nat) (f : KPair → KPair) : Host.Outcome State Fault Refusal :=
  match r with
  | .done t => .next (t.setPair p (f (t.pair p)))
  | .raised t => .next t

/-- ST. -/
def execSt (p : Nat) (o : MemForm) (s : State) : Host.Outcome State Fault Refusal :=
  s.instr p (MemForm.size o) (fun k =>
    match memIn k o with
    | none => .next (s.undefinedAt p)
    | some (rd, seg, off, n, isz) => (s.keeperStore p seg off (natLe n (k.reg rd).toNat) 3).outcome p (fun x => x.past isz))

/-- LDL (R431): the literal at (PC AND NOT 0xF) + 16 × disp20 through SG0, with EX. -/
def execLdl (p rd disp20 : Nat) (s : State) : Host.Outcome State Fault Refusal :=
  s.instr p 4 (fun k => .next (s.keeperLoad p 0 0 2 ((k.pc.toNat / 16 * 16 + signedOff 20 disp20 16) % 2 ^ 32) 16 1 rd 4 3))

/-! ## Jumps (R427, R428) -/

/-- A condition code of R428. -/
def condHolds (k : KPair) (c : Nat) : Bool :=
  match c with
  | 0 => true
  | 1 => k.z
  | 2 => !k.z
  | 3 => k.c
  | 4 => !k.c
  | 5 => k.n
  | 6 => !k.n
  | 7 => k.v
  | 8 => !k.v
  | 9 => !k.c && !k.z
  | 10 => k.c || k.z
  | 11 => k.n == k.v
  | 12 => k.n != k.v
  | 13 => !k.z && k.n == k.v
  | 14 => k.z || k.n != k.v
  | _ => k.bf

/-- A cond3 code of R427; none for the reserved one. -/
def cond3Holds (k : KPair) (c : Nat) : Option Bool :=
  match c with
  | 0 => some true
  | 1 => some k.z
  | 2 => some (!k.z)
  | 3 => some k.c
  | 4 => some (!k.c)
  | 5 => some k.bf
  | 6 => some (!k.bf)
  | _ => none

/-- The target of a relative jump. -/
def jumpTo (k : KPair) (size w disp : Nat) : BitVec 32 := k.pc + BitVec.ofNat 32 size + BitVec.ofNat 32 (signedOff w disp 2)

/-- Bytes of a jump form. -/
def JmpForm.size (o : JmpForm) : Nat := match o with | .short _ _ => 2 | .long _ _ => 4

/-- JCC. -/
def execJcc (p : Nat) (o : JmpForm) (s : State) : Host.Outcome State Fault Refusal :=
  s.instr p (JmpForm.size o) (fun k =>
    match o with
    | .short c d =>
      (match cond3Holds k c with
       | none => .next (s.undefinedAt p)
       | some b => .next (s.setPair p { k with pc := if b then jumpTo k 2 8 d else k.pc + 2 }))
    | .long c d => .next (s.setPair p { k with pc := if condHolds k c then jumpTo k 4 20 d else k.pc + 4 }))

/-- JR: to the offset in rs. -/
def execJr (p rs : Nat) (s : State) : Host.Outcome State Fault Refusal :=
  s.instr p 4 (fun k => .next (s.setPair p { k with pc := BitVec.ofNat 32 (low32 (k.reg rs)) }))

/-! ## Stack and calls (R432) -/

/-- Push 16 bytes at W15 - 16, then set PC; a failed check takes vector 2 (R420). -/
def State.pushWord (s : State) (p : Nat) (v : Nat) (next : BitVec 32) : Host.Outcome State Fault Refusal :=
  let k := s.pair p
  let sp := (k.spOf k.ring + 2 ^ 32 - 16) % 2 ^ 32
  (s.keeperStore p 2 sp (natLe 16 v) 2).outcome p (fun x => { x.putSp x.ring sp with pc := next })

def execCall (p disp20 : Nat) (s : State) : Host.Outcome State Fault Refusal :=
  s.instr p 4 (fun k => s.pushWord p (k.pc + 4).toNat (jumpTo k 4 20 disp20))

def execCallr (p rs : Nat) (s : State) : Host.Outcome State Fault Refusal :=
  s.instr p 4 (fun k => s.pushWord p (k.pc + 4).toNat (BitVec.ofNat 32 (low32 (k.reg rs))))

def execRet (p : Nat) (s : State) : Host.Outcome State Fault Refusal :=
  s.instr p 2 (fun k => .next (s.keeperLoad p 2 2 0 (k.spOf k.ring) 16 16 0 2 2))

/-- PUSH: W15 itself is pushed as it was (log entry 47). -/
def execPush (p reg : Nat) (s : State) : Host.Outcome State Fault Refusal :=
  s.instr p 2 (fun k => s.pushWord p (k.reg reg).toNat (k.pc + 2))

/-- POP. -/
def execPop (p reg : Nat) (s : State) : Host.Outcome State Fault Refusal :=
  s.instr p 2 (fun k => .next (s.keeperLoad p 1 2 0 (k.spOf k.ring) 16 16 reg 2 2))

def execKeeperNop (p : Nat) (s : State) : Host.Outcome State Fault Refusal := s.instr p 2 (fun k => .next (s.setPair p (k.past 2)))

/-! ## Bit instructions (R424, R425, R455) -/

/-- Run a bit instruction whose ring may use the area of its bit. -/
def State.bitInstr (s : State) (p b : Nat) (write : Bool) (f : KPair → State) : Host.Outcome State Fault Refusal :=
  s.instr p 4 (fun k => if bitAllowed k.ring b then .next (f k) else .next (s.bitFault p b write))

/-- The pair passes a bit instruction. -/
def State.bitDone (s : State) (p : Nat) : State := s.setPair p ((s.pair p).past 4)

/-- BTST: BF is the bit, Z its inverse. -/
def execBtst (p bit : Nat) (s : State) : Host.Outcome State Fault Refusal :=
  s.bitInstr p bit false (fun k =>
    let v := readBit s p bit
    (s.setPair p { k with st := putBit (putBit k.st 4 v) 1 (!v) }).bitDone p)

/-- BSET; on a W1C flag a clear, during which `arrived` sets arrive. -/
def execBset (p bit arrived : Nat) (s : State) : Host.Outcome State Fault Refusal :=
  s.bitInstr p bit true (fun _ => (s.writeBit p bit true arrived).bitDone p)

def execBclr (p bit : Nat) (s : State) : Host.Outcome State Fault Refusal :=
  s.bitInstr p bit true (fun _ => (s.writeBit p bit false 0).bitDone p)

/-- BNOT; vector 7 on a mapped bit. -/
def execBnot (p bit : Nat) (s : State) : Host.Outcome State Fault Refusal :=
  s.bitInstr p bit true (fun _ =>
    if 0x8000 ≤ bit then s.bitFault p bit true else (s.writeBit p bit (!readBit s p bit) 0).bitDone p)

/-- BTAS: BF is the bit, which is then set; vector 7 on a mapped bit. -/
def execBtas (p bit : Nat) (s : State) : Host.Outcome State Fault Refusal :=
  s.bitInstr p bit true (fun k =>
    if 0x8000 ≤ bit then s.bitFault p bit true
    else ((s.setPair p { k with st := putBit k.st 4 (readBit s p bit) }).writeBit p bit true 0).bitDone p)

def execBrd (p rd bit : Nat) (s : State) : Host.Outcome State Fault Refusal :=
  s.bitInstr p bit false (fun k => (s.setPair p (k.putReg rd (BitVec.ofNat 128 (bitNat (readBit s p bit))))).bitDone p)

def execBwr (p rd bit arrived : Nat) (s : State) : Host.Outcome State Fault Refusal :=
  s.bitInstr p bit true (fun k => (s.writeBit p bit ((k.reg rd).getLsbD 0) arrived).bitDone p)

end Sys2Proof.Machine
end

