-- ==== Sys2Proof/Machine/KeeperSys.lean ====
section
/-! DEFINITION. Keeper block instructions, special registers, gates, waiting and vectors (R433 to R436, R440 to R455). -/

namespace Sys2Proof.Machine

/-! ## Block instructions (R433 to R435) -/

/-- What one element comes to. -/
inductive ElemStep where
  | go (s : State)                 -- performed
  | last (s : State) (z : Bool)    -- performed, and the instruction ends with this Z
  | raised (s : State)

/-- One element read, or the exception it takes (R435). -/
inductive ElemRead where
  | got (v : Bytes) (s : State)
  | raised (s : State)

/-- Read an element through a segment; a unit in RESETTING gives no data, so that the value is free (R200, log entry 128). -/
def State.readElem (s : State) (p seg off : Nat) : ElemRead :=
  match accessOf s p seg 0 off 16 16 with
  | .seg c => .raised (s.segFault p seg off c false 3)
  | .denied a c o => .raised (s.keeperDenied p a 16 false c o)
  | .window a => .got (memReadN s.mem a 16) s
  | .fabric a =>
    if s.unitResetting (unitAt a) then let r := s.freeBytes 16; .got r.1 r.2
    else if !s.tagPasses (s.request p 0 (pairSet s p) a 16 [] (s.servedBy p)) then .raised (s.transferFailed p a)
    else
      match s.fabricRead p (s.pair p).ring a 16 with
      | some r => .got r.1 r.2
      | none => let r := s.freeBytes 16; .got r.1 r.2

/-- Write an element. -/
def State.putElem (s : State) (p seg off : Nat) (v : Bytes) : ElemStep :=
  match s.keeperStore p seg off v 3 with
  | .done t => .go t
  | .raised t => .raised t

/-- An offset held in a register. -/
def ptr (s : State) (p r : Nat) : Nat := low32 ((s.pair p).reg r)

/-- Use an element that was read. -/
def ElemRead.use (r : ElemRead) (f : Bytes → State → ElemStep) : ElemStep :=
  match r with | .got v s => f v s | .raised s => .raised s

/-- The result of comparing an element: Z is kept in ST. -/
def State.setZ (s : State) (p : Nat) (z : Bool) : State := s.setPair p { s.pair p with st := putBit (s.pair p).st 1 z }

/-- A pointer register moves by one element; its other bits stay. -/
def KPair.movePtr (k : KPair) (r : Nat) (down : Bool) : KPair :=
  let v := (k.reg r).toNat
  k.putReg r (BitVec.ofNat 128 (v / 2 ^ 32 * 2 ^ 32 + (v % 2 ^ 32 + (if down then 2 ^ 32 - 16 else 16)) % 2 ^ 32))

/-- After an element: the pointers step and RC falls. -/
def State.stepPtrs (s : State) (p : Nat) (ptrs : List Nat) (down : Bool) : State :=
  let k := ptrs.foldl (fun (a : KPair) r => a.movePtr r down) (s.pair p)
  s.setPair p { k with rc := k.rc - 1 }

/-- An interrupt source of the pair becomes pending during element i of a run (R434). -/
def State.arriveIn (s : State) (p i : Nat) (irq : Option (Nat × Nat)) : State :=
  match irq with | some (src, n) => if n = i && decide (src < irqSources p) then s.irq p src else s | none => s

/-- Z as a run that found no end of its own writes it back. -/
def State.backZ (s : State) (p : Nat) (z : Option Bool) : State := match z with | some b => s.setZ p b | none => s

/-- The elements one after another, from the i-th on; a takeable vector stops the run between two of them, with Z written back (R434). -/
def blkLoop (p : Nat) (o : BlkForm) (ptrs : List Nat) (z : Option Bool) (step : State → ElemStep) : Nat → Nat → State → Host.Outcome State Fault Refusal
  | 0, _, s => let u := s.backZ p z; .next (u.setPair p ((u.pair p).past 4))
  | k + 1, i, s =>
    match step s with
    | .raised t => .next t
    | .last t b =>
      let u := ((t.stepPtrs p ptrs o.dir).setZ p b).arriveIn p i o.irq
      .next (u.setPair p ((u.pair p).past 4))
    | .go t =>
      let u := (t.stepPtrs p ptrs o.dir).arriveIn p i o.irq
      if (takeable (u.pair p)).isSome && (u.pair p).rc != 0 then .next (u.backZ p z) else blkLoop p o ptrs z step k (i + 1) u

/-- Run a block instruction whose fields `ok` accepts: `ptrs` are the pointer registers it steps, `empty` the Z of a run without a hit. -/
def State.blk (s : State) (p : Nat) (o : BlkForm) (ok : Bool) (ptrs : List Nat) (empty : Option Bool) (step : State → ElemStep) : Host.Outcome State Fault Refusal :=
  s.instr p 4 (fun k =>
    if !ok then .next (s.undefinedAt p)
    else blkLoop p o ptrs empty step k.rc.toNat 0 s)

/-- The fields of a func that uses a source and a destination pointer. -/
def blkTwo (o : BlkForm) : Bool := o.pV == 0 && o.pS != o.pD && o.pS != 15 && o.pD != 15

/-- The fields of a func that uses a destination pointer and a value. -/
def blkVal (o : BlkForm) : Bool := o.segS == 0 && o.pS == 0 && o.pD != o.pV && o.pD != 15 && o.pV != 15

/-- The fields of BZERO. -/
def blkOne (o : BlkForm) : Bool := o.segS == 0 && o.pS == 0 && o.pV == 0 && o.pD != 15

def execBcopy (p : Nat) (o : BlkForm) (s : State) : Host.Outcome State Fault Refusal :=
  s.blk p o (blkTwo o) [o.pS, o.pD] none (fun t => (t.readElem p o.segS (ptr t p o.pS)).use (fun v u => u.putElem p o.segD (ptr u p o.pD) v))

def execBfill (p : Nat) (o : BlkForm) (s : State) : Host.Outcome State Fault Refusal :=
  s.blk p o (blkVal o) [o.pD] none (fun t => t.putElem p o.segD (ptr t p o.pD) (natLe 16 ((t.pair p).reg o.pV).toNat))

/-- BCMP: until a difference, with Z clear; Z is set while the elements are equal. -/
def execBcmp (p : Nat) (o : BlkForm) (s : State) : Host.Outcome State Fault Refusal :=
  s.blk p o (blkTwo o) [o.pS, o.pD] (some true) (fun t =>
    (t.readElem p o.segS (ptr t p o.pS)).use (fun v u => (u.readElem p o.segD (ptr u p o.pD)).use (fun w x =>
      if v = w then .go x else .last x false)))

/-- BSEEK: until an element equals the value, with Z set. -/
def execBseek (p : Nat) (o : BlkForm) (s : State) : Host.Outcome State Fault Refusal :=
  s.blk p o (blkVal o) [o.pD] (some false) (fun t =>
    (t.readElem p o.segD (ptr t p o.pD)).use (fun w x =>
      if w = natLe 16 ((x.pair p).reg o.pV).toNat then .last x true else .go x))

def execBxor (p : Nat) (o : BlkForm) (s : State) : Host.Outcome State Fault Refusal :=
  s.blk p o (blkTwo o) [o.pS, o.pD] none (fun t =>
    (t.readElem p o.segS (ptr t p o.pS)).use (fun v u => (u.readElem p o.segD (ptr u p o.pD)).use (fun w x =>
      x.putElem p o.segD (ptr x p o.pD) (xorBytes w v))))

def execBzero (p : Nat) (o : BlkForm) (s : State) : Host.Outcome State Fault Refusal :=
  s.blk p o (blkOne o) [o.pD] none (fun t => t.putElem p o.segD (ptr t p o.pD) (List.replicate 16 0))

/-! ## Segment and special registers (R418 to R420, R430) -/

/-- MOVSG: at ring 0, a descriptor with BASE bits [3:0] and the reserved bits zero. -/
def execMovsg (p sr rs : Nat) (s : State) : Host.Outcome State Fault Refusal :=
  s.instr p 4 (fun k =>
    let v := (k.reg rs).toNat
    if 8 ≤ sr then .next (s.undefinedAt p)
    else if k.ring ≠ 0 then .next (s.take p 6 0)
    else if v % 16 ≠ 0 || v &&& descMask ≠ v then .next (s.undefinedAt p)
    else .next (s.setPair p ({ k with sg := tabSet k.sg sr (BitVec.ofNat 128 v) }.past 4)))

/-- MOVGS, at any ring. -/
def execMovgs (p rd sr : Nat) (s : State) : Host.Outcome State Fault Refusal :=
  s.instr p 4 (fun k => if 8 ≤ sr then .next (s.undefinedAt p) else .next (s.setPair p ((k.putReg rd (tabGet k.sg sr 0)).past 4)))

/-- ST as MOVSR leaves it: C, Z, N, V and BF, and at ring 0 IE (R418). -/
def writeSt (k : KPair) (v : Nat) : BitVec 32 :=
  let m := if k.ring = 0 then 0x3F else 0x1F
  BitVec.ofNat 32 ((k.st.toNat - (k.st.toNat &&& m)) + (v &&& m))

/-- MOVSR: ST, RC and, at ring 0, SP0 to SP3; FLT and PC are read-only. -/
def execMovsr (p sr rs : Nat) (s : State) : Host.Outcome State Fault Refusal :=
  s.instr p 4 (fun k =>
    let v := low32 (k.reg rs)
    if sr = 0 then .next (s.setPair p ({ k with st := writeSt k v }.past 4))
    else if sr = 1 then .next (s.setPair p ({ k with rc := BitVec.ofNat 32 v }.past 4))
    else if 3 ≤ sr && sr ≤ 6 then
      (if k.ring ≠ 0 then .next (s.take p 6 0) else .next (s.setPair p ((k.putSp (sr - 3) v).past 4)))
    else .next (s.undefinedAt p))

/-- A special register's value; none for a reserved number. -/
def specialOf (k : KPair) (sr : Nat) : Option Nat :=
  if sr = 0 then some k.st.toNat
  else if sr = 1 then some k.rc.toNat
  else if sr = 2 then some k.flt.toNat
  else if sr ≤ 6 then some (k.spOf (sr - 3))
  else if sr = 7 then some k.pc.toNat
  else none

/-- MOVRS. -/
def execMovrs (p rd sr : Nat) (s : State) : Host.Outcome State Fault Refusal :=
  s.instr p 4 (fun k =>
    match specialOf k sr with
    | none => .next (s.undefinedAt p)
    | some v => .next (s.setPair p ((k.putReg rd (BitVec.ofNat 128 v)).past 4)))

/-! ## Gates (R442 to R444) -/

/-- A gate entry's 128 bits, none where it lies outside the window below the Refuge stack. -/
def gateEntry (s : State) (p i : Nat) : Option Nat :=
  let off := (s.pair p).gate.toNat % 2 ^ 32 + 16 * i
  if off + 16 ≤ 0xFEF00 then some (leNat (memReadN s.mem (windowBase p + off) 16)) else none

/-- Cause of a GATE_FAULT of CALLG at ring c, 0 for none (R443). -/
def gateCause (s : State) (p i : Nat) : Nat :=
  let k := s.pair p
  if bitsAt k.gate.toNat 32 13 ≤ i then 1
  else
    match gateEntry s p i with
    | none => 2
    | some g =>
      if !bitAt g 36 || g / 2 ^ 37 ≠ 0 then 2
      else if bitsAt g 34 2 < k.ring then 3
      else if k.ring < bitsAt g 32 2 then 4
      else 0

/-- The pair enters ring r at an offset: ring-table descriptors and PC. -/
def KPair.enterRing (k : KPair) (p r : Nat) (stack : BitVec 128) (pc : Nat) : KPair :=
  { k with sg := tabSet (tabSet k.sg 0 (ringCode k p r)) 2 stack, pc := BitVec.ofNat 32 pc }

/-- CALLG (R443); a frame push that fails takes vector 2 on the Refuge stack (R446, R448). -/
def execCallg (p imm12 : Nat) (s : State) : Host.Outcome State Fault Refusal :=
  s.instr p 4 (fun k =>
    let c := gateCause s p imm12
    if c ≠ 0 then .next (s.take p 8 (imm12 % 2 ^ 12 + c * 2 ^ 12))
    else
      let g := (gateEntry s p imm12).getD 0
      let t := bitsAt g 32 2
      let ss := ringStack k p t
      let sp := k.spOf t
      let down := (sp + 2 ^ 32 - 32) % 2 ^ 32
      if s.frameCause p ss.toNat 1 t down ≠ 0 then
        .next (if 0 < k.refugeDepth then s.take p 2 0 else s.failedPush p k.pc.toNat 0)
      else
        let k1 := { (k.enterRing p t ss (bitsAt g 0 32)).putSp t down with
          st := BitVec.ofNat 32 (k.st.toNat - k.ring * 64 + t * 64) }
        .next ((s.setPair p k1).putFrame p t (linear ss.toNat down) (frameBytes (k.pc.toNat + 4) k.st.toNat sp 0 false false k.rc.toNat 0)))

/-- The context switch of WEI_KSEL (R410). -/
def KPair.switchSet (k : KPair) : KPair :=
  match k.kselNext with | some m => { k with ksel := m, kselNext := none } | none => k

/-- The segment RETG pops its frame from: the Refuge stack at ring 0 while it holds frames (R448), else SG2. -/
def popSegment (k : KPair) (p : Nat) : Nat := if k.ring = 0 && 0 < k.refugeDepth then (refugeDesc p).toNat else k.seg 2

/-- RETG, the return from a gate or an exception (R444, R448). -/
def execRetg (p : Nat) (s : State) : Host.Outcome State Fault Refusal :=
  s.instr p 4 (fun k =>
    let sp := k.spOf k.ring
    let sg := popSegment k p
    let fc := s.frameCause p sg 0 k.ring sp
    if fc ≠ 0 then .next (s.segFault p 2 sp fc false 2)
    else
      let g := s.getFrame p k.ring (linear sg sp)
      let f := g.1
      let st := field f 4 4
      let back := bitsAt st 6 2
      if st / 256 ≠ 0 then .next (s.take p 8 (6 * 2 ^ 12))
      else if back < k.ring then .next (s.take p 8 (5 * 2 ^ 12))
      else
        let depth := if k.ring = 0 then k.refugeDepth - 1 else k.refugeDepth
        let ss := if k.ring = 0 && 0 < depth then tabGet k.sg 2 0 else ringStack k p back
        let st1 := if k.ring = 0 then st else st - bitsAt st 5 1 * 32 + bitNat k.ie * 32
        let k1 := (k.putSp k.ring (field f 8 4)).enterRing p back ss (field f 0 4)
        let k2 : KPair := { k1 with st := BitVec.ofNat 32 st1, rc := if bitAt (field f 12 4) 6 then BitVec.ofNat 32 (field f 16 4) else k.rc, refugeDepth := depth }
        .next (g.2.setPair p k2.switchSet))

/-! ## RND, FENCE, WAIT (R423, R436, R453) -/

/-- RND: 128 bits of the pair's pool; with ENT_READY clear, zero and nothing drawn. -/
def execRnd (p rd : Nat) (s : State) : Host.Outcome State Fault Refusal :=
  s.instr p 4 (fun k =>
    let d := s.drbg p
    if entReady s p then
      let s1 := s.setDrbg p { d with pool := d.pool.drop 16 }
      .next (s1.setPair p ({ k.putReg rd (BitVec.ofNat 128 (leNat (d.pool.take 16))) with st := putBit k.st 4 true }.past 4))
    else .next (s.setPair p ({ k.putReg rd 0 with st := putBit k.st 4 false }.past 4)))

/-- FENCE: at once when no fabric store is unacknowledged. -/
def execFence (p : Nat) (s : State) : Host.Outcome State Fault Refusal :=
  s.instr p 4 (fun k => if k.stores.isEmpty then .next (s.setPair p (k.past 4)) else .next (s.setPair p { k with fencing := true }))

/-- FENCE_COMPLETE: every earlier fabric store of the pair is acknowledged. -/
def execFenceComplete (p : Nat) (s : State) : Host.Outcome State Fault Refusal :=
  let k := s.pair p
  if k.fencing then .next (s.setPair p ({ k with stores := [], fencing := false }.past 4)) else .next s

/-- A WAIT ends: a vector is takeable, or an enabled source is pending with IE clear. -/
def wakes (k : KPair) : Bool := (takeable k).isSome || (!k.ie && (k.pend &&& k.ena) != 0)

/-- WAIT, at ring 0. -/
def execWait (p : Nat) (s : State) : Host.Outcome State Fault Refusal :=
  s.instr p 4 (fun k => if k.ring ≠ 0 then .next (s.take p 6 0) else .next (s.setPair p ({ k with waiting := !wakes k }.past 4)))

/-- WAIT_WAKE. -/
def execWaitWake (p : Nat) (s : State) : Host.Outcome State Fault Refusal :=
  let k := s.pair p
  if k.waiting && wakes k then .next (s.setPair p { k with waiting := false }) else .next s

/-! ## Vectors (R446, R450, R452) -/

/-- UNDEFINED_INSTRUCTION: vector 5. -/
def execUndefinedInstruction (p : Nat) (s : State) : Host.Outcome State Fault Refusal := s.instr p 2 (fun _ => .next (s.undefinedAt p))

/-- Vector 0 pushes nothing: ST is zero, SG0 and SG2 come from ring-table entry 0, PC is 0. -/
def KPair.vectorZero (k : KPair) (p : Nat) : KPair :=
  { k.enterRing p 0 (ringStack k p 0) 0 with st := 0, resetVector := false, lastVector := 0 }

/-- INTERRUPT_ENTRY (R452, R453): vector 0 after a reset, else the lowest takeable vector; a load whose data has not come and an unfinished
FENCE are abandoned, so that PC names them. -/
def execInterruptEntry (p : Nat) (s : State) : Host.Outcome State Fault Refusal :=
  let k := s.pair p
  if 8 < p || k.halted then .next s
  else if k.resetVector then .next (s.setPair p (k.vectorZero p))
  else
    match takeable k with
    | none => .next s
    | some v =>
      let k1 : KPair := { k with notice := if v = 1 then none else k.notice, wdogExpired := k.wdogExpired && v != 9 }
      .next ((s.setPair p k1).takeAt p v k.pc.toNat (if v = 1 then k.notice.getD 0 else 0))

/-- WATCHDOG_EXPIRY: PERIOD_US after the latest kick. -/
def execWatchdogExpiry (p : Nat) (s : State) : Host.Outcome State Fault Refusal :=
  let k := s.pair p
  if p ≤ 8 && k.wdogPeriod ≠ 0 && !k.wdogSpent && k.wdogKick + 1000 * k.wdogPeriod ≤ s.now then
    .next (s.setPair p { k with wdogExpired := true, wdogSpent := true })
  else .next s

/-- WATCHDOG_KICK: by the pair at ring 0. -/
def execWatchdogKick (p : Nat) (s : State) : Host.Outcome State Fault Refusal :=
  if p ≤ 8 && (s.pair p).ring = 0 then .next (s.setPair p ((s.pair p).kick s.now)) else .next s

/-- TIMER_FIRE: local time has reached AT. -/
def execTimerFire (p k : Nat) (s : State) : Host.Outcome State Fault Refusal :=
  if p ≤ 8 && k < 2 then .next (s.timerDue p k) else .next s

end Sys2Proof.Machine
end

