-- ==== Sys2Proof/Machine/Pace.lean ====
section
/-! DEFINITION. The rows of pace and of the voltage loop (03): windows, loop periods, AVSBus transactions, the ceiling. -/

namespace Sys2Proof.Machine

/-! ## Pace windows (R57 to R60) -/

/-- The window pace of C ring cycles given in 1/256 of a cycle: 4,096,000 / C, halves rounded up (R57); with C = 0 the pace is open (log
entry 131). -/
def windowPace (c256 : Nat) : Nat := if c256 = 0 then Config.stoppedPace else (2 * 1048576000 + c256) / (2 * c256)

/-- A pace step: more than 10 % from the mean of the previous 16 window paces (R60). -/
def paceStep (prev : List Nat) (p : Nat) : Bool :=
  let m := prev.take 16
  m.length == 16 && decide (m.sum < 10 * ((16 * (p : Int) - m.sum).natAbs))

/-- No Voltage write was issued from 20 µs before the window's start to its end, the latest multiple of 4,096 ns (R60). -/
def noRecentWrite (s : State) : Bool :=
  match s.bsn.lastVWrite with
  | some t => let e := s.now / 4096 * 4096; decide (t + 4096 + 20000 < e) || decide (e < t)
  | none => true

/-- The basin is powered: its monitor runs (R57, 03 BSN_PACE_n.PARKED). -/
def monitorRuns (x : Basin) : Bool := x.st != .off && x.st != .retired && x.st != .parked

/-- The end of a window on one basin, with its ring cycles. -/
def State.windowOn (s : State) (b c256 : Nat) : State :=
  let x := s.basin b
  if !monitorRuns x then s
  else
    let p := windowPace c256
    let stepped := paceStep x.windows p && noRecentWrite s
    let s1 := s.setBasin b { x with
      windowPs := p, windows := (p :: x.windows).take 16, sinceServe := if x.paced then x.sinceServe + 1 else x.sinceServe
      sinceStart := x.sinceStart + 1, fastest := if x.fastest = 0 then p else min x.fastest p }
    if stepped then (s1.vloopEvent 3).assertSource 12 else s1

/-- The ring cycles of a basin in a window, none where its ring did not run over the whole window. -/
def cyclesOn (cycles : List (Option Nat)) (n : Nat) : Option Nat := (cycles[n]?).join

/-- Some serving basin completed the window: it is measured (R58, R66). -/
def measured (s : State) (cycles : List (Option Nat)) : Bool := basinNums.any (fun n => (s.basin n).paced && (cyclesOn cycles n).isSome)

/-- DERATED over measured windows (R69). -/
def State.judge (s : State) (p : Nat) : State :=
  match s.lay.active with
  | none => { s with bsn := { s.bsn with derated := false, slowRun := 0, okRun := 0 } }
  | some l =>
    let slow := decide (l.floorPs < p)
    let held := s.bsn.voltage == s.bsn.ceil || s.bsn.avsFault
    let a := if slow && held then s.bsn.slowRun + 1 else 0
    let k := if slow then 0 else s.bsn.okRun + 1
    let s1 := { s with bsn := { s.bsn with slowRun := min 16 a, okRun := min 16 k } }
    if 16 ≤ a && !s.bsn.derated then
      let s2 := (({ s1 with bsn := { s1.bsn with derated := true } }).vloopEvent 1).gauMisc 2
      (s2.gaugeLog 11 12 s2.now (natLe 4 (s2.bsn.voltage % 1024 + bitNat (s2.bsn.voltage == s2.bsn.ceil) * 1024 + 2048
        + bitNat s2.bsn.avsFault * 4096 + bitNat s2.bsn.loopOn * 8192))).wakeUnparkable
    else if 16 ≤ k && s.bsn.derated then { s1 with bsn := { s1.bsn with derated := false } }
    else s1

/-- PACE_WINDOW (R57 to R60, R69): the counter has passed a multiple of 4,096 ns; ring cycles of basins 0 to 7 in 1/256 of a cycle. A
window that contains a counter step is discarded (R78). Credits are brought up to date under the old pace (R156) and the
work that runs is re-scaled to the new one (R159). -/
def execPaceWindow (cycles256 : List (Option Nat)) (s : State) : Host.Outcome State Fault Refusal :=
  if s.now / 4096 = s.bsn.windowMark then .next s
  else
    let s0 := { s with bsn := { s.bsn with windowMark := s.now / 4096, windowStep := false } }
    if s.bsn.windowStep then .next s0
    else
      let sw := basinNums.foldl (fun a n => match cyclesOn cycles256 n with | some c => a.windowOn n c | none => a) s0.accrueAll
      let s1 := (basinNums.foldl (fun a n => a.rescale n (s0.pace n)) sw).wakeForBacklog
      let p := s1.devicePace
      if !measured s cycles256 then .next s1
      else
        let s2 := { s1 with bsn := { s1.bsn with periodPaces := (p :: s1.bsn.periodPaces).take 16 } }
        .next (((s2.extreme 4 true (Int.ofNat p)).extreme 5 false (Int.ofNat p)).judge p)

/-! ## The voltage loop (R66 to R68) -/

/-- The command is a Voltage write. -/
def AvsCmd.isWrite : AvsCmd → Bool
  | .voltageWrite _ _ => true
  | _ => false

/-- Issue an AVSBus transaction on rail select 0 with its CRC, its n-th attempt (R64, R67). -/
def State.avsIssue (s : State) (c : AvsCmd) (n : Nat) : State :=
  let s1 := { s with bsn := { s.bsn with avs := some (c, n), lastVWrite := if c.isWrite then some s.now else s.bsn.lastVWrite } }
  s1.emit (.avs 0 c true)

/-- The target of a period's end and the new count of fast periods (R66). -/
def loopTarget (b : BsnState) : Nat × Nat :=
  let v := b.voltage
  if b.ceil < v then (b.ceil, 0)
  else if b.periodPaces.isEmpty then (v, b.fastPeriods)
  else
    let p := maxOf b.periodPaces
    match b.loopFloor with
    | none => (v, b.fastPeriods)
    | some fl =>
      if fl < p then (if v < b.ceil then min (v + 10) b.ceil else v, 0)
      else if 20 * p < 19 * fl then
        if 16 ≤ b.fastPeriods + 1 && decide (600 < v) then (max (v - 5) 600, 0) else (v, b.fastPeriods + 1)
      else (v, 0)

/-- LOOP_PERIOD (R63, R66): the counter has passed a multiple of 65,536 ns. The next period uses the floor of now, whether or not the loop
runs yet; in a period that began without a Layout there is no floor and no step (log entry 132). -/
def execLoopPeriod (s : State) : Host.Outcome State Fault Refusal :=
  if s.now / 65536 = s.bsn.periodMark then .next s
  else
    let s0 := { s with bsn := { s.bsn with
      periodMark := s.now / 65536, periodPaces := [], loopFloor := s.lay.active.map (·.floorPs)
      readDue := if s.bsn.loopOn then some (s.now + 32000) else none } }
    let r := loopTarget s.bsn
    let base := s0
    if !s.bsn.loopOn || s.bsn.avsFault || s.bsn.avs.isSome then .next base
    else
      let s1 := { base with bsn := { base.bsn with fastPeriods := r.2 } }
      .next (if r.1 = s.bsn.voltage then s1 else s1.avsIssue (.voltageWrite r.1 true) 1)

/-- AVS_READ_BACK (R66, R67): 32 µs after a period's end. -/
def execAvsReadBack (s : State) : Host.Outcome State Fault Refusal :=
  match s.bsn.readDue with
  | none => .next s
  | some t =>
    if s.now < t || s.bsn.avs.isSome then .next s
    else .next (({ s with bsn := { s.bsn with readDue := none } }).avsIssue .voltageRead 1)

/-- AVS_FAULT sets. -/
def State.setAvsFault (s : State) : State :=
  if s.bsn.avsFault then s else ({ s with bsn := { s.bsn with avsFault := true, avsGood := 0 } }).vloopEvent 2

/-- A successful Voltage write (R66 to R68). -/
def State.avsWritten (s : State) (mv : Nat) : State :=
  let s1 := { s with bsn := { s.bsn with avs := none, voltage := mv } }
  if mv = s1.bsn.ceil then s1.vloopEvent 0 else s1

/-- A successful Voltage read (R67), with the extremes of VDD_CORE (R516). -/
def State.avsWasRead (s : State) (mv : Nat) : State :=
  let near := decide (mv ≤ s.bsn.voltage + 20) && decide (s.bsn.voltage ≤ mv + 20)
  let bad := if near then 0 else s.bsn.avsBad + 1
  let good := if near then s.bsn.avsGood + 1 else 0
  let s1 := { s with bsn := { s.bsn with avs := none, vddRead := mv % 65536, avsBad := min 4 bad, avsGood := min 16 good } }
  let s2 := s1.extreme 2 true (Int.ofNat mv)
  let s3 := if basinNums.any (fun n => (s2.basin n).serving) then s2.extreme 3 false (Int.ofNat mv) else s2
  if 4 ≤ bad then s3.setAvsFault
  else if 16 ≤ good && s3.bsn.avsFault then { s3 with bsn := { s3.bsn with avsFault := false } }
  else s3

/-- A transaction that succeeds. R64 names the Status read command and no moment at which it is used: one follows each Voltage read, and its answer
changes nothing (DESIGN CHOICE, log entry 133). -/
def State.avsDone (s : State) (c : AvsCmd) (v : Nat) : State :=
  match c with
  | .voltageWrite mv _ => s.avsWritten mv
  | .voltageRead => (s.avsWasRead v).avsIssue .statusRead 1
  | .statusRead => { s with bsn := { s.bsn with avs := none } }

/-- A transaction that fails is retried up to three times, then AVS_FAULT sets (R67). -/
def State.avsFailed (s : State) (c : AvsCmd) (n : Nat) : State :=
  if n < 4 then s.avsIssue c (n + 1) else ({ s with bsn := { s.bsn with avs := none, avsGood := 0 } }).setAvsFault

/-- AVS_TRANSACTION_END (R67): a response, or a failure. -/
def execAvsTransactionEnd (r : AvsEnd) (s : State) : Host.Outcome State Fault Refusal :=
  match s.bsn.avs with
  | none => .next s
  | some (c, n) =>
    match r with
    | .ok v => .next (s.avsDone c v)
    | .crcError => .next (s.avsFailed c n)
    | .noResponse => .next (s.avsFailed c n)

/-- AVS_CEIL_WRITE (R10, R68): a write of BSN_AVS_CEIL by PF0. -/
def execAvsCeilWrite (f : FnId) (v : BitVec 32) (s : State) : Host.Outcome State Fault Refusal :=
  let mv := bitsAt v.toNat 0 10
  if isPf0 f && s.fnExists f && s.lockable && decide (720 ≤ mv) && decide (mv ≤ 900) then .next { s with bsn := { s.bsn with ceil := mv } } else .next s

end Sys2Proof.Machine
end

