-- ==== Sys2Proof/Machine/Passport.lean ====
section
/-! DEFINITION. The unit passport (25): PASSPORT.WRITE, the commit of staged blocks, and the ISO/IEC 15693 tag. -/

namespace Sys2Proof.Machine

/-! ## Counters (R552) -/

/-- The copy that holds a counter's value: the valid one whose SEQ is later in 16-bit serial order; false the first, true the second. -/
def counterHolder (p : Option PspCopy × Option PspCopy) : Option (Bool × PspCopy) :=
  match p with
  | (some a, some b) => if (b.seq + 65536 - a.seq) % 65536 < 32768 && a.seq ≠ b.seq then some (true, b) else some (false, a)
  | (some a, none) => some (false, a)
  | (none, some b) => some (true, b)
  | (none, none) => none

/-- The two copies of a counter record. -/
def counterOf (s : State) (rec_ : Nat) : Option PspCopy × Option PspCopy := tabGet s.psp.counters rec_ (none, none)

/-- A counter's value, 0 where neither copy is valid. -/
def counterValue (s : State) (rec_ : Nat) : Nat := match counterHolder (counterOf s rec_) with | some h => h.2.value | none => 0

/-- INCREMENT into the copy that does not hold the present value, with SEQ + 1. -/
def State.bumpCounter (s : State) (rec_ amount : Nat) : State :=
  let p := counterOf s rec_
  let x : PspCopy := { value := min 0xFFFFFFFF (counterValue s rec_ + amount)
                       seq := ((match counterHolder p with | some h => h.2.seq | none => 0) + 1) % 65536 }
  let q := match counterHolder p with | some (false, _) => (p.1, some x) | _ => (some x, p.2)
  { s with psp := { s.psp with counters := tabSet s.psp.counters rec_ q } }

/-! ## Wire writes (R555 to R557) -/

/-- The wire target of a PASSPORT.WRITE: a record, or 64 and 65 for the passwords. -/
def wireTarget (c : Cmd) : Nat := if param c.desc 1 1 = 3 then 64 + param c.desc 0 1 else param c.desc 0 1

/-- What it stages. -/
def wireContent (c : Cmd) : Bytes :=
  let o := param c.desc 1 1
  if o = 0 then c.input else if o = 1 then [] else if o = 2 then paramBytes c.desc 4 4 else paramBytes c.desc 8 8

/-- The command's blocks are already staged or waiting. -/
def wireUnderWay (s : State) (t : Nat) : Bool :=
  s.psp.staged.any (fun x => x.1 == t) || s.psp.busy.any (fun x => x.1 == t) || s.psp.updating.contains t

/-- Start a PASSPORT.WRITE of an OP: its blocks are staged; it completes when the last has committed. -/
def State.passportWrite (s : State) (e op : Nat) : State :=
  match s.ready e (· == 0x0550) with
  | none => s
  | some c => if param c.desc 1 1 ≠ op || wireUnderWay s (wireTarget c) then s else s.stageWire (wireTarget c) (wireContent c)

/-- PASSPORT_RECORD_WRITE (R557): OP 0. -/
def execPassportRecordWrite (e : Nat) (s : State) : Host.Outcome State Fault Refusal := .next (s.passportWrite e 0)

/-- ERASE_NOTES (R557): OP 1. -/
def execEraseNotes (e : Nat) (s : State) : Host.Outcome State Fault Refusal := .next (s.passportWrite e 1)

/-- PASSPORT_INCREMENT (R552, R557): OP 2. -/
def execPassportIncrement (e : Nat) (s : State) : Host.Outcome State Fault Refusal := .next (s.passportWrite e 2)

/-- SET_PASSWORD (R551, R557): OP 3. -/
def execSetPassword (e : Nat) (s : State) : Host.Outcome State Fault Refusal := .next (s.passportWrite e 3)

/-- The content of a wire write is in the FRAM. -/
def State.wireTakes (s : State) (t : Nat) (content : Bytes) : State :=
  let p := s.psp
  if t ≤ 15 then { s with psp := { p with records := if content.isEmpty then tabDel p.records t else tabSet p.records t content } }
  else if t ≤ 31 then { s with psp := { p with notes := tabDel p.notes t } }
  else if t ≤ 47 then s.bumpCounter t (leNat content)
  else if t ≤ 65 then { s with psp := { p with pws := tabSet p.pws (t - 64) content, fails := tabDel p.fails (t - 64) } }
  else { s with psp := { p with view := BitVec.ofNat 64 (leNat content) } }

/-- The management command whose last block has committed completes (R557). -/
def State.wireDone (s : State) (t : Nat) : State :=
  match s.slu.mgmt with
  | [] => s
  | e :: _ =>
    match s.ready e (· == 0x0550) with
    | none => s
    | some c =>
      if wireTarget c = t then s.finish e { result := if param c.desc 1 1 = 2 then natLe 4 (counterValue s t) else [] } else s

/-- Commit the oldest staged block (R556): the record is UPDATING from its first block to its last. -/
def State.commitWire (s : State) : State :=
  match s.psp.staged with
  | [] => s
  | (t, first, last, content, _) :: r =>
    let marks := s.psp.updating.filter (· != t)
    let s1 := { s with psp := { s.psp with
      staged := r.map (fun x => (x.1, x.2.1, x.2.2.1, x.2.2.2.1, s.now))
      updating := if last then marks else if first then t :: marks else s.psp.updating } }
    if last then (s1.wireTakes t content).wireDone t else s1

/-- The response and the write of the last request are over (log entry 30). -/
def State.fieldRests (s : State) : State := { s with psp := { s.psp with fieldBusy := false } }

/-- STAGED_BLOCK_COMMIT (R556). -/
def execStagedBlockCommit (s : State) : Host.Outcome State Fault Refusal := .next s.fieldRests.commitWire

/-- FORCED_COMMIT (R556): staged blocks have waited 5 ms while the field is on. -/
def execForcedCommit (s : State) : Host.Outcome State Fault Refusal :=
  match s.psp.staged with
  | [] => .next s
  | (_, _, _, _, t) :: _ => if s.psp.field && decide (t + 5000000 ≤ s.now) then .next (s.fieldRests.commitWire.pspEvent 4) else .next s

/-- WIRE_BUSY_RETRY (R555): the oldest wire access answered BUSY is tried again after 100 µs. -/
def execWireBusyRetry (s : State) : Host.Outcome State Fault Refusal :=
  match s.psp.busy with
  | [] => .next s
  | (t, content, at_) :: r =>
    if s.now < at_ then .next s
    else
      let s1 := s.fieldRests
      .next (({ s1 with psp := { s1.psp with busy := r } }).stageWire t content)

/-! ## The tag (R546 to R554) -/

/-- The tag's UID (R547). -/
def tagUid (s : State) : BitVec 64 :=
  BitVec.ofNat 64 (0xE0 * 2 ^ 56 + s.psp.mfr.toNat * 2 ^ 48 + s.fnt.serial % 2 ^ 48)

/-- The tag processes a request: the field is on, the rate is supported, and the mode names it; a quiet tag answers addressed requests
alone (ISO/IEC 15693). -/
def tagHears (s : State) (r : TagReq) : Bool :=
  s.psp.field && r.highRate &&
    (match r.mode with
     | .nonAddressed => !s.psp.quiet
     | .addressed u => u == tagUid s
     | .selected => s.psp.selected)

/-- A custom command is accepted in addressed or selected mode (R548). -/
def customHears (s : State) (r : TagReq) : Bool := tagHears s r && r.mode != .nonAddressed

/-- Answer a request; the field owns the FRAM while it does (R555). -/
def State.tagSay (s : State) (err : Option Nat) (body : Bytes) : State :=
  ({ s with psp := { s.psp with fieldBusy := true } }).emit (.tagReply err body)

/-- FIELD_ON (R538). -/
def execFieldOn (s : State) : Host.Outcome State Fault Refusal :=
  if s.psp.field then .next s else .next (({ s with psp := { s.psp with field := true, quiet := false, selected := false, auth := 0 } }).pspEvent 0)

/-- FIELD_LOST (R538, R551): the tag is off and its authorisations end; the reader's quiet second begins. -/
def execFieldLost (s : State) : Host.Outcome State Fault Refusal :=
  .next { s with
    psp := { s.psp with field := false, quiet := false, selected := false, auth := 0, fieldBusy := false }
    cls := { s.cls with extField := false, quietFrom := if s.cls.mode = 3 then some s.now else s.cls.quietFrom } }

/-- INVENTORY (R546, R547): a tag that is not quiet answers where the mask, and with 16 slots the slot number, match its UID. -/
def execInventory (r : TagReq) (mask : BitVec 64) (maskLen : Nat) (slot : Option Nat) (s : State) : Host.Outcome State Fault Refusal :=
  let u := (tagUid s).toNat
  let n := min maskLen 64
  let fits := u % 2 ^ n == mask.toNat % 2 ^ n && (match slot with | some k => u / 2 ^ n % 16 == k | none => true)
  if s.psp.field && r.highRate && !s.psp.quiet && fits then .next (s.tagSay none (0 :: natLe 8 u)) else .next s

/-- STAY_QUIET (R546, R551): no response; the authorisations end. -/
def execStayQuiet (r : TagReq) (s : State) : Host.Outcome State Fault Refusal :=
  if tagHears s r && r.mode != .nonAddressed then .next { s with psp := { s.psp with quiet := true, selected := false, auth := 0 } } else .next s

/-- SELECT (R546): the tag addressed becomes selected, another leaves the selected state. -/
def execSelect (r : TagReq) (s : State) : Host.Outcome State Fault Refusal :=
  match r.mode with
  | .addressed u =>
    if !(s.psp.field && r.highRate) then .next s
    else if u = tagUid s then .next (({ s with psp := { s.psp with selected := true, quiet := false } }).tagSay none [])
    else .next { s with psp := { s.psp with selected := false } }
  | _ => .next s

/-- RESET_TO_READY (R546, R551). -/
def execResetToReady (r : TagReq) (s : State) : Host.Outcome State Fault Refusal :=
  if tagHears s r then .next (({ s with psp := { s.psp with quiet := false, selected := false, auth := 0 } }).tagSay none []) else .next s

/-- GET_SYSTEM_INFORMATION (R546): the UID, 16 blocks of 4 bytes, no AFI and no DSFID. -/
def execGetSystemInformation (r : TagReq) (s : State) : Host.Outcome State Fault Refusal :=
  if tagHears s r then .next (s.tagSay none (natLe 1 4 ++ natLe 8 (tagUid s).toNat ++ natLe 1 15 ++ natLe 1 3)) else .next s

/-- Record 0 as the blocks show it. -/
def identityBlocks (s : State) : Bytes := padTo 64 (tabGet s.psp.records 0 [])

/-- READ_SINGLE_BLOCK (R546): ISO/IEC 15693's code 0x10 for a block that does not exist. -/
def execReadSingleBlock (r : TagReq) (block : Nat) (s : State) : Host.Outcome State Fault Refusal :=
  if !tagHears s r then .next s
  else if block < 16 then .next (s.tagSay none (slice (identityBlocks s) (4 * block) 4))
  else .next (s.tagSay (some 0x10) [])

/-- READ_MULTIPLE_BLOCKS (R546). -/
def execReadMultipleBlocks (r : TagReq) (first count : Nat) (s : State) : Host.Outcome State Fault Refusal :=
  if !tagHears s r then .next s
  else if 1 ≤ count && first + count ≤ 16 then .next (s.tagSay none (slice (identityBlocks s) (4 * first) (4 * count)))
  else .next (s.tagSay (some 0x10) [])

/-- A record is visible to the field (R550). -/
def visible (s : State) (rec_ : Nat) : Bool := rec_ ≤ 1 || s.psp.view.getLsbD rec_

/-- A note record's 512 bytes (R553). -/
def noteBytes (s : State) (rec_ : Nat) : Bytes :=
  padTo 512 (((tabGet s.psp.notes rec_ []).map (fun p =>
    let b := natLe 2 p.1 ++ padTo 12 p.2
    b ++ natLe 2 (Config.crc16 b))).flatten)

/-- A record's content as the field reads it. -/
def recordContent (s : State) (rec_ : Nat) : Bytes :=
  if rec_ ≤ 1 then padTo 64 (tabGet s.psp.records rec_ [])
  else if rec_ ≤ 15 then tabGet s.psp.records rec_ []
  else if rec_ ≤ 31 then noteBytes s rec_
  else if rec_ ≤ 47 then natLe 4 (counterValue s rec_)
  else []

/-- GET_DIRECTORY (R548, R549): 64 lengths, 0 for an invisible record. -/
def execGetDirectory (r : TagReq) (s : State) : Host.Outcome State Fault Refusal :=
  if customHears s r then
    .next (s.tagSay none (((List.range 64).map (fun i => natLe 2 (if visible s i then (recordContent s i).length else 0))).flatten))
  else .next s

/-- READ_RECORD (R548, R550, R556). -/
def execReadRecord (r : TagReq) (rec_ off len : Nat) (s : State) : Host.Outcome State Fault Refusal :=
  if !customHears s r then .next s
  else if 48 ≤ rec_ || len = 0 || 128 < len then .next (s.tagSay (some 0xA7) [])
  else if !visible s rec_ then .next (s.tagSay (some 0xA1) [])
  else if s.psp.updating.contains rec_ then .next (s.tagSay (some 0xA2) [])
  else if (recordContent s rec_).length < off + len then .next (s.tagSay (some 0xA7) [])
  else .next (s.tagSay none (slice (recordContent s rec_) off len))

/-- The failure count of a password changes. -/
def State.setFails (s : State) (pw n : Nat) : State := { s with psp := { s.psp with fails := tabSet s.psp.fails pw n } }

/-- AUTH after its first step (R551): the count rises before the comparison; a mismatch answers AUTH_REQUIRED (log entry 31). -/
def State.tagAuth (s : State) (pw : Nat) (password : Bytes) : State :=
  let n := tabGet s.psp.fails pw 0 + 1
  if password = tabGet s.psp.pws pw [] then
    let s1 := s.setFails pw 0
    ({ s1 with psp := { s1.psp with auth := s1.psp.auth ||| BitVec.ofNat 2 (2 ^ pw) } }).tagSay none []
  else
    let s1 := (s.setFails pw n).pspEvent 2
    (if n = 8 then s1.pspEvent 3 else s1).tagSay (some 0xA3) []

/-- AUTH (R551, R554). -/
def execAuth (r : TagReq) (pw : Nat) (password : Bytes) (s : State) : Host.Outcome State Fault Refusal :=
  if !customHears s r then .next s
  else if 2 ≤ pw then .next (s.tagSay (some 0xA7) [])
  else if allZero (tabGet s.psp.pws pw []) || 8 ≤ tabGet s.psp.fails pw 0 then .next (s.tagSay (some 0xA4) [])
  else if !r.energy then .next (s.tagSay (some 0xA5) [])
  else .next (s.tagAuth pw password)

/-- APPEND_NOTE (R548, R551, R553, R554). -/
def execAppendNote (r : TagReq) (rec_ : Nat) (text : Bytes) (s : State) : Host.Outcome State Fault Refusal :=
  let l := tabGet s.psp.notes rec_ []
  if !customHears s r then .next s
  else if rec_ < 16 || 31 < rec_ then .next (s.tagSay (some 0xA7) [])
  else if !s.psp.auth.getLsbD 0 then .next (s.tagSay (some 0xA3) [])
  else if s.psp.updating.contains rec_ then .next (s.tagSay (some 0xA2) [])
  else if 32 ≤ l.length then .next (s.tagSay (some 0xA6) [])
  else if !r.energy then .next (s.tagSay (some 0xA5) [])
  else
    let i := ((l.map (·.1)).foldl max 0 + 1) % 65536
    let s1 := { s with psp := { s.psp with notes := tabSet s.psp.notes rec_ (l ++ [(i, padTo 12 text)]) } }
    .next ((s1.pspEvent 1).tagSay none (natLe 2 i))

/-- INCREMENT (R548, R551, R552, R554). -/
def execIncrement (r : TagReq) (rec_ amount : Nat) (s : State) : Host.Outcome State Fault Refusal :=
  if !customHears s r then .next s
  else if rec_ < 32 || 47 < rec_ || amount = 0 || 255 < amount then .next (s.tagSay (some 0xA7) [])
  else if !s.psp.auth.getLsbD 1 then .next (s.tagSay (some 0xA3) [])
  else if !r.energy then .next (s.tagSay (some 0xA5) [])
  else
    let s1 := (s.bumpCounter rec_ amount).pspEvent 1
    .next (s1.tagSay none (natLe 4 (counterValue s1 rec_)))

/-- UNSUPPORTED_TAG_COMMAND (R546): error code 0x01. -/
def execUnsupportedTagCommand (r : TagReq) (_code : Nat) (s : State) : Host.Outcome State Fault Refusal :=
  if tagHears s r then .next (s.tagSay (some 1) []) else .next s

end Sys2Proof.Machine
end

