-- ==== Sys2Proof/Machine/Ports.lean ====
section
/-! DEFINITION. The rows of ports and functions (05, 26): links, PERST, holds, re-attach, function-level resets, VFs, power states,
IDE and the DOE mailbox. -/

namespace Sys2Proof.Machine

/-! ## Links (R114, R563, R564) -/

/-- The port exists: B does not in x16 mode (R97). -/
def State.portExists (s : State) (port : Bool) : Bool := !(s.x16 && port)

/-- LINK_DOWN (R114): the link trains again unless PERST holds it. -/
def execLinkDown (port : Bool) (s : State) : Host.Outcome State Fault Refusal :=
  if (s.port port).linkUp then
    let s1 := s.linkLost port
    .next (s1.setPort port { s1.port port with training := !(s1.port port).perst })
  else .next s

/-- LINK_UP (R107, R563): DL_Active; PEER_UP in every function of the other port; a retrain counts in Gauge (R516). -/
def execLinkUp (port : Bool) (rate width : Nat) (s : State) : Host.Outcome State Fault Refusal :=
  let p := s.port port
  if !p.training || p.linkUp || p.perst || !s.portExists port || s.pwr.por then .next s
  else
    let s1 := s.setPort port { p with linkUp := true, rate := rate, width := width, ideSecure := false, training := false, wasUp := true }
    let s2 := if p.wasUp then s1.gauLink port 2 else s1
    .next ((if s2.x16 then [] else s2.functions (!port)).foldl (fun a f => a.fnEvent f 1) s2)

/-- PERST_ASSERT (R114, R564): the link and the configuration space reset; the mirror ring through the port stops. Ignored on port B in
x16 mode. -/
def execPerstAssert (port : Bool) (s : State) : Host.Outcome State Fault Refusal :=
  if !s.portExists port then .next s
  else
    let s1 := s.linkLost port
    let s2 := s1.setPort port { s1.port port with perst := true, training := false, vfEnable := false, numVfs := 0 }
    let s3 := { s2 with fns := s2.fns.map (fun (x : Nat × FnState) => if x.1 / 32 = portNum port then (x.1, { x.2 with aerStatus := 0, aerHeader := [] }) else x) }
    .next (if s3.vlt.mirrorPort == port then { s3 with vlt := { s3.vlt with mirrorEn := false } } else s3)

/-- PERST_DEASSERT (R563): the port trains. -/
def execPerstDeassert (port : Bool) (s : State) : Host.Outcome State Fault Refusal :=
  let p := s.port port
  if p.perst && s.portExists port then .next (s.setPort port { p with perst := false, training := !s.pwr.por }) else .next s

/-! ## Holds and re-attach (R115 to R119) -/

/-- HOLD_EXPIRED (R115): 1,000 ms from the loss. -/
def execHoldExpired (f : FnId) (q : Nat) (s : State) : Host.Outcome State Fault Refusal :=
  match (s.queue f q).detachedAt with
  | none => .next s
  | some t =>
    if s.now < t + 1000000000 then .next s
    else
      let s1 := s.destroyQueue f q
      .next (match s1.peer f with | some g => s1.fnEvent g 4 | none => s1)

/-- The completions of the source that its window's tags still name: retained for 250 ms from the re-attach; held commands' tags
leave (R114, R116, R144; log entry 35). -/
def movedWindow (x : Queue) (t : Nat) : List (BitVec 64 × TagState) :=
  let heldTags := x.order.filterMap (fun it => match it with | .held _ d _ => some (tagOf d) | _ => none)
  let w := (x.window.filter (fun p => !heldTags.contains p.1)).map (fun (p : BitVec 64 × TagState) =>
    match p.2 with | .retained c _ => (p.1, TagState.retained c (t + retentionNs)) | _ => p)
  (x.toPost.filter (·.windowed)).foldl (fun a c => windowSet a c.tag (.retained c (t + retentionNs))) w

/-- A held write with the requester of the destination. -/
def reroute (f : FnId) (q : Nat) : Out → Out
  | .hostWrite _ _ _ a r bs => .hostWrite f.port f (some q) a r bs
  | o => o

/-- The move of R116 from one queue to another. -/
def State.moveQueue (s : State) (g : FnId) (sq : Nat) (f : FnId) (dq : Nat) : State :=
  let x := s.queue g sq
  let y := s.queue f dq
  let mine (c : Cmd) : Bool := c.fn == g && c.q == sq
  let s1 := x.heldOut.foldl (fun a o => a.emit (reroute f dq o.out)) s
  let s2 := { s1 with
    queues := tabDel s1.queues (qKey g sq)
    slu := { s1.slu with retire := s1.slu.retire.map (fun (p : Nat × Cmd) => if mine p.2 then (p.1, { p.2 with fn := f, q := dq, moved := true, staged := 0 }) else p) } }
  let s3 := s2.setQueue f dq { y with
    window := (movedWindow x s.now ++ y.window).take 4096
    order := x.order.filter (fun it => match it with | .cmd _ => true | _ => false) ++ y.order }
  s3.slu.retire.foldl (fun a p =>
    if p.2.fn == f && p.2.q == dq && p.2.moved && p.2.phase == .running && p.2.status.isNone && !p.2.readsStopped then
      (if !p.2.listsDone then a.readAll p.2 (listReads p.2) else if !p.2.inputDone then a.readAll p.2 (inExtents p.2) else a)
    else a) s3

/-- The result of a re-attach (R118). -/
def reattachResult (s : State) (f : FnId) (g : Option FnId) (sq dq : Nat) : Nat :=
  match g with
  | none => 3
  | some h =>
    let y := s.queue f dq
    if !(s.queue h sq).detached then 1
    else if !(s.queuePairs f > dq) || !y.enabled || !y.idle || y.detached || y.sqHead != y.sqTail then 2
    else 0

/-- The source function of a re-attach that a function asked for. -/
def State.reattachFrom (s : State) (f : FnId) : Option FnId := if (s.fn f).reattach.getLsbD 6 then some f else s.peer f

/-- The re-attach under way in a function completes (R116, R118): STATE leaves BUSY and GO clears. -/
def State.finishReattach (s : State) (f : FnId) : State :=
  let x := s.fn f
  let v := x.reattach.toNat
  let g := s.reattachFrom f
  let r := reattachResult s f g (bitsAt v 0 6) (bitsAt v 8 6)
  let s1 := s.setFn f { x with reattach := x.reattach &&& 0x7FFFFFFF, reState := if r = 0 then 2 else 3, reResult := r }
  match g with
  | some h => if r = 0 then (s1.moveQueue h (bitsAt v 0 6) f (bitsAt v 8 6)).fnEvent f 2 else s1
  | none => s1

/-- Every re-attach under way completes: at the first tick after its request (log entry 36). -/
def State.reattachDue (s : State) : State :=
  (s.fns.filter (fun p => p.2.reState == 1)).foldl (fun a p => a.finishReattach (fnOfKey p.1)) s

/-- REATTACH (R116 to R119): a write of WEL_REATTACH; with GO it is BUSY until the device has moved the queue, and a write meanwhile is
discarded. -/
def execReattach (f : FnId) (v : BitVec 32) (s : State) : Host.Outcome State Fault Refusal :=
  if !s.fnExists f || (s.fn f).resetting || !(s.port f.port).linkUp || (s.fn f).reState == 1 then .next s
  else
    let x := s.fn f
    let y := { x with reattach := v &&& 0x80003F7F }
    .next (s.setFn f (if v.getLsbD 31 then { y with reState := 1, reResult := 0 } else y))

/-! ## Function-level resets and VFs (R98, R110 to R113) -/

/-- FUNCTION_LEVEL_RESET (R110). -/
def execFunctionLevelReset (f : FnId) (s : State) : Host.Outcome State Fault Refusal :=
  if s.fnExists f then .next (s.flr f false) else .next s

/-- FLR_COMPLETE (R110 steps 5 to 7, R113). -/
def execFlrComplete (f : FnId) (s : State) : Host.Outcome State Fault Refusal :=
  if (s.fn f).resetting && cascadesClear s f then .next (s.flrEnd f) else .next s

/-- VF_ENABLE_SET (R98). -/
def execVfEnableSet (port : Bool) (numVfs : Nat) (s : State) : Host.Outcome State Fault Refusal :=
  let p := s.port port
  if p.linkUp && !p.vfEnable && s.portExists port && decide (1 ≤ numVfs) && decide (numVfs ≤ 31) then
    .next (s.setPort port { p with vfEnable := true, numVfs := numVfs })
  else .next s

/-- VF_ENABLE_CLEAR (R98): a host write, with the effect of an FLR of every VF. -/
def execVfEnableClear (port : Bool) (s : State) : Host.Outcome State Fault Refusal :=
  if (s.port port).vfEnable then .next (s.resetVfs port) else .next s

/-! ## Power states (R566, R568) -/

/-- The function has an unreported event or completion. -/
def unreported (s : State) (f : FnId) : Bool :=
  (s.fn f).event.flags != 0 || s.queues.any (fun p => p.1 / 64 == fnKey f && (!p.2.toPost.isEmpty || !p.2.heldOut.isEmpty))

/-- Deliver what the queues of a function held back. -/
def State.deliverHeld (s : State) (f : FnId) : State :=
  queueNums.foldl (fun a q =>
    let x := a.queue f q
    if x.heldOut.isEmpty || a.holds f q then a
    else x.heldOut.foldl (fun (b : State) o => b.emit o.out) (a.setQueue f q { x with heldOut := [], heldWindow := 0 })) s

/-- POWER_STATE_CHANGE (R566, R568). -/
def execPowerStateChange (f : FnId) (d3hot : Bool) (s : State) : Host.Outcome State Fault Refusal :=
  if !s.fnExists f || !(s.port f.port).linkUp || (s.fn f).d3hot == d3hot then .next s
  else
    let s1 := s.setFn f { s.fn f with d3hot := d3hot }
    if d3hot then .next (if unreported s1 f then s1.wakeFor f else s1)
    else
      let s2 := (s1.deliverHeld f).sendPending f
      let asleep := (s2.functions false ++ s2.functions true).any (fun g => (s2.fn g).d3hot && unreported s2 g)
      .next { s2 with pwr := { s2.pwr with wake := asleep } }

/-! ## IDE and the DOE mailbox (R94, R108, R483) -/

/-- IDE_CHECK_FAILURE (R108): reported through AER, counted, and the stream leaves the secure state. -/
def execIdeCheckFailure (port : Bool) (s : State) : Host.Outcome State Fault Refusal :=
  let p := s.port port
  if p.linkUp && p.ideSecure then .next (((s.setPort port { p with ideSecure := false, ideGo := [] }).gauLink port 3).aerError ⟨port, 0⟩ 28) else .next s

/-- The DOE mailbox of a port's PF0 answers. -/
def doeUp (s : State) (port : Bool) : Bool := (s.port port).linkUp && s.fnExists ⟨port, 0⟩

/-- Answer a DOE message: bytes the spec gives, then an open value (log entry 1); IRQ 1 of the Fountainhead pair (R450). -/
def State.doeReply (s : State) (port : Bool) (head : Bytes) : State :=
  ({ (s.irq 8 1) with freeCtr := s.freeCtr + 1 }).emit (.doe port (head ++ Config.freeRaw s.freeCtr 0))

/-- The key that an IDE_KM message names: key set, direction and sub-stream, one byte (PRESUMED from the base specification, log entry 37). -/
def ideKeyOf (msg : Bytes) : Nat := field msg 6 1 % 4 + field msg 6 1 / 16 * 4

/-- Every sub-stream of a key set is in use in both directions. -/
def ideWhole (go : List Nat) (set : Nat) : Bool := [0, 2, 4, 6, 8, 10].all (fun k => go.contains (k + set))

/-- What an IDE_KM message does to the port's stream: KEY_PROG holds a key, K_SET_GO puts a held key in use and, once all of a key set are,
the stream into the secure state, K_SET_STOP takes it out. -/
def PortState.ideKm (p : PortState) (msg : Bytes) : PortState :=
  let o := field msg 1 1
  let k := ideKeyOf msg
  if o = 2 then { p with ideKeys := (k :: p.ideKeys).eraseDups }
  else if o = 4 && p.ideKeys.contains k then
    let go := (k :: p.ideGo).eraseDups
    { p with ideGo := go, ideSecure := p.ideSecure || ideWhole go (k % 2) }
  else if o = 5 then { p with ideSecure := false, ideGo := p.ideGo.filter (· != k) }
  else p

/-- IDE_KM_MESSAGE (R108): acts only inside an SPDM secure session, outside which the message only arrives (R450); object codes PRESUMED from the base specification (log entry 37). -/
def execIdeKmMessage (port : Bool) (msg : Bytes) (s : State) : Host.Outcome State Fault Refusal :=
  if !doeUp s port then .next s
  else if (s.port port).spdm != 2 then .next (s.irq 8 1)
  else
    let o := field msg 1 1
    let code := if o = 0 then 1 else if o = 2 then 3 else 6
    .next ((s.setPort port ((s.port port).ideKm msg)).doeReply port [0, BitVec.ofNat 8 code])

/-- The response code of an SPDM request code (PRESUMED from SPDM 1.2, log entry 37); 0x7F is ERROR. -/
def spdmCode (s : State) (c : Nat) : Nat :=
  if c = 0x82 then (if s.life = 3 then 0x02 else 0x7F)
  else if [0x81, 0x83, 0x84, 0xE0, 0xE1, 0xE3, 0xE4, 0xE5, 0xE9, 0xEC].contains c then c - 0x80
  else 0x7F

/-- The session state after a request: KEY_EXCHANGE, then FINISH, opens the secure session; END_SESSION ends it. -/
def spdmNext (x c : Nat) : Nat := if c = 0xE4 then 1 else if c = 0xE5 && x = 1 then 2 else if c = 0xEC then 0 else x

/-- SPDM_MESSAGE (R108, R483): GET_MEASUREMENTS has an empty set; GET_CERTIFICATE is an error until the device is OWNED. -/
def execSpdmMessage (port : Bool) (msg : Bytes) (s0 : State) : Host.Outcome State Fault Refusal :=
  if !doeUp s0 port then .next s0
  else
    let s := s0.setPort port { s0.port port with spdm := spdmNext (s0.port port).spdm (field msg 1 1) }
    let c := spdmCode s (field msg 1 1)
    .next (s.doeReply port ([0x12, BitVec.ofNat 8 c] ++ (if c = 0x60 then [0, 0, 0, 0, 0, 0] else [])))

/-- DOE_DISCOVERY (R94): Discovery, SPDM and secured SPDM (which carries IDE_KM), by index; the layout is PRESUMED from the base
specification (log entry 37). -/
def execDoeDiscovery (port : Bool) (index : Nat) (s : State) : Host.Outcome State Fault Refusal :=
  if !doeUp s port then .next s
  else
    let r : Bytes := if index ≤ 2 then [0x01, 0x00, BitVec.ofNat 8 index, BitVec.ofNat 8 ((index + 1) % 3)] else [0xFF, 0xFF, 0, 0]
    .next ((s.irq 8 1).emit (.doe port r))

end Sys2Proof.Machine
end

