-- ==== Sys2Proof/Machine/Power.lean ====
section
/-! DEFINITION. Power-up and the device's resets (26): the rails, the boot and the board-management reset. -/

namespace Sys2Proof.Machine

/-- POWER_ON_RESET (R560, R564): a rail of groups 2 to 4 leaves its window and the reset is held. Rails are numbered in the order of
R559: 0 VBAT, which holds no reset; 3 VDD_CORE, whose excursion records VCORE_WINDOW first. `x16` is the strap's level. -/
def execPowerOnReset (rail : Nat) (x16 : Bool) (s : State) : Host.Outcome State Fault Refusal :=
  if rail = 0 || 9 ≤ rail then .next s
  else
    let s1 := if rail = 3 && s.pwr.main then s.assertSource 8 else s
    let rails := s1.pwr.rails &&& ~~~ BitVec.ofNat 9 (2 ^ rail)
    let t := s1.powerReset
    .next { t with pwr := { t.pwr with por := true, rails := rails, x16 := x16 } }

/-- BOOT (R560 to R562): the reset is released 1 ms after every rail is inside its window and the sequence runs, to its boot state
or to a step that waits; a sequence that waits goes on. -/
def execBoot (s : State) : Host.Outcome State Fault Refusal :=
  if s.pwr.por || !s.pwr.main then
    .next (({ s with pwr := { s.pwr with por := false, main := true, rails := BitVec.allOnes 9, bootFrom := s.now } }).bootRun 13)
  else if s.fnt.op == .booting then .next (s.bootRun 13)
  else .next s

/-- WARM_DEVICE_RESET (R565, R567): a write to FNT_BRD_RESET; only the code 0x5752_5354 starts a reset, from step 2 of R561 on. -/
def execWarmDeviceReset (code : BitVec 32) (s : State) : Host.Outcome State Fault Refusal :=
  if code == 0x57525354 && s.pwr.main && !s.pwr.por && 2 ≤ s.pwr.bootStep then .next (s.warmReset.bootRun 13) else .next s

end Sys2Proof.Machine
end

