-- ==== Sys2Proof/Machine/HostRegs.lean ====
section
/-! DEFINITION. What BAR0 reads as: the identification header, the capability list, and the registers of every block at the
present moment, as (offset, bytes, value). -/

namespace Sys2Proof.Machine

/-! ## The identification header and the capabilities (R102 to R106) -/

/-- The header's fields (R102). -/
def headerRegs (s : State) (f : FnId) : List RegVal :=
  [(0x00, 4, 0x4C48584F), (0x04, 4, 1 + (if f.vf = 0 then 0 else 1) * 2 ^ 16 + portNum f.port * 2 ^ 24)
  , (0x08, 4, f.vf + (s.partOf f).getD 0 * 2 ^ 8 + bitNat s.x16 * 2 ^ 16), (0x0C, 4, 0x100), (0x10, 8, s.fnt.serial), (0x18, 4, 0xA0)
  , (0x1C, 4, (s.fn f).generation), (0x20, 8, match s.lay.active with | some l => l.serial | none => 0)]

/-- CORE (R105). -/
def coreRegs (s : State) (f : FnId) : List RegVal :=
  [(0x10, 4, s.fnt.op.code + (bitNat (decide (0 < s.queuePairs f)) + bitNat (s.fn f).resetting * 2) * 2 ^ 8), (0x14, 4, s.queuePairs f)
  , (0x18, 4, s.keeperFw), (0x1C, 4, s.fnt.running), (0x20, 4, s.lay.epoch)]

/-- The index of a PIN block format in PAIRS (R348). -/
def formatIndex (n : Nat) : Nat := if n = 0 then 0 else if n = 1 then 1 else if n = 3 then 2 else 3

/-- PAIRS, or PAIRS_DUKPT (R348). -/
def pairsMask (s : State) (dukpt : Bool) : Nat :=
  let l : List TransPair := match s.lay.active with | some l => l.translation | none => []
  let on (b : Nat) : Bool := l.any (fun t => (!dukpt || t.dukptIn) && 4 * formatIndex t.inFmt + formatIndex t.outFmt == b)
  ((List.range 16).map (fun b => bitNat (on b) * 2 ^ b)).sum

/-- PAYMENT (R348). -/
def paymentRegs (s : State) : List RegVal :=
  [(0x10, 4, 0x03030B1B), (0x14, 4, 16777216), (0x18, 4, 0x0303), (0x1C, 4, pairsMask s false + pairsMask s true * 2 ^ 16)]

/-- BULK (R371). -/
def bulkRegs : List RegVal :=
  [(0x10, 4, 0x07 + 65279 * 2 ^ 16), (0x14, 4, 268435456), (0x18, 4, 0x3707), (0x1C, 4, 65536), (0x20, 4, 4096 + 64 * 2 ^ 16), (0x24, 4, 1048576)
  , (0x28, 4, 262144)]

/-- TBS_STATUS (04). -/
def tbsStatus (s : State) : Nat :=
  let sy := match s.tbs.sync with | .free => 0 | .acquiring => 1 | .locked => 2 | .holdover => 3
  let edge := match s.tbs.lastEdge with | some t => decide (s.tbs.ran ≤ t + 2000000000) | none => false
  sy + bitNat s.tbs.refOk * 4 + bitNat s.tbs.continuity * 8 + bitNat edge * 16 + bitNat s.tbs.slewing * 32 + s.armed.length % 128 * 64

/-- GAUGE (R521). -/
def gaugeRegs (s : State) : List RegVal :=
  let oldest := match s.gau.events.getLast? with | some e => e.seq | none => 0
  [(0x10, 4, s.gau.acc.hours), (0x14, 4, s.gau.acc.cycles), (0x18, 4, s.gau.acc.lifePpm), (0x1C, 4, s.gau.summarySeq), (0x20, 4, s.gau.eventSeq)
  , (0x24, 4, oldest), (0x28, 4, (s.now - s.gau.commitAt) / 1000000000)]

/-- DUAL_PORT (R106). -/
def dualRegs (s : State) (f : FnId) : List RegVal :=
  [(0x10, 4, (match s.peer f with | some g => g.vf | none => 0) + bitNat (s.port (!f.port)).linkUp * 2 ^ 8), (0x14, 4, 4096), (0x18, 4, 250000)
  , (0x1C, 4, 1000)]

/-- The capabilities of a function in ascending ID order (R103): (ID, length, fields). -/
def capList (s : State) (f : FnId) : List (Nat × Nat × List RegVal) :=
  [(0x0001, 0x40, coreRegs s f)
  , (0x0002, 0x20, [(0x10, 4, s.queuePairs f), (0x14, 4, 0x10000), (0x18, 4, 8), (0x1C, 4, 0x101000)])
  , (0x0003, 0x20, paymentRegs s), (0x0004, 0x30, bulkRegs)
  , (0x0005, 0x20, [(0x10, 4, 0x0703033F), (0x14, 4, 16777216)])
  , (0x0006, 0x20, [(0x10, 4, 0x38070101), (0x14, 4, 16777216), (0x18, 4, 16)])
  , (0x0007, 0x20, [(0x10, 8, s.now), (0x18, 4, tbsStatus s), (0x1C, 4, s.tbs.era)])]
    ++ (if isPf0 f then
          [(0x0008, 0x10, ([] : List RegVal))
          , (0x0009, 0x20, [(0x10, 4, 0x0304), (0x14, 4, 20000), (0x18, 8, 0x105800)])
          , (0x000A, 0x20, [(0x10, 4, 0x080F), (0x18, 8, 0x105C00)])
          , (0x000B, 0x20, [(0x10, 4, 32768), (0x14, 4, 64 + 3 * 2 ^ 8), (0x18, 8, 0x106000)])
          , (0x000C, 0x30, gaugeRegs s)
          , (0x000D, 0x20, [(0x10, 4, 384), (0x14, 4, 10 + 22 * 2 ^ 8), (0x18, 8, 0x104400)])] else [])
    ++ (if s.x16 then [] else [(0x000E, 0x20, dualRegs s f)])

/-- Capabilities laid one after the other from an offset, each with its header (log entry 49). -/
def placeCaps : Nat → List (Nat × Nat × List RegVal) → List RegVal
  | _, [] => []
  | off, (id, len, fields) :: r =>
    let next := if r.isEmpty then 0 else off + len
    [(off, 4, id + 2 ^ 16), (off + 4, 4, next), (off + 8, 4, len)] ++ fields.map (fun x => (off + x.1, x.2.1, x.2.2)) ++ placeCaps (off + len) r

/-! ## Registers of every function (05 to 07) -/

/-- Detached queues of a function. -/
def detachedOf (s : State) (g : FnId) : Nat := ((List.range 64).filter (fun q => (s.queue g q).detached)).length

/-- WEL_PORT_A or WEL_PORT_B (05). -/
def portBits (s : State) (p : Bool) : Nat :=
  let x := s.port p
  let holding := s.queues.any (fun k => (fnOfKey (k.1 / 64)).port == p && k.2.detached)
  if p && s.x16 then 0
  else bitNat x.linkUp + x.rate % 8 * 2 + x.width % 32 * 16 + bitNat x.ideSecure * 2 ^ 9 + bitNat holding * 2 ^ 10

/-- The WEL_ function registers (05). -/
def welRegs (s : State) (f : FnId) : List RegVal :=
  let x := s.fn f
  let det := match s.peer f with | some g => detachedOf s g | none => 0
  [(0x100000, 4, bitNat (decide (0 < s.queuePairs f)) + bitNat x.resetting * 2 + bitNat (!s.x16 && (s.port (!f.port)).linkUp) * 4 + det % 128 * 8)
  , (0x100004, 4, x.event.flags.toNat), (0x100008, 4, x.event.counts.toNat % 2 ^ 32), (0x10000C, 4, x.evVector % 64 + bitNat x.evEnable * 2 ^ 31)
  , (0x100010, 4, x.reattach.toNat), (0x100014, 4, x.reState % 4 + x.reResult % 16 * 16), (0x100018, 4, x.event.count 4)]
    ++ (if isPf0 f then [(0x100100, 4, portBits s false), (0x100104, 4, portBits s true)] else [])

/-- The registers of queue n (06); none of a pair that the function does not have (R120). -/
def queueRegs (s : State) (f : FnId) (n : Nat) : List RegVal :=
  if s.queuePairs f ≤ n then []
  else
  let x := s.queue f n
  let b := 0x101000 + 32 * n
  let lc := match s.qcfg f n with | some c => (c.log2Depth, c.cls) | none => (0, 3)
  let holding := x.order.any (fun it => match it with | .held _ _ _ => true | _ => false)
  [(b, 8, x.sqBase.toNat), (b + 8, 8, x.cqBase.toNat)
  , (b + 16, 4, bitNat x.enabled + x.vector % 64 * 2 + x.coalCount % 256 * 2 ^ 8 + x.coalTime % 1024 * 2 ^ 16)
  , (b + 20, 4, lc.1 % 32 + lc.2 % 4 * 32 + bitNat x.enabled * 2 ^ 7 + bitNat x.idle * 2 ^ 8 + bitNat (x.errorCause != 0) * 2 ^ 9
      + x.errorCause % 8 * 2 ^ 10 + bitNat holding * 2 ^ 13)
  , (b + 24, 4, x.sqHead % 65536 + x.cqTail % 65536 * 2 ^ 16)]

/-- SLU_Q_BAL_n (07), the buckets refilled to this moment (R156, R162). -/
def balRegs (s : State) (f : FnId) (n : Nat) : List RegVal :=
  match (if n < s.queuePairs f then s.qcfg f n else none) with
  | none => []
  | some c =>
    let x := (s.refillQueue f n).queue f n
    let cr := if c.cls = 0 then Int.fdiv x.credit.bal 8000 else 0
    [(0x101800 + 16 * n, 16, bitsOfInt 32 (Int.fdiv (x.cmdBal.bal * 65536) 1000000) + bitsOfInt 32 (Int.fdiv x.kibBal.bal 1000000) * 2 ^ 32
        + bitsOfInt 32 cr * 2 ^ 64 + bitNat (decide (cr < 0)) * 2 ^ 96)]

/-! ## The device-wide registers (02 to 04, 07 to 09) -/

/-- STAGE (02). -/
def LayStage.code : LayStage → Nat
  | .empty => 0
  | .loading => 1
  | .verified => 2
  | .approved => 3
  | .staged => 4
  | .scheduled => 5

/-- The LAY_ registers (02). -/
def layRegs (s : State) : List RegVal :=
  let l := s.lay
  let dig (x : Option Layout) : Nat := match x with | some i => leNat (padTo 48 i.digest) | none => 0
  [(0x102000, 4, (LayStage.code l.stage) + bitNat l.active.isSome * 16 + bitNat l.lock * 32 + bitNat l.drained * 64 + bitNat l.slot * 128)
  , (0x102004, 4, l.event.flags.toNat), (0x102008, 8, l.event.counts.toNat), (0x102010, 8, l.rejCause % 256 + l.rejSection % 65536 * 2 ^ 8 + l.rejEntry % 2 ^ 32 * 2 ^ 32)
  , (0x102018, 8, l.activeSerial), (0x102020, 8, l.stagedSerial), (0x102028, 4, l.epoch), (0x10202C, 4, l.drainedEpoch), (0x102030, 8, l.launchAt)
  , (0x102040, 48, dig l.active), (0x102070, 48, dig l.image)]

/-- The 256 bits of a launch entry (R84). -/
def LaunchEntry.bits (e : LaunchEntry) : Nat :=
  e.instant % 2 ^ 64 + (kindCode e.kind) * 2 ^ 64 + (LaunchState.code e.state) * 2 ^ 72 + e.origin % 256 * 2 ^ 80 + e.cause % 256 * 2 ^ 88
    + e.seq % 2 ^ 32 * 2 ^ 96 + e.arg % 2 ^ 64 * 2 ^ 128 + e.firedAt % 2 ^ 64 * 2 ^ 192

/-- The TBS_ registers (04). -/
def tbsRegs (s : State) : List RegVal :=
  let t := s.tbs
  [(0x102400, 8, s.now), (0x102408, 4, tbsStatus s), (0x10240C, 4, t.event.flags.toNat), (0x102410, 8, t.event.counts.toNat), (0x102418, 4, bitsOfInt 32 t.trim)
  , (0x10241C, 4, bitsOfInt 32 t.ppsErr), (0x102420, 4, t.ppsOffset), (0x102424, 4, bitNat t.ppsEn + bitNat t.ppsOutEn * 2), (0x102428, 8, 0), (0x102430, 8, 0)
  , (0x102438, 8, 0), (0x102440, 8, s.gro.night), (0x102448, 4, t.era)
  , (0x102450, 8, (launchNums.map (fun n => bitNat ((s.launch n).state == .armed) * 2 ^ n)).sum)]
    ++ launchNums.map (fun n => (0x102500 + 32 * n, 32, (s.launch n).bits))

/-- A mask of basins. -/
def basinMask (s : State) (p : Basin → Bool) : Nat := (basinNums.map (fun n => bitNat (p (s.basin n)) * 2 ^ n)).sum

/-- SLU_BASIN_n (07). -/
def sluBasin (s : State) (n : Nat) : Nat :=
  let st (w : Nat) : Nat := shortTime (ceilDiv w 8000)
  let x := s.basin n
  let owner := match s.lay.active, x.role with | some l, some r => if l.shared.getLsbD r then 0 else l.owners.getD r 0 | _, _ => 0
  st (aheadJ s 0 n) + st (aheadJ s 1 n) * 2 ^ 16 + st (aheadJ s 2 n) * 2 ^ 32 + st (aheadK s 2 n) * 2 ^ 48 + (s.reserve n / 840) % 1024 * 2 ^ 64
    + bitNat x.serving * 2 ^ 74 + bitNat x.asleep * 2 ^ 75 + bitNat (decide (0 < owner)) * 2 ^ 76 + owner % 32 * 2 ^ 77

/-- The SLU_ registers of PF0 (07, 08). -/
def sluRegs (s : State) : List RegVal :=
  let u := s.slu
  [(0x103000, 4, u.suspend.toNat + bitNat u.parkEn * 8)
  , (0x103004, 4, bitNat s.bsn.derated + basinMask s Basin.serving * 2 + basinMask s Basin.asleep * 2 ^ 9 + basinMask s (·.waking) * 2 ^ 17)
  , (0x103008, 4, u.event.flags.toNat), (0x10300C, 4, u.event.counts.toNat % 2 ^ 32), (0x103010, 4, u.parkIdle), (0x103014, 4, u.wakeBacklog)]
    ++ basinNums.map (fun n => (0x103020 + 16 * n, 16, sluBasin s n))
    ++ [(0x1030A0, 8, u.admitted), (0x1030A8, 8, u.refusedDeadline), (0x1030B0, 8, u.refusedQuota), (0x1030B8, 8, u.late), (0x1030C0, 8, u.squashed)
        , (0x1030C8, 8, u.rechecked), (0x1030D0, 8, u.launchSeq % 2 ^ 32 + u.drainedSeq % 2 ^ 32 * 2 ^ 32), (0x1030D8, 4, u.raEvent.flags.toNat)
        , (0x1030DC, 4, u.raEvent.counts.toNat % 2 ^ 16)]

/-- A pace in a 16-bit field; what a wider one shows is open (log entry 131). -/
def paceField (p : Nat) : Nat := if p < 65536 then p else (Config.widePace p).toNat

/-- BSN_PACE_n (03). -/
def paceBits (s : State) (n : Nat) : Nat :=
  let x := s.basin n
  let a := x.admissionPace
  paceField x.windowPs + paceField (a.getD 0) * 2 ^ 16 + paceField x.fastest * 2 ^ 32 + bitNat a.isSome * 2 ^ 48 + bitNat x.asleep * 2 ^ 49

/-- BSN_VLOOP_STATUS (03). -/
def vloopStatus (s : State) : Nat :=
  let b := s.bsn
  b.voltage % 1024 + bitNat (b.voltage == b.ceil) * 2 ^ 10 + bitNat b.derated * 2 ^ 11 + bitNat b.avsFault * 2 ^ 12 + bitNat b.loopOn * 2 ^ 13

/-- The BSN_ registers (03, 09). -/
def bsnRegs (s : State) : List RegVal :=
  let b := s.bsn
  let promised := maxOf ((basinNums.filter (fun n => (s.basin n).paced)).map s.promised)
  [(0x103800, 4, vloopStatus s), (0x103804, 4, b.vloopEvent.flags.toNat), (0x103808, 4, b.vloopEvent.counts.toNat % 2 ^ 32), (0x10380C, 4, b.ceil)
  , (0x103810, 4, b.vddRead), (0x103814, 4, s.floorPs), (0x103818, 4, (if basinNums.any (fun n => (s.basin n).paced) then paceField s.devicePace else 0) + paceField promised * 2 ^ 16)]
    ++ basinNums.map (fun n => (0x103820 + 8 * n, 8, paceBits s n))
    ++ [(0x103900, 4, bitNat b.eventMsg), (0x103904, 4, b.event.flags.toNat), (0x103908, 8, b.event.counts.toNat)
        , (0x103910, 4, bitNat (b.updState == 1) + b.updState % 4 * 2 + b.updBasin % 8 * 8 + b.updMask.toNat * 2 ^ 8 + b.updResult % 16 * 2 ^ 16)
        , (0x103918, 8, b.replays), (0x103920, 8, b.transfers), (0x103928, 8, b.exhausted), (0x103930, 8, b.newest % 16 + b.total % 2 ^ 32 * 2 ^ 32)]
    ++ basinNums.map (fun n => (0x103980 + 16 * n, 16, s.basinState n))
    ++ (List.range 16).map (fun i => (0x103A00 + 16 * i, 16, match tabFind b.log i with | some l => l.bits | none => 0))

/-! ## Keys, vault, Weir, Spring (12, 13, 17, 20) -/

/-- Slots held by the records of a scope, extensions included. -/
def slotsHeld (s : State) (session : Bool) : Nat := ((s.cis.records.filter (fun p => p.2.session == session)).map (fun p => 1 + p.2.ext)).sum

/-- The CIS_ registers (12). -/
def cisRegs (s : State) : List RegVal :=
  let c := s.cis
  [(0x104000, 4, bitNat c.rootReady + bitNat (decide (262144 ≤ c.journal.length)) * 2), (0x104004, 4, c.event.flags.toNat), (0x104008, 4, c.event.counts.toNat % 2 ^ 32)
  , (0x104010, 8, slotsHeld s false + slotsHeld s true * 2 ^ 32), (0x104018, 4, c.journal.length)]

/-- Key units of the active Layout with one copy on a present die. -/
def singleUnits (s : State) : Nat :=
  ((List.range s.keyUnits).filter (fun k => (s.die (diePair k).1).present != (s.die (diePair k).2).present)).length

/-- VLT_REWRAP (R314): the progress under way is an open value (log entry 1). -/
def rewrapBits (s : State) : Nat :=
  bitNat s.vlt.rewrap + (if s.vlt.rewrap then (s.freeBits 8).1.toNat * 2 ^ 8 else 0) + (if s.vlt.unlocked then s.vlt.generation % 2 ^ 32 * 2 ^ 32 else 0)

/-- The VLT_ registers (13). -/
def vltRegs (s : State) : List RegVal :=
  let v := s.vlt
  let present := (([0, 1, 2, 3] : List Nat).map (fun d => bitNat (s.die d).present * 2 ^ (d + 1))).sum
  let free := (([0, 1, 2, 3] : List Nat).map s.workFree).sum / 1048576
  [(0x104400, 4, bitNat v.unlocked + present + bitNat v.degraded * 2 ^ 5 + bitNat v.failed * 2 ^ 6 + bitNat v.reload * 2 ^ 7 + bitNat v.rewrap * 2 ^ 8)
  , (0x104404, 4, v.event.flags.toNat), (0x104408, 8, v.event.counts.toNat), (0x104410, 8, rewrapBits s)
  , (0x104418, 8, s.keyUnits % 256 + singleUnits s % 256 * 2 ^ 8 + free * 2 ^ 32)]
    ++ ([0, 1, 2, 3] : List Nat).map (fun d => (0x104420 + 8 * d, 8, (s.die d).bits))
    ++ [(0x104440, 8, v.mirrorBase.toNat), (0x104448, 4, bitNat v.mirrorEn + v.mirrorLog2 % 32 * 2 + bitNat v.mirrorPort * 64), (0x104450, 8, v.mirrorSeq)
        , (0x104458, 8, v.mirrorAck), (0x104460, 8, v.durable), (0x104468, 8, s.durableThrough), (0x104470, 8, v.tail % 2 ^ 32 + bitNat v.endSet * 2 ^ 32)
        , (0x104478, 8, v.rlState % 4 + v.rlCause % 16 * 16 + v.rlHead % 2 ^ 32 * 2 ^ 32)]

/-- The WEI_ registers of PF0 (17). -/
def weiRegs (s : State) : List RegVal :=
  let w := s.wei
  [(0x104800, 4, bitNat w.live + bitNat w.drained * 2 + bitNat w.tagKey * 4 + bitNat w.dbg.isSome * 8), (0x104804, 4, w.event.flags.toNat)
  , (0x104808, 8, w.event.counts.toNat), (0x104810, 8, w.swapSeq % 2 ^ 32 + w.drainedSwap % 2 ^ 32 * 2 ^ 32), (0x104818, 8, w.denies), (0x104820, 8, w.tagFails)
  , (0x104830, 16, w.lastDeny.toNat)]

/-- SPG_SRC_A or SPG_SRC_B (20). -/
def sourceBits (s : State) (x : Source) : Nat :=
  let recent := (x.fails.filter (fun t => decide (s.now < t + 1000000000))).length
  bitsOfInt 16 x.bias + bitsOfInt 16 x.lag1 * 2 ^ 16 + bitsOfInt 16 x.lag2 * 2 ^ 32 + bitsOfInt 16 x.lag3 * 2 ^ 48 + min 3 recent * 2 ^ 64 + x.rctMax % 65536 * 2 ^ 80
    + x.aptMax % 65536 * 2 ^ 96 + x.failsTotal % 65536 * 2 ^ 112

/-- The SPG_ registers (20). -/
def spgRegs (s : State) : List RegVal :=
  let g := s.spg
  let drbgs := List.range 9
  [(0x104C00, 4, (drbgs.map (fun n => bitNat (s.drbg n).inst * 2 ^ n)).sum + bitNat g.fatal * 2 ^ 9 + g.srcA.st % 4 * 2 ^ 10 + g.srcB.st % 4 * 2 ^ 12
      + bitNat g.raw.isSome * 2 ^ 14 + min 16 g.buffer.length * 2 ^ 15)
  , (0x104C04, 4, g.event.flags.toNat), (0x104C08, 8, g.event.counts.toNat), (0x104C10, 4, g.reseed.toNat + bitNat g.eventMsg * 2 ^ 9), (0x104C20, 32, g.pers.toNat)
  , (0x104C40, 16, sourceBits s g.srcA), (0x104C50, 16, sourceBits s g.srcB)]
    ++ drbgs.map (fun n => (0x104C60 + 8 * n, 8, (s.drbg n).reseeds % 2 ^ 32 + (s.drbg n).pool.length / 1024 % 128 * 2 ^ 32 + bitNat (s.drbg n).inst * 2 ^ 39))

/-! ## Fountainhead, Grotto, the tokens (21, 22, 24, 25) -/

/-- A staged image's version, or 0. -/
def stagedVersion (s : State) (k : Nat) : Nat := match tabFind s.fnt.staged k with | some i => i.version | none => 0

/-- A staged image is accepted. -/
def stagedOk (s : State) (k : Nat) : Bool := match tabFind s.fnt.staged k with | some i => i.accepted | none => false

/-- FNT_STATUS (21). -/
def fntStatus (s : State) : Nat :=
  let x := s.fnt
  let ses := match x.session with | some q => q.purpose % 16 * 2 ^ 13 + bitNat q.held * 2 ^ 17 | none => 0
  s.life % 16 + x.op.code * 16 + s.ownerCount % 8 * 2 ^ 7 + bitNat x.pendingLc.isSome * 2 ^ 10 + bitNat x.escrow.isSome * 2 ^ 11 + bitNat s.wei.dbg.isSome * 2 ^ 12 + ses

/-- FNT_QUORUM (21). -/
def fntQuorum (s : State) : Nat :=
  match s.fnt.session with
  | some q => q.counted.length % 256 + q.m % 256 * 2 ^ 8 + min 65535 (ceilDiv (q.ends - s.now) 1000000000) * 2 ^ 16 + q.number % 2 ^ 32 * 2 ^ 32
  | none => 0

/-- The FNT_ registers (21). FNT_CTRL.FW_SWITCH reads 0: a write of 1 acts and the bit clears at once, an instant chapter 21 does not give (DESIGN
CHOICE, log entry 149). -/
def fntRegs (s : State) : List RegVal :=
  let x := s.fnt
  [(0x105000, 4, fntStatus s), (0x105004, 4, x.event.flags.toNat), (0x105008, 8, x.event.counts.toNat), (0x105010, 4, bitNat x.eventMsg * 4), (0x105018, 8, fntQuorum s)
  , (0x105020, 4, x.rbKeeper % 128 + x.rbFnt % 128 * 2 ^ 8)
  , (0x105030, 16, x.running % 2 ^ 32 + stagedVersion s 1 % 2 ^ 32 * 2 ^ 32 + stagedVersion s 0 % 2 ^ 32 * 2 ^ 64 + bitNat (stagedOk s 0) * 2 ^ 96 + bitNat (stagedOk s 1) * 2 ^ 97)
  , (0x105040, 16, match s.wei.dbg with | some d => d.serial % 2 ^ 64 + d.notAfter % 2 ^ 64 * 2 ^ 64 | none => 0)]

/-- GRO_STATUS (22). -/
def groStatus (s : State) : Nat :=
  let g := s.gro
  let corr := match g.open_ with | some v => v.items.any (·.pending) | none => false
  bitNat g.sealBit * 2 + bitNat g.rootHalf.isSome * 4 + bitNat g.holdupOk * 8 + bitNat g.open_.isSome * 16 + bitNat corr * 32

/-- The GRO_ registers (22). -/
def groRegs (s : State) : List RegVal :=
  let g := s.gro
  [(0x105400, 4, groStatus s), (0x105404, 4, g.sticky.toNat), (0x105408, 4, g.active.toNat), (0x10540C, 4, g.event.flags.toNat), (0x105410, 8, g.event.counts.toNat)
  , (0x105418, 4, s.responses.toNat), (0x10541C, 4, g.floors.toNat), (0x105420, 4, g.disabled.toNat), (0x105424, 4, 0), (0x105428, 4, g.vbat % 4096 + bitsOfInt 12 g.temp * 2 ^ 16)]
    ++ (List.range 4).map (fun k => (0x105430 + 8 * k, 8, ((List.range 4).map (fun j => tabGet g.counts (4 * k + j) 0 % 65536 * 2 ^ (16 * j))).sum))
    ++ [(0x105450, 4, g.bebNewest % 16 + g.bebValid % 32 * 16)]
    ++ (List.range 16).map (fun i => (0x105460 + 16 * i, 16, (tabGet g.beb i {}).bits))

/-- CCB_SLOT_n (24). -/
def CardSlot.bits (x : CardSlot) : Nat :=
  x.st % 8 + bitNat x.width4 * 8 + x.clock % 4 * 16 + bitNat x.pending * 64 + x.resolved % 4 * 128 + x.tag % 256 * 2 ^ 16 + x.pendingSeq % 2 ^ 32 * 2 ^ 32
    + x.authUsed % 2 ^ 32 * 2 ^ 64 + leNat (x.tokenId.take 4) * 2 ^ 96

/-- The CCB_ registers (24). -/
def ccbRegs (s : State) : List RegVal :=
  let c := s.ccb
  let mask (p : CardSlot → Bool) : Nat := ((List.range 4).map (fun n => bitNat (p (s.slot n)) * 2 ^ n)).sum
  [(0x105800, 4, mask (·.present) + mask (fun x => x.st == 3) * 16 + mask (·.pending) * 2 ^ 8 + bitNat c.trans.isSome * 2 ^ 12), (0x105804, 4, c.event.flags.toNat)
  , (0x105808, 8, c.event.counts.toNat), (0x105810, 4, bitNat c.eventMsg + c.clockLimit % 4 * 2), (0x105818, 8, c.timeFloor)]
    ++ (List.range 4).map (fun n => (0x105820 + 16 * n, 16, (s.slot n).bits))

/-- CLS_STATUS.MODE (25): SILENT or POLLING while the reader is so; PINGING while it pings between COLLECTs (R539). -/
def readerMode (s : State) : Nat :=
  if 2 ≤ s.cls.mode then s.cls.mode % 4
  else bitNat (s.pwr.main && s.fnt.op != .halted && s.fnt.collect.isNone && (s.cls.pingEn || s.fnt.session.isSome))

/-- The CLS_ and PSP_ registers (25). -/
def fieldRegs (s : State) : List RegVal :=
  let c := s.cls
  let p := s.psp
  [(0x105C00, 4, readerMode s + bitNat c.extField * 4 + c.uids.length % 16 * 8 + c.rate % 4 * 2 ^ 7), (0x105C04, 4, c.event.flags.toNat), (0x105C08, 8, c.event.counts.toNat)
  , (0x105C10, 4, bitNat c.eventMsg + bitNat c.pingEn * 2 + c.rateLimit % 4 * 4 + c.pingPeriod % 256 * 16 + c.pingThresh % 16 * 2 ^ 12)]
    ++ (List.range 8).map (fun n => (0x105C20 + 16 * n, 16, match c.uids[n]? with | some u => u.toNat + 2 ^ 80 | none => 0))
    ++ [(0x106000, 4, bitNat p.field + bitNat p.fieldBusy * 2 + min 64 p.staged.length * 4 + tabGet p.fails 0 0 % 16 * 2 ^ 9 + tabGet p.fails 1 0 % 16 * 2 ^ 13)
        , (0x106004, 4, p.event.flags.toNat), (0x106008, 8, p.event.counts.toNat), (0x106010, 8, (tagUid s).toNat)]

/-! ## BAR0 (R100, R397) -/

/-- The registers of the block in which an offset lies; a function reaches its own and, as PF0, the device-wide ones. -/
def blockRegs (s : State) (f : FnId) (off : Nat) : List RegVal :=
  if off < 0x100 then headerRegs s f
  else if off < 0x10000 then placeCaps 0x100 (capList s f)
  else if 0x100000 ≤ off && off < 0x101000 then welRegs s f
  else if 0x101000 ≤ off && off < 0x101800 then queueRegs s f ((off - 0x101000) / 32)
  else if 0x101800 ≤ off && off < 0x101C00 then balRegs s f ((off - 0x101800) / 16)
  else if !isPf0 f then []
  else if 0x102000 ≤ off && off < 0x102400 then layRegs s
  else if 0x102400 ≤ off && off < 0x103000 then tbsRegs s
  else if 0x103000 ≤ off && off < 0x103800 then sluRegs s
  else if 0x103800 ≤ off && off < 0x104000 then bsnRegs s
  else if 0x104000 ≤ off && off < 0x104400 then cisRegs s
  else if 0x104400 ≤ off && off < 0x104800 then vltRegs s
  else if 0x104800 ≤ off && off < 0x104C00 then weiRegs s
  else if 0x104C00 ≤ off && off < 0x105000 then spgRegs s
  else if 0x105000 ≤ off && off < 0x105400 then fntRegs s
  else if 0x105400 ≤ off && off < 0x105800 then groRegs s
  else if 0x105800 ≤ off && off < 0x105C00 then ccbRegs s
  else if 0x105C00 ≤ off && off < 0x106400 then fieldRegs s
  else []

/-- The register that holds the byte at an offset: (its offset, its bytes, its value). -/
def hostReg (s : State) (f : FnId) (off : Nat) : Option RegVal :=
  (blockRegs s f off).find? (fun r => decide (r.1 ≤ off) && decide (off < r.1 + r.2.1))

end Sys2Proof.Machine
end

