-- ==== Sys2Proof/Machine/ConfigSpace.lean ====
section
/-! DEFINITION. A function's configuration space and its BAR2 (R94, R95, R98, R107). The rows' offsets reach BAR0 below 0x1000000,
BAR2 from there, and the configuration space from 0x2000000 (log entry 138); the places of its fields are those of the PCIe base
specification. -/

namespace Sys2Proof.Machine

/-! ## Reads -/

/-- The header of an extended capability: its ID, its version, the next one's offset. -/
def extCap (off id version next : Nat) : RegVal := (0x2000000 + off, 4, id + version * 2 ^ 16 + next * 2 ^ 20)

/-- A 64-bit non-prefetchable BAR at an offset. -/
def barRegs (off : Nat) (a : BitVec 64) : List RegVal :=
  [(0x2000000 + off, 4, a.toNat % 2 ^ 32 / 16 * 16 + 4), (0x2000000 + off + 4, 4, a.toNat / 2 ^ 32)]

/-- The type 0 header: identities, class code 0x10_8000, BAR0 and BAR2 of a PF0 (R95), the first capability. -/
def configHeader (s : State) (f : FnId) : List RegVal :=
  let x := s.fn f
  [(0x2000000, 4, (Config.pciId 0).toNat), (0x2000008, 4, 0x108000 * 2 ^ 8 + (Config.pciId 1).toNat % 2 ^ 8)]
    ++ (if isPf0 f then barRegs 0x10 x.bar0 ++ barRegs 0x18 x.bar2 else []) ++ [(0x2000034, 4, 0x40)]

/-- The PCI Express, MSI-X and power management capabilities (R94): 512-byte payloads, FLR, 10-bit tags, ASPM L1, Completion
Timeout ranges A to D (R109), 64 vectors. -/
def configCaps (s : State) (f : FnId) : List RegVal :=
  let x := s.fn f
  let p := s.port f.port
  [(0x2000040, 4, 0x10 + 0x80 * 2 ^ 8 + 2 * 2 ^ 16), (0x2000044, 4, 2 + 2 ^ 28), (0x2000048, 4, x.mps % 8 * 2 ^ 5 + x.mrrs % 8 * 2 ^ 12)
  , (0x200004C, 4, 6 + (if s.x16 then 16 else 8) * 2 ^ 4 + 2 ^ 11), (0x2000050, 4, (p.rate % 16 + p.width % 64 * 2 ^ 4) * 2 ^ 16)
  , (0x2000064, 4, 0xF + 3 * 2 ^ 16), (0x2000068, 4, x.timeoutRange % 16 + bitNat x.tag10 * 2 ^ 12)
  , (0x2000080, 4, 0x11 + 0x90 * 2 ^ 8 + 63 * 2 ^ 16 + bitNat x.fnMask * 2 ^ 30 + 2 ^ 31), (0x2000084, 4, 2), (0x2000088, 4, 0x2002)
  , (0x2000090, 4, 1 + 3 * 2 ^ 16), (0x2000094, 4, bitNat x.d3hot * 3)]

/-- The extended capabilities (R94): AER with its status and its header log, ARI, of a PF0 also SR-IOV, DOE and Link IDE, and the readiness times with 10 ms for FLR. A feature
that R94's table does not show has none. -/
def configExt (s : State) (f : FnId) : List RegVal :=
  let p := s.port f.port
  let x := s.fn f
  [extCap 0x100 0x01 2 0x150, (0x2000104, 4, x.aerStatus.toNat)]
    ++ (List.range 4).map (fun i => (0x200011C + 4 * i, 4, field x.aerHeader (4 * i) 4))
    ++ [extCap 0x150 0x0E 1 (if isPf0 f then 0x160 else 0x200)]
    ++ (if isPf0 f then
        [extCap 0x160 0x10 1 0x1A0, (0x2000168, 4, bitNat p.vfEnable), (0x200016C, 4, 31 + 31 * 2 ^ 16), (0x2000170, 4, p.numVfs), (0x2000174, 4, 1 + 1 * 2 ^ 16)]
          ++ barRegs 0x184 p.vfBar0 ++ barRegs 0x18C p.vfBar2 ++ [extCap 0x1A0 0x2E 1 0x1C0, extCap 0x1C0 0x30 1 0x200, (0x20001C4, 4, 1 + 2 ^ 6), (0x20001CC, 4, if p.ideSecure then 2 else 0)] else [])
    ++ [extCap 0x200 0x22 1 0, (0x2000208, 4, 306 + 3 * 2 ^ 9)]

/-- An MSI-X table entry: its address, its data and its mask bit. -/
def msixEntry (x : FnState) (v : Nat) : List RegVal :=
  let b := 0x1000000 + 16 * v
  let e := tabGet x.table v (0, 0)
  [(b, 4, e.1.toNat % 2 ^ 32), (b + 4, 4, e.1.toNat / 2 ^ 32), (b + 8, 4, e.2.toNat), (b + 12, 4, bitNat (x.vecMask.getLsbD v))]

/-- The registers of BAR2 and of the configuration space around an offset. -/
def outerRegs (s : State) (f : FnId) (off : Nat) : List RegVal :=
  let x := s.fn f
  if off < 0x1000400 then msixEntry x ((off - 0x1000000) / 16)
  else if off < 0x1004000 then [(0x1002000, 4, x.vecPending.toNat % 2 ^ 32), (0x1002004, 4, x.vecPending.toNat / 2 ^ 32)]
  else configHeader s f ++ configCaps s f ++ configExt s f

/-- The 32-bit word at an aligned offset beyond BAR0; 0 where none is. -/
def outerWord (s : State) (f : FnId) (off : Nat) : Nat :=
  match (outerRegs s f off).find? (fun r => r.1 == off) with
  | some r => r.2.2
  | none => 0

/-! ## Writes -/

/-- One half of a 64-bit value written. -/
def withHalf (a : BitVec 64) (high : Bool) (v : Nat) : BitVec 64 :=
  BitVec.ofNat 64 (if high then a.toNat % 2 ^ 32 + v * 2 ^ 32 else a.toNat / 2 ^ 32 * 2 ^ 32 + v)

/-- A BAR takes the bits above its region's size. -/
def withBar (a : BitVec 64) (size : Nat) (high : Bool) (v : Nat) : BitVec 64 := BitVec.ofNat 64 ((withHalf a high v).toNat / size * size)

/-- A write of a word of the MSI-X table; an unmasked vector sends its pending message (R107). -/
def State.writeTable (s : State) (f : FnId) (off v : Nat) : State :=
  let x := s.fn f
  let n := (off - 0x1000000) / 16
  let e := tabGet x.table n (0, 0)
  let k := off % 16 / 4
  if k = 0 then s.setFn f { x with table := tabSet x.table n (withHalf e.1 false (v / 4 * 4), e.2) }
  else if k = 1 then s.setFn f { x with table := tabSet x.table n (withHalf e.1 true v, e.2) }
  else if k = 2 then s.setFn f { x with table := tabSet x.table n (e.1, BitVec.ofNat 32 v) }
  else if bitAt v 0 then s.setFn f { x with vecMask := x.vecMask ||| BitVec.ofNat 64 (2 ^ n) }
  else (s.setFn f { x with vecMask := x.vecMask &&& ~~~ BitVec.ofNat 64 (2 ^ n) }).sendPending f

/-- The state after a command, its own where it stops. -/
def nextOr (o : Host.Outcome State Fault Refusal) (s : State) : State := match o with | .next t => t | _ => s

/-- A write of a word of the SR-IOV capability of a PF0 (R98): NumVFs only while VF Enable is clear. -/
def State.writeSriov (s : State) (port : Bool) (o v : Nat) : State :=
  let p := s.port port
  if o = 0x168 then
    (if bitAt v 0 then nextOr (execVfEnableSet port p.numVfs s) s else nextOr (execVfEnableClear port s) s)
  else if o = 0x170 then
    (if !p.vfEnable && decide (1 ≤ v % 2 ^ 16) && decide (v % 2 ^ 16 ≤ 31) then s.setPort port { p with numVfs := v % 2 ^ 16 } else s)
  else if o = 0x184 || o = 0x188 then s.setPort port { p with vfBar0 := withBar p.vfBar0 0x1000000 (o == 0x188) v }
  else if o = 0x18C || o = 0x190 then s.setPort port { p with vfBar2 := withBar p.vfBar2 0x4000 (o == 0x190) v }
  else s

/-- A write of a word of the configuration space. -/
def State.writeConfig (s : State) (f : FnId) (o v : Nat) : State :=
  let x := s.fn f
  if o = 0x48 then
    let s1 := s.setFn f { x with mps := bitsAt v 5 3, mrrs := bitsAt v 12 3 }
    if bitAt v 15 then nextOr (execFunctionLevelReset f s1) s1 else s1
  else if o = 0x68 then s.setFn f { x with tag10 := bitAt v 12, timeoutRange := v % 16 }
  else if o = 0x104 then s.setFn f { x with aerStatus := x.aerStatus &&& ~~~ BitVec.ofNat 32 v }
  else if o = 0x80 then (if bitAt v 30 then s.setFn f { x with fnMask := true } else nextOr (execMsixVectorUnmask f none s) s)
  else if o = 0x94 then
    (if bitsAt v 0 2 = 3 then nextOr (execPowerStateChange f true s) s
     else if bitsAt v 0 2 = 0 then nextOr (execPowerStateChange f false s) s else s)
  else if !isPf0 f then s
  else if o = 0x10 || o = 0x14 then s.setFn f { x with bar0 := withBar x.bar0 0x1000000 (o == 0x14) v }
  else if o = 0x18 || o = 0x1C then s.setFn f { x with bar2 := withBar x.bar2 0x4000 (o == 0x1C) v }
  else s.writeSriov f.port o v

/-- A write of an aligned 32-bit word beyond BAR0. -/
def State.writeOuter (s : State) (f : FnId) (off v : Nat) : State :=
  if off < 0x1000400 then s.writeTable f off v
  else if 0x2000000 ≤ off then s.writeConfig f (off - 0x2000000) v
  else s

end Sys2Proof.Machine
end

