-- ==== Sys2Proof/Machine/Timebase.lean ====
section
/-! DEFINITION. The Timebase (04): the tick, the reference, steps, sets and slews, PPS discipline, the PPS output. -/

namespace Sys2Proof.Machine

/-! ## Trim (R71, R82) -/

/-- Set the trim in ppb, with the history that R82 averages over 64 s; while the reference is away it is held, and the new value waits
(R72). -/
def State.setTrim (s : State) (t : Int) : State :=
  if s.tbs.refSuspended then { s with tbs := { s.tbs with heldTrim := some t } }
  else
  let old := s.tbs.trimHistory
  let recent := old.filter (fun p => decide (s.tbs.ran < p.1 + 64000000000))
  let h := (s.tbs.ran, t) :: old.take (recent.length + 1)
  { s with tbs := { s.tbs with trim := t, trimHistory := h } }

/-- Sum of trim × ns over a history, newest first, from `lo` to `hi`; zero before the oldest entry. -/
def trimSum (lo : Nat) : Nat → List (Nat × Int) → Int
  | _, [] => 0
  | hi, (t, v) :: r => if t ≤ lo then v * (hi - lo : Nat) else v * (hi - t : Nat) + trimSum lo t r

/-- The mean of the trim over the last 64 s (R82), rounded toward zero. -/
def trimMean (s : State) : Int := Int.tdiv (trimSum (s.tbs.ran - 64000000000) s.tbs.ran s.tbs.trimHistory) 64000000000

/-! ## The tick (R71, R75) -/

/-- The night counter over one ns of its own oscillator (R75). -/
def GroState.nightTick (g : GroState) : GroState :=
  let n := g.nightFrac + 32768
  if n < 1000000000 then { g with nightFrac := n } else { g with nightFrac := n - 1000000000, night := (g.night + 1) % 2 ^ 48 }

/-- The trim of one tick in 2^-32 ns. R71 gives no rounding: it is rounded down (DESIGN CHOICE, log entry 134). -/
def trimStep (trim : Int) : Int := trim * 2 ^ 32 / 1000000000

/-- What a tick leaves to gain of a slew: what the tick's trim adds is gained (R80). -/
def slewTick (t : TbsState) : Int := if t.slewing then t.slewLeft - trimStep t.trim else t.slewLeft

/-- One tick of 1 ns: the counter with its trim, in a 32-bit binary fraction (R71), while power-on reset is released, and the night
counter. -/
def State.tick (s : State) : State :=
  let s1 := { s with gro := s.gro.nightTick }
  if s1.pwr.por || !s1.pwr.main then s1
  else
    let n := s1.tbs.frac + (2 ^ 32 + trimStep s1.tbs.trim).toNat
    { s1 with tbs := { s1.tbs with
        frac := n % 2 ^ 32, now := (s1.tbs.now + n / 2 ^ 32) % 2 ^ 64, ran := s1.tbs.ran + n / 2 ^ 32, slewLeft := slewTick s1.tbs
        ppsHigh := if s1.tbs.ppsOut then s1.tbs.ppsHigh + n / 2 ^ 32 else s1.tbs.ppsHigh } }

/-! ## The reference (R72) -/

/-- REF_LOST: 400 ns without an edge. -/
def execRefLost (s : State) : Host.Outcome State Fault Refusal :=
  if s.tbs.refOk then .next (({ s with tbs := { s.tbs with refOk := false, refSuspended := true } }).tbsEvent 3) else .next s

/-- TB_REF_RETURN: edges reappear. -/
def execTbRefReturn (s : State) : Host.Outcome State Fault Refusal :=
  if s.tbs.refOk then .next s else .next { s with tbs := { s.tbs with refOk := true, refBack := s.tbs.ran } }

/-- REF_RESTORED: 1 ms after the return, trim and PPS discipline resume. -/
def execRefRestored (s : State) : Host.Outcome State Fault Refusal :=
  if s.tbs.refOk && s.tbs.refSuspended && decide (s.tbs.refBack + 1000000 ≤ s.tbs.ran) then
    let s1 := { s with tbs := { s.tbs with refSuspended := false, heldTrim := none } }
    .next (match s.tbs.heldTrim with | some t => s1.setTrim t | none => s1)
  else .next s

/-! ## The sync pair (R75) -/

/-- SYNC_PAIR_WRITE: the device is powered and the counter has passed a multiple of 2^30 ns. -/
def execSyncPairWrite (s : State) : Host.Outcome State Fault Refusal :=
  if s.pwr.por || !s.pwr.main || s.now / 2 ^ 30 = s.tbs.syncMark then .next s
  else .next { s with gro := { s.gro with sync := some (s.now, s.gro.night) }, tbs := { s.tbs with syncMark := s.now / 2 ^ 30 } }

/-! ## Steps, sets and slews (R77 to R80) -/

/-- PF0 writes a Timebase register. -/
def tbsWriter (s : State) (f : FnId) : Bool := isPf0 f && s.fnExists f

/-- TBS_STEP (R77): 1 to 2^48 ns, rounded up to a multiple of 64, awaits the next broadcast; ignored while PPS_EN is set. What a value
outside that range does, and what a second write before the broadcast, the spec leaves open: the first is discarded, the second replaces
the amount that waits (DESIGN CHOICE, log entry 135). -/
def execTbsStep (f : FnId) (v : BitVec 64) (s : State) : Host.Outcome State Fault Refusal :=
  if tbsWriter s f && !s.tbs.ppsEn && decide (1 ≤ v.toNat) && decide (v.toNat ≤ 2 ^ 48) then
    .next { s with tbs := { s.tbs with stepReq := some (ceilDiv v.toNat 64 * 64) } }
  else .next s

/-- Fire the due instants in order, at most `n` of them. -/
def State.fireDue : Nat → State → State
  | 0, s => s
  | n + 1, s =>
    match dueInstant s with
    | none => s
    | some t => State.fireDue n (s.fireInstant t)

/-- A held command with a step added to its deadline (R78). -/
def QItem.later (d : Nat) : QItem → QItem
  | .held slot desc n => .held slot desc (n + d)
  | i => i

/-- A forward step of the counter (R78): deadlines move, skipped launches fire at the step instant, the window is discarded. -/
def State.stepForward (s : State) (d : Nat) : State :=
  let s1 := { s with
    tbs := { s.tbs with now := (s.tbs.now + d) % 2 ^ 64, stepReq := none
                        ppsHigh := if s.tbs.ppsOut then s.tbs.ppsHigh + d else s.tbs.ppsHigh }
    queues := s.queues.map (fun (p : Nat × Queue) => (p.1, { p.2 with order := p.2.order.map (QItem.later d) }))
    slu := { s.slu with retire := s.slu.retire.map (fun (p : Nat × Cmd) => (p.1, { p.2 with dlAdd := p.2.dlAdd + d })) }
    bsn := { s.bsn with windowStep := true } }
  (s1.tbsEvent 4).fireDue 64

/-- COUNTER_STEP (R77, R78): at a broadcast instant, a multiple of 64 ns (R73). -/
def execCounterStep (s : State) : Host.Outcome State Fault Refusal :=
  match s.tbs.stepReq with
  | none => .next s
  | some d => if s.now % 64 = 0 then .next (s.stepForward d) else .next s

/-- No basin serves and no launch entry is ARMED (R79). -/
def setAllowed (s : State) : Bool := s.armed.isEmpty && !(basinNums.any (fun n => (s.basin n).serving))

/-- TBS_SET (R79): ignored while a basin serves or an entry is ARMED. A second write before the broadcast replaces the first (DESIGN CHOICE,
log entry 135). -/
def execTbsSet (f : FnId) (v : BitVec 64) (s : State) : Host.Outcome State Fault Refusal :=
  if tbsWriter s f && setAllowed s then
    .next { s with tbs := { s.tbs with setReq := some v.toNat } }
  else .next s

/-- COUNTER_SET (R79): at a broadcast instant, while the conditions of the write still hold. The pace window, the loop period and the re-key
period under way start anew at the new value, and the set itself passes no multiple of 2^30 ns (log entry 33). -/
def execCounterSet (s : State) : Host.Outcome State Fault Refusal :=
  match s.tbs.setReq with
  | none => .next s
  | some v =>
    if s.now % 64 ≠ 0 then .next s
    else if !setAllowed s then .next { s with tbs := { s.tbs with setReq := none } }
    else
      .next { s with
        tbs := { s.tbs with now := v, setReq := none, syncMark := v / 2 ^ 30, era := if v < s.now then (s.tbs.era + 1) % 65536 else s.tbs.era }
        bsn := { s.bsn with windowMark := v / 4096, periodMark := v / 65536 }
        wei := { s.wei with rekeyMark := v / 2 ^ 30 } }

/-- A slew by a signed amount (R80): ±1,000 ppm; a new one replaces what remains, and none ends it. -/
def State.slew (s : State) (d : Int) : State :=
  let saved := if s.tbs.slewing then s.tbs.slewSaved else s.tbs.heldTrim.getD s.tbs.trim
  let s1 := { s with tbs := { s.tbs with slewLeft := 2 ^ 32 * d, slewing := d != 0, slewSaved := saved } }
  s1.setTrim (if d = 0 then saved else if 0 < d then 1000000 else -1000000)

/-- TBS_SLEW (R77, R80): ignored while PPS_EN is set. -/
def execTbsSlew (f : FnId) (v : BitVec 64) (s : State) : Host.Outcome State Fault Refusal :=
  if tbsWriter s f && !s.tbs.ppsEn then .next (s.slew (signedOf 64 v.toNat)) else .next s

/-- The amount of the slew under way is gained or lost. -/
def slewDone (t : TbsState) : Bool :=
  t.slewing && !t.refSuspended && (if 0 < t.trim then decide (t.slewLeft ≤ 0) else decide (0 ≤ t.slewLeft))

/-- SLEW_END (R72, R80): the amount is gained or lost, and the previous trim is restored; not while the trim is held. -/
def execSlewEnd (s : State) : Host.Outcome State Fault Refusal :=
  if slewDone s.tbs then
    .next (({ s with tbs := { s.tbs with slewing := false, slewLeft := 0 } }).setTrim s.tbs.slewSaved)
  else .next s

/-! ## PPS (R81 to R83) -/

/-- The phase error of an edge at an instant. An edge halfway between two targets takes e = +5 × 10^8, which R81 leaves open (DESIGN CHOICE,
log entry 136). -/
def phaseError (now off : Nat) : Int :=
  let r := (now % 1000000000 + 1000000000 - off % 1000000000) % 1000000000
  if r ≤ 500000000 then (r : Int) else (r : Int) - 1000000000

/-- An edge is accepted: the first one, or 10^9 ± 100,000 ns after the previous accepted edge. -/
def edgeOk (s : State) : Bool :=
  match s.tbs.lastEdge with
  | none => true
  | some t => decide (t + 999900000 ≤ s.tbs.ran) && decide (s.tbs.ran ≤ t + 1000100000)

/-- A value clamped to ±1,000,000 ppb. -/
def clampTrim (t : Int) : Int := max (-1000000) (min 1000000 t)

/-- The steering of an accepted edge (R81); the quotients are taken together and rounded toward zero, and a trim that replaces a slew's ends
the slew (log entry 34). -/
def State.steer (s : State) (e : Int) : State :=
  if s.tbs.sync == .acquiring && decide (e < -1000000) then { s with tbs := { s.tbs with stepReq := some e.natAbs } }
  else if 1000000 < e.natAbs then s.slew (-e)
  else
    let i := s.tbs.integ + e
    ({ s with tbs := { s.tbs with integ := i, slewing := false, slewLeft := 0 } }).setTrim (clampTrim (-(Int.tdiv (8 * e + i) 16)))

/-- An accepted edge (R81, R82). -/
def State.acceptEdge (s : State) : State :=
  let e := phaseError s.now s.tbs.ppsOffset
  let sy := if s.tbs.sync == PpsSync.holdover then PpsSync.acquiring else s.tbs.sync
  let s1 := { s with tbs := { s.tbs with lastEdge := some s.tbs.ran, ppsErr := e, sync := sy } }
  let s2 := s1.steer e
  let s3 := { s2 with tbs := { s2.tbs with good := if e.natAbs ≤ 100 then s2.tbs.good + 1 else 0 } }
  if s3.tbs.sync == .acquiring && decide (8 ≤ s3.tbs.good) then ({ s3 with tbs := { s3.tbs with sync := PpsSync.locked } }).tbsEvent 0 else s3

/-- PPS_EDGE (R72, R81): a rising edge while discipline is enabled and not suspended. -/
def execPpsEdge (s : State) : Host.Outcome State Fault Refusal :=
  if !s.tbs.ppsEn || s.tbs.refSuspended then .next s
  else if edgeOk s then .next s.acceptEdge
  else .next (s.tbsEvent 2)

/-- HOLDOVER (R72, R82): 2 s without an accepted edge while LOCKED, discipline not being suspended. A slew in progress ends, so that the trim
stays frozen. -/
def execHoldover (s : State) : Host.Outcome State Fault Refusal :=
  match s.tbs.sync, s.tbs.lastEdge with
  | .locked, some t =>
    if !s.tbs.refSuspended && decide (t + 2000000000 ≤ s.tbs.ran) then
      let m := trimMean s
      .next ((({ s with tbs := { s.tbs with sync := PpsSync.holdover, lastEdge := none, slewing := false, slewLeft := 0 } }).setTrim m).tbsEvent 1)
    else .next s
  | _, _ => .next s

/-- PPS_OUT_RISE (R83): within 8 ns of a value congruent to the phase. -/
def execPpsOutRise (s : State) : Host.Outcome State Fault Refusal :=
  if s.tbs.ppsOutEn && !s.tbs.ppsOut && decide ((s.now % 1000000000 + 1000000000 - s.tbs.ppsOffset % 1000000000) % 1000000000 ≤ 8) then
    .next { s with tbs := { s.tbs with ppsOut := true, ppsHigh := 0 } }
  else .next s

/-- PPS_OUT_FALL (R83): 10^8 ns after the rise. -/
def execPpsOutFall (s : State) : Host.Outcome State Fault Refusal :=
  if s.tbs.ppsOut && decide (100000000 ≤ s.tbs.ppsHigh) then .next { s with tbs := { s.tbs with ppsOut := false } } else .next s

/-- A write of TBS_CTRL (R81 to R83): clearing PPS_EN makes the state FREE, setting it ACQUIRING with the next edge accepted; the
output falls with its enable. R81 gives integ and good no initial value: setting PPS_EN clears both (DESIGN CHOICE, log entry 137). -/
def State.writeTbsCtrl (s : State) (v : Nat) : State :=
  let en := bitAt v 0
  let t := { s.tbs with ppsOutEn := bitAt v 1, ppsOut := s.tbs.ppsOut && bitAt v 1 }
  if en && !s.tbs.ppsEn then { s with tbs := { t with ppsEn := true, sync := .acquiring, integ := 0, good := 0, lastEdge := none } }
  else if en then { s with tbs := t }
  else { s with tbs := { t with ppsEn := false, sync := .free } }

end Sys2Proof.Machine
end

