-- ==== Sys2Proof/Machine/Registers.lean ====
section
/-! DEFINITION. Host accesses to BAR0 (R7 to R11, R74, R100, R101, R397, R589): reads of registers with the latch for wide ones,
and writes by their access codes. -/

namespace Sys2Proof.Machine

/-- A host access reaches the function: it exists, the device is out of power-on reset, and the offset lies in its BAR0, its BAR2 or,
while the link is up, its configuration space (R95, R96). -/
def barReached (s : State) (f : FnId) (off : Nat) : Bool :=
  s.fnExists f && s.pwr.main && !s.pwr.por && (decide (off < 0x1004000) || (s.port f.port).linkUp && decide (0x2000000 ≤ off) && decide (off < 0x2001000))

/-- In HALTED only the identification header, CORE, FNT_STATUS and TBS_NOW answer (R480). -/
def haltedAnswers (f : FnId) (off : Nat) : Bool :=
  decide (off < 0x140) || (isPf0 f && (decide (0x105000 ≤ off) && decide (off < 0x105004) || decide (0x102400 ≤ off) && decide (off < 0x102408)))

/-! ## Reads -/

/-- The n bytes at an offset of a register's value. -/
def regPart (base v off n : Nat) : Nat := v / 2 ^ (8 * (off - base)) % 2 ^ (8 * n)

/-- Read n bytes within one register (R101): the lowest word of a register wider than the access latches it, a later word returns the
latched value. -/
def State.readPart (s : State) (f : FnId) (off n : Nat) : Nat × State :=
  match hostReg s f off with
  | none => (0, s)
  | some (b, w, v) =>
    let s1 := if b = 0x104410 && s.vlt.rewrap then { s with freeCtr := s.freeCtr + 1 } else s
    if w ≤ n then (regPart b v off n, s1)
    else if off = b then
      let x := s1.fn f
      (v % 2 ^ (8 * n), s1.setFn f { x with latch := tabSet x.latch b v })
    else (regPart b ((tabFind (s.fn f).latch b).getD v) off n, s1)

/-- Bytes of the register at an offset, 4 where there is none. -/
def regWidth (s : State) (f : FnId) (off : Nat) : Nat := match hostReg s f off with | some r => r.2.1 | none => 4

/-- R100: an access of 32 or 64 bits, naturally aligned. -/
def aligned (off size : Nat) : Bool := (size == 4 || size == 8) && off % size == 0

/-- Read an aligned 32-bit or 64-bit access: one register's word, or two 32-bit registers. -/
def State.readBar (s : State) (f : FnId) (off : Nat) (quad : Bool) : Nat × State :=
  if 0x1000000 ≤ off then (outerWord s f off + (if quad then outerWord s f (off + 4) * 2 ^ 32 else 0), s)
  else if !quad then s.readPart f off 4
  else if 8 ≤ regWidth s f off then s.readPart f off 8
  else
    let lo := s.readPart f off 4
    let hi := lo.2.readPart f (off + 4) 4
    (lo.1 + hi.1 * 2 ^ 32, hi.2)

/-- WIDE_REGISTER_READ (R74, R100, R101, R397): an aligned read of BAR0, of BAR2 or of the configuration space; any other completes with Unsupported Request. -/
def execWideRegisterRead (f : FnId) (off : Nat) (size : Nat) (s : State) : Host.Outcome State Fault Refusal :=
  if !barReached s f off then .next s
  else if !aligned off size then .next (s.emit (.unsupportedRequest f off))
  else if s.fnt.op == .halted && !haltedAnswers f off && decide (off < 0x2000000) then .next s
  else
    let r := s.readBar f off (size == 8)
    .next (r.2.emit (.readReply f off (BitVec.ofNat 64 r.1)))

/-! ## Writes -/

/-- A W1C write to an event register of n flags (R8, R9, R11). -/
def clearEvents (e : Events) (n v : Nat) (arrived : BitVec 64) : Events :=
  e.clear (BitVec.ofNat 8 (v % 2 ^ n)) (BitVec.ofNat 64 (arrived.toNat % 2 ^ (8 * n)))

/-- A write of an EVENT register (R8, R9); none where the offset holds none. -/
def State.writeEvent (s : State) (f : FnId) (off v : Nat) (arr : BitVec 64) : Option State :=
  if off = 0x100004 then some (s.setFn f { s.fn f with event := clearEvents (s.fn f).event 5 v arr })
  else if !isPf0 f then none
  else if off = 0x102004 then some { s with lay := { s.lay with event := clearEvents s.lay.event 5 v arr } }
  else if off = 0x10240C then some { s with tbs := { s.tbs with event := clearEvents s.tbs.event 8 v arr } }
  else if off = 0x103008 then some { s with slu := { s.slu with event := clearEvents s.slu.event 4 v arr } }
  else if off = 0x1030D8 then some { s with slu := { s.slu with raEvent := clearEvents s.slu.raEvent 2 v arr } }
  else if off = 0x103804 then some { s with bsn := { s.bsn with vloopEvent := clearEvents s.bsn.vloopEvent 4 v arr } }
  else if off = 0x103904 then some { s with bsn := { s.bsn with event := clearEvents s.bsn.event 8 v arr } }
  else if off = 0x104004 then some { s with cis := { s.cis with event := clearEvents s.cis.event 4 v arr } }
  else if off = 0x104404 then some { s with vlt := { s.vlt with event := clearEvents s.vlt.event 8 v arr } }
  else if off = 0x104804 then some { s with wei := { s.wei with event := clearEvents s.wei.event 7 v arr } }
  else if off = 0x104C04 then some { s with spg := { s.spg with event := clearEvents s.spg.event 7 v arr } }
  else if off = 0x105004 then some { s with fnt := { s.fnt with event := clearEvents s.fnt.event 8 v arr } }
  else if off = 0x10540C then some { s with gro := { s.gro with event := clearEvents s.gro.event 6 v arr } }
  else if off = 0x105804 then some { s with ccb := { s.ccb with event := clearEvents s.ccb.event 5 v arr } }
  else if off = 0x105C04 then some { s with cls := { s.cls with event := clearEvents s.cls.event 4 v arr } }
  else if off = 0x106004 then some { s with psp := { s.psp with event := clearEvents s.psp.event 5 v arr } }
  else none

/-- A write of TBS_PPS_OFFSET (R10, 04): lockable; a value above 999,999,999 is ignored. -/
def State.writePpsOffset (s : State) (v : Nat) : State :=
  if s.lockable && decide (v % 2 ^ 30 ≤ 999999999) then { s with tbs := { s.tbs with ppsOffset := v % 2 ^ 30 } } else s

/-- A write of FNT_CTRL (21). -/
def State.writeFntCtrl (s : State) (f : FnId) (v : Nat) : State :=
  let s1 := { s with fnt := { s.fnt with eventMsg := bitAt v 2 } }
  let s2 := if bitAt v 0 then nextOr (execLeaveMaint f s1) s1 else s1
  if bitAt v 1 then nextOr (execFwSwitch f s2) s2 else s2

/-- A write of CCB_CTRL (24): a CLOCK_LIMIT of 3 is discarded. -/
def State.writeCcbCtrl (s : State) (v : Nat) : State :=
  let c := bitsAt v 1 2
  { s with ccb := { s.ccb with eventMsg := bitAt v 0, clockLimit := if c = 3 then s.ccb.clockLimit else c } }

/-- A write of CLS_CTRL (25): a period below 50 ms and a threshold of 0 are discarded. -/
def State.writeClsCtrl (s : State) (v : Nat) : State :=
  let p := bitsAt v 4 8
  let t := bitsAt v 12 4
  { s with cls := { s.cls with
    eventMsg := bitAt v 0, pingEn := bitAt v 1, rateLimit := bitsAt v 2 2
    pingPeriod := if p < 50 then s.cls.pingPeriod else p
    pingThresh := if t = 0 then s.cls.pingThresh else t } }

/-- A write of a 32-bit register of the function itself (05, 06). -/
def State.writeFn32 (s : State) (f : FnId) (off v : Nat) : State :=
  if off = 0x10000C then s.setFn f { s.fn f with evVector := v % 64, evEnable := bitAt v 31 }
  else if off = 0x100010 then nextOr (execReattach f (BitVec.ofNat 32 v) s) s
  else if 0x101000 ≤ off && off < 0x101800 && off % 32 = 16 then s.writeQueueCtrl f ((off - 0x101000) / 32) (BitVec.ofNat 32 v)
  else s

/-- A write of a 32-bit device-wide register, through a PF0 (R589). -/
def State.writeDev32 (s : State) (f : FnId) (off v : Nat) (arr : BitVec 64) : State :=
  let b := BitVec.ofNat 32 v
  if off = 0x102420 then s.writePpsOffset v
  else if off = 0x102424 then s.writeTbsCtrl v
  else if off = 0x103000 then nextOr (execSluCtrlWrite f b s) s
  else if off = 0x103010 then { s with slu := { s.slu with parkIdle := v } }
  else if off = 0x103014 then ({ s with slu := { s.slu with wakeBacklog := v } }).wakeForBacklog
  else if off = 0x10380C then nextOr (execAvsCeilWrite f b s) s
  else if off = 0x103900 then { s with bsn := { s.bsn with eventMsg := bitAt v 0 } }
  else if off = 0x103910 then (if bitAt v 0 then nextOr (execRollingUpdate f s) s else s)
  else if off = 0x104448 then nextOr (execMirrorCtrlWrite f b s) s
  else if off = 0x104C10 then nextOr (execReseedRequest f b s) s
  else if off = 0x105010 then s.writeFntCtrl f v
  else if off = 0x105404 then nextOr (execStickyClear f b (arr.zeroExtend 16) s) s
  else if off = 0x105424 then nextOr (execFuseOff f b s) s
  else if off = 0x105810 then s.writeCcbCtrl v
  else if off = 0x105C10 then s.writeClsCtrl v
  else s

/-- A write of a 32-bit register. -/
def State.write32 (s : State) (f : FnId) (off v : Nat) (arr : BitVec 64) : State :=
  match s.writeEvent f off v arr with
  | some t => t
  | none => if off < 0x102000 then s.writeFn32 f off v else if isPf0 f then s.writeDev32 f off v arr else s

/-- The value a write leaves in a 64-bit register of present value p (0 for a WO register), half by half (R101). -/
def joinHalves (p : Nat) (lo hi : Option Nat) : Nat := lo.getD (p % 2 ^ 32) + hi.getD (p / 2 ^ 32 % 2 ^ 32) * 2 ^ 32

/-- A write of VLT_RELOAD (13): RESTART, then TAIL, then END. -/
def State.writeReload (s : State) (f : FnId) (lo hi : Option Nat) : State :=
  let h := hi.getD 0
  let s1 := if bitAt h 1 then nextOr (execReloadRestart f s) s else s
  let s2 := match lo with | some v => nextOr (execReloadTail f (BitVec.ofNat 32 v) s1) s1 | none => s1
  if bitAt h 0 then nextOr (execReloadEnd f s2) s2 else s2

/-- A write of WEL_Q_SQ_BASE or WEL_Q_CQ_BASE of queue q: discarded while ENABLE is set (R121). -/
def State.writeRing (s : State) (f : FnId) (q : Nat) (cq : Bool) (lo hi : Option Nat) : State :=
  let x := s.queue f q
  let v := BitVec.ofNat 64 (joinHalves (if cq then x.cqBase.toNat else x.sqBase.toNat) lo hi / 4096 * 4096)
  if x.enabled then s else s.setQueue f q (if cq then { x with cqBase := v } else { x with sqBase := v })

/-- A write of a 64-bit register, of the halves given. -/
def State.write64 (s : State) (f : FnId) (b : Nat) (lo hi : Option Nat) : State :=
  let wo := BitVec.ofNat 64 (joinHalves 0 lo hi)
  if 0x101000 ≤ b && b < 0x101800 && b % 32 < 16 then s.writeRing f ((b - 0x101000) / 32) (b % 32 == 8) lo hi
  else if !isPf0 f then s
  else if b = 0x102428 then nextOr (execTbsStep f wo s) s
  else if b = 0x102430 then nextOr (execTbsSet f wo s) s
  else if b = 0x102438 then nextOr (execTbsSlew f wo s) s
  else if b = 0x104410 then (if bitAt (lo.getD 0) 0 then nextOr (execRewrapGo f s) s else s)
  else if b = 0x104440 then
    (if s.vlt.mirrorEn then s
     else { s with vlt := { s.vlt with mirrorBase := BitVec.ofNat 64 (joinHalves s.vlt.mirrorBase.toNat lo hi / 4096 * 4096) } })
  else if b = 0x104458 then nextOr (execMirrorAck f (BitVec.ofNat 64 (joinHalves s.vlt.mirrorAck lo hi)) s) s
  else if b = 0x104470 then s.writeReload f lo hi
  else s

/-- SPG_PERS, the one writable register wider than 64 bits: its held words take effect with the highest one (R101). -/
def State.writePers (s : State) (f : FnId) : State :=
  let x := s.fn f
  let word (i : Nat) : Nat := (tabFind x.heldWords (0x104C20 + 4 * i)).getD (bitsAt s.spg.pers.toNat (32 * i) 32)
  let v := ((List.range 8).map (fun i => word i * 2 ^ (32 * i))).sum
  ({ s with spg := { s.spg with pers := BitVec.ofNat 256 v } }).setFn f
    { x with heldWords := x.heldWords.filter (fun w => decide (w.1 < 0x104C20) || decide (0x104C40 ≤ w.1)) }

/-- A 32-bit word of a wide register, held for the writing function (R101). -/
def State.holdWord (s : State) (f : FnId) (off v : Nat) : State :=
  if isPf0 f && decide (0x104C20 ≤ off) && decide (off < 0x104C40) then
    s.setFn f { s.fn f with heldWords := tabSet (s.fn f).heldWords off v }
  else s

/-- A doorbell write (R123). -/
def State.writeDoorbell (s : State) (f : FnId) (off v : Nat) : State :=
  let q := (off - 0x10000) / 8
  let b := BitVec.ofNat 32 v
  if 64 ≤ q then s
  else if off % 8 = 0 then nextOr (execSubmissionTailDoorbell f q b s) s else nextOr (execCompletionHeadDoorbell f q b s) s

/-- One aligned 32-bit word of a write. -/
def State.writeWord (s : State) (f : FnId) (off v : Nat) (arr : BitVec 64) : State :=
  if 0x10000 ≤ off && off < 0x100000 then s.writeDoorbell f off v
  else
    match hostReg s f off with
    | none => s
    | some (b, w, _) =>
      if w ≤ 4 then s.write32 f off v arr
      else if w = 8 then (if off = b then s.write64 f b (some v) none else s.write64 f b none (some v))
      else
        let s1 := s.holdWord f off v
        if off = 0x104C3C && isPf0 f then s1.writePers f else s1

/-- An aligned write: a 64-bit one to a 64-bit register takes effect as one, any other word by word. -/
def State.writeBar (s : State) (f : FnId) (off : Nat) (quad : Bool) (v : Nat) (arr : BitVec 64) : State :=
  let lo := v % 2 ^ 32
  let hi := v / 2 ^ 32 % 2 ^ 32
  if 0x1000000 ≤ off then (if quad then (s.writeOuter f off lo).writeOuter f (off + 4) hi else s.writeOuter f off lo)
  else if !quad then s.writeWord f off lo arr
  else if off < 0x10000 || 0x100000 ≤ off then
    (if regWidth s f off = 8 then s.write64 f off (some lo) (some hi) else (s.writeWord f off lo arr).writeWord f (off + 4) hi arr)
  else (s.writeWord f off lo arr).writeWord f (off + 4) hi arr

/-- REGISTER_WRITE (R7 to R11, R100, R101, R397, R589): an aligned write of BAR0, of BAR2 or of the configuration space takes effect by the register's
access codes;
`arrived` are the set events that arrive during a W1C clear. -/
def execRegisterWrite (f : FnId) (off : Nat) (size : Nat) (v : BitVec 64) (arrived : BitVec 64) (s : State) : Host.Outcome State Fault Refusal :=
  if !barReached s f off then .next s
  else if !aligned off size then .next (s.emit (.unsupportedRequest f off))
  else if s.fnt.op == .halted && decide (off < 0x2000000) then .next s
  else .next (s.writeBar f off (size == 8) v.toNat arrived)

end Sys2Proof.Machine
end

