-- ==== Sys2Proof/Machine/Verdict.lean ====
section
/-! DEFINITION. The rows of admission (R151) and of the verdict (R168, R190): the launches that are due come first. -/

namespace Sys2Proof.Machine

/-- ADMISSION (R24, R87, R99, R125, R151, R173): a launch that is due is applied first; a reply of an older generation of the function is discarded; the
descriptor read arrives, and parked basins wake where it takes a pool over the threshold; a failed read is ERROR cause 3, reported through AER. -/
def execAdmission (f : FnId) (q : Nat) (r : FetchReply) (s0 : State) : Host.Outcome State Fault Refusal :=
  let s := s0.fireDue 64
  let x := s.queue f q
  match x.fetching with
  | none => .next s
  | some slot =>
    if r.gen ≠ (s.fn f).generation then .next s
    else
      match r.result with
      | .data bytes =>
        let x1 := { x with fetching := none, sqHead := (slot + 1) % x.depth, starts := x.starts.drop 1 }
        .next (((s.setQueue f q x1).arrive f q { slot := slot, desc := padTo 128 bytes, start := x.starts.headD s.now }).wakeForBacklog)
      | .unsupported => .next ((s.setQueue f q { x with fetching := none, errorCause := 3 }).aerError f 20)
      | .poisoned => .next ((s.setQueue f q { x with fetching := none, errorCause := 3 }).aerError f 12)

/-- VERDICT (R168, R190): a launch that is due is applied first; then ALLOW, or DENY and the squash. An evaluation after a launch or a change of a
named key since admission is a fresh one, under the newest rules and key states, and is counted. -/
def execVerdict (e : Nat) (s0 : State) : Host.Outcome State Fault Refusal :=
  let s1 := s0.fireDue 64
  match s1.cmd e with
  | none => .next s1
  | some c =>
    if !verdictReady s1 c then .next s1
    else
      let s := if c.recheck then { s1 with slu := { s1.slu with rechecked := s1.slu.rechecked + 1 } } else s1
      match denial s c.fn (classFor s c) c.desc c.input with
      | none =>
        let t := s.allow e c
        .next (match c.basin with | some b => t.reserveForJob b e | none => t)
      | some st => .next ((if c.recheck then s.raEvent 1 else s).squash e st)

end Sys2Proof.Machine
end

