-- ==== Sys2Proof/Machine/Dispatch.lean ====
section
/-! DEFINITION. The effect of each command on everything but the queue of waiting commands: one arm per row of the
opcode table. -/

namespace Sys2Proof.Machine

def exec (i : Instr) (s : State) : Host.Outcome State Fault Refusal :=
  match i with
  | .submissionTailDoorbell f q v => Sys2Proof.Machine.execSubmissionTailDoorbell f q v s
  | .completionHeadDoorbell f q v => Sys2Proof.Machine.execCompletionHeadDoorbell f q v s
  | .descriptorFetch f q => Sys2Proof.Machine.execDescriptorFetch f q s
  | .admission f q r => Sys2Proof.Machine.execAdmission f q r s
  | .wakeComplete b => Sys2Proof.Machine.execWakeComplete b s
  | .parkBasin b => Sys2Proof.Machine.execParkBasin b s
  | .sluCtrlWrite f v => Sys2Proof.Machine.execSluCtrlWrite f v s
  | .dispatch b cascade => Sys2Proof.Machine.execDispatch b cascade s
  | .segmentBoundary b => Sys2Proof.Machine.execSegmentBoundary b s
  | .hostReadCompletion a gen k r => Sys2Proof.Machine.execHostReadCompletion a gen k r s
  | .keyFillComplete a g handle ends => Sys2Proof.Machine.execKeyFillComplete a g handle ends s
  | .fillBufferGrant e handle => Sys2Proof.Machine.execFillBufferGrant e handle s
  | .workBufferGrant e => Sys2Proof.Machine.execWorkBufferGrant e s
  | .stripeComplete a gen stripe => Sys2Proof.Machine.execStripeComplete a gen stripe s
  | .verdict e => Sys2Proof.Machine.execVerdict e s
  | .nonceReservationPersisted handle => Sys2Proof.Machine.execNonceReservationPersisted handle s
  | .retirement e => Sys2Proof.Machine.execRetirement e s
  | .postCompletion f q => Sys2Proof.Machine.execPostCompletion f q s
  | .msixCoalesceTimeout f q => Sys2Proof.Machine.execMsixCoalesceTimeout f q s
  | .msixVectorUnmask f vector => Sys2Proof.Machine.execMsixVectorUnmask f vector s
  | .retentionExpiry f q tag => Sys2Proof.Machine.execRetentionExpiry f q tag s
  | .queueEnable f q v => Sys2Proof.Machine.execQueueEnable f q v s
  | .queueDisable f q v => Sys2Proof.Machine.execQueueDisable f q v s
  | .nop e => Sys2Proof.Machine.execNop e s
  | .batchArm e => Sys2Proof.Machine.execBatchArm e s
  | .launchCancel e => Sys2Proof.Machine.execLaunchCancel e s
  | .pinTranslate e => Sys2Proof.Machine.execPinTranslate e s
  | .pinVerify e => Sys2Proof.Machine.execPinVerify e s
  | .macGenerate e => Sys2Proof.Machine.execMacGenerate e s
  | .macVerify e => Sys2Proof.Machine.execMacVerify e s
  | .arqcVerify e => Sys2Proof.Machine.execArqcVerify e s
  | .cvvCompute e => Sys2Proof.Machine.execCvvCompute e s
  | .cvvVerify e => Sys2Proof.Machine.execCvvVerify e s
  | .aeadSeal e => Sys2Proof.Machine.execAeadSeal e s
  | .aeadOpen e => Sys2Proof.Machine.execAeadOpen e s
  | .tokenEncode e => Sys2Proof.Machine.execTokenEncode e s
  | .tokenDecode e => Sys2Proof.Machine.execTokenDecode e s
  | .digest e => Sys2Proof.Machine.execDigest e s
  | .hmac e => Sys2Proof.Machine.execHmac e s
  | .random e => Sys2Proof.Machine.execRandom e s
  | .randomNotSeededDeadline e => Sys2Proof.Machine.execRandomNotSeededDeadline e s
  | .sign e => Sys2Proof.Machine.execSign e s
  | .verify e => Sys2Proof.Machine.execVerify e s
  | .pairedVerify e => Sys2Proof.Machine.execPairedVerify e s
  | .kemEncaps e => Sys2Proof.Machine.execKemEncaps e s
  | .kemDecaps e => Sys2Proof.Machine.execKemDecaps e s
  | .ecdh e => Sys2Proof.Machine.execEcdh e s
  | .keypairGenerate e => Sys2Proof.Machine.execKeypairGenerate e s
  | .attest e => Sys2Proof.Machine.execAttest e s
  | .keyImport e => Sys2Proof.Machine.execKeyImport e s
  | .keyExport e => Sys2Proof.Machine.execKeyExport e s
  | .keyGenerate e => Sys2Proof.Machine.execKeyGenerate e s
  | .keyDerive e => Sys2Proof.Machine.execKeyDerive e s
  | .keyState e => Sys2Proof.Machine.execKeyState e s
  | .keyDestroy e => Sys2Proof.Machine.execKeyDestroy e s
  | .layoutLoad e => Sys2Proof.Machine.execLayoutLoad e s
  | .layoutStage e => Sys2Proof.Machine.execLayoutStage e s
  | .layoutDiscard e => Sys2Proof.Machine.execLayoutDiscard e s
  | .firmwareStage e => Sys2Proof.Machine.execFirmwareStage e s
  | .launchSchedule e => Sys2Proof.Machine.execLaunchSchedule e s
  | .quorumOpen e => Sys2Proof.Machine.execQuorumOpen e s
  | .quorumCollect e => Sys2Proof.Machine.execQuorumCollect e s
  | .quorumAbort e => Sys2Proof.Machine.execQuorumAbort e s
  | .quorumCommit e => Sys2Proof.Machine.execQuorumCommit e s
  | .gaugeRead e => Sys2Proof.Machine.execGaugeRead e s
  | .passportRecordWrite e => Sys2Proof.Machine.execPassportRecordWrite e s
  | .eraseNotes e => Sys2Proof.Machine.execEraseNotes e s
  | .passportIncrement e => Sys2Proof.Machine.execPassportIncrement e s
  | .setPassword e => Sys2Proof.Machine.execSetPassword e s
  | .debugInstall e => Sys2Proof.Machine.execDebugInstall e s
  | .debugRemove e => Sys2Proof.Machine.execDebugRemove e s
  | .entropyRaw e => Sys2Proof.Machine.execEntropyRaw e s
  | .rawRunEnd samples rct apt => Sys2Proof.Machine.execRawRunEnd samples rct apt s
  | .vaultRestore e => Sys2Proof.Machine.execVaultRestore e s
  | .launchInstant => Sys2Proof.Machine.execLaunchInstant s
  | .layoutSlotCommit => Sys2Proof.Machine.execLayoutSlotCommit s
  | .epochDrained => Sys2Proof.Machine.execEpochDrained s
  | .launchSequenceDrained => Sys2Proof.Machine.execLaunchSequenceDrained s
  | .swapDrained => Sys2Proof.Machine.execSwapDrained s
  | .basinDrainTimeout b => Sys2Proof.Machine.execBasinDrainTimeout b s
  | .paceWindow cycles256 => Sys2Proof.Machine.execPaceWindow cycles256 s
  | .loopPeriod => Sys2Proof.Machine.execLoopPeriod s
  | .avsReadBack => Sys2Proof.Machine.execAvsReadBack s
  | .avsCeilWrite f v => Sys2Proof.Machine.execAvsCeilWrite f v s
  | .stall u el e => Sys2Proof.Machine.execStall u el e s
  | .railCollision u el e => Sys2Proof.Machine.execRailCollision u el e s
  | .refLost => Sys2Proof.Machine.execRefLost s
  | .refRestored => Sys2Proof.Machine.execRefRestored s
  | .syncPairWrite => Sys2Proof.Machine.execSyncPairWrite s
  | .tbsStep f v => Sys2Proof.Machine.execTbsStep f v s
  | .counterStep => Sys2Proof.Machine.execCounterStep s
  | .tbsSet f v => Sys2Proof.Machine.execTbsSet f v s
  | .counterSet => Sys2Proof.Machine.execCounterSet s
  | .tbsSlew f v => Sys2Proof.Machine.execTbsSlew f v s
  | .slewEnd => Sys2Proof.Machine.execSlewEnd s
  | .ppsEdge => Sys2Proof.Machine.execPpsEdge s
  | .holdover => Sys2Proof.Machine.execHoldover s
  | .ppsOutRise => Sys2Proof.Machine.execPpsOutRise s
  | .ppsOutFall => Sys2Proof.Machine.execPpsOutFall s
  | .linkDown port => Sys2Proof.Machine.execLinkDown port s
  | .linkUp port rate width => Sys2Proof.Machine.execLinkUp port rate width s
  | .perstAssert port => Sys2Proof.Machine.execPerstAssert port s
  | .holdExpired f q => Sys2Proof.Machine.execHoldExpired f q s
  | .reattach f v => Sys2Proof.Machine.execReattach f v s
  | .functionLevelReset f => Sys2Proof.Machine.execFunctionLevelReset f s
  | .flrComplete f => Sys2Proof.Machine.execFlrComplete f s
  | .vfEnableSet port numVfs => Sys2Proof.Machine.execVfEnableSet port numVfs s
  | .vfEnableClear port => Sys2Proof.Machine.execVfEnableClear port s
  | .powerStateChange f d3hot => Sys2Proof.Machine.execPowerStateChange f d3hot s
  | .ideCheckFailure port => Sys2Proof.Machine.execIdeCheckFailure port s
  | .ideKmMessage port msg => Sys2Proof.Machine.execIdeKmMessage port msg s
  | .spdmMessage port msg => Sys2Proof.Machine.execSpdmMessage port msg s
  | .wideRegisterRead f off size => Sys2Proof.Machine.execWideRegisterRead f off size s
  | .registerWrite f off size v arrived => Sys2Proof.Machine.execRegisterWrite f off size v arrived s
  | .checkingPipeMismatch b jet e => Sys2Proof.Machine.execCheckingPipeMismatch b jet e s
  | .hashParityFailure b jet e => Sys2Proof.Machine.execHashParityFailure b jet e s
  | .fabricTagFailure sender receiver e => Sys2Proof.Machine.execFabricTagFailure sender receiver e s
  | .sramUncorrectable x word => Sys2Proof.Machine.execSramUncorrectable x word s
  | .sramCorrection b => Sys2Proof.Machine.execSramCorrection b s
  | .keeperLockstepMismatch x => Sys2Proof.Machine.execKeeperLockstepMismatch x s
  | .restartVerifyDone ok => Sys2Proof.Machine.execRestartVerifyDone ok s
  | .sequencerControlFault x => Sys2Proof.Machine.execSequencerControlFault x s
  | .faultRetestDone b pass => Sys2Proof.Machine.execFaultRetestDone b pass s
  | .admissionSelfTestDone b pass => Sys2Proof.Machine.execAdmissionSelfTestDone b pass s
  | .spareSelfTest pass => Sys2Proof.Machine.execSpareSelfTest pass s
  | .rollingUpdate f => Sys2Proof.Machine.execRollingUpdate f s
  | .updateBasinDone b pass => Sys2Proof.Machine.execUpdateBasinDone b pass s
  | .jetJob b job => Sys2Proof.Machine.execJetJob b job s
  | .jobDone b => Sys2Proof.Machine.execJobDone b s
  | .modset b o => Sys2Proof.Machine.execModset b o s
  | .madd b o => Sys2Proof.Machine.execMadd b o s
  | .msub b o => Sys2Proof.Machine.execMsub b o s
  | .mmul b o => Sys2Proof.Machine.execMmul b o s
  | .mred b o => Sys2Proof.Machine.execMred b o s
  | .minv b o => Sys2Proof.Machine.execMinv b o s
  | .mexp b o => Sys2Proof.Machine.execMexp b o s
  | .imul b o => Sys2Proof.Machine.execImul b o s
  | .iadd b o => Sys2Proof.Machine.execIadd b o s
  | .move b o => Sys2Proof.Machine.execMove b o s
  | .cswap b o => Sys2Proof.Machine.execCswap b o s
  | .csel b o => Sys2Proof.Machine.execCsel b o s
  | .loadkey b o => Sys2Proof.Machine.execLoadkey b o s
  | .rand b o => Sys2Proof.Machine.execRand b o s
  | .wipe b o => Sys2Proof.Machine.execWipe b o s
  | .check b o => Sys2Proof.Machine.execCheck b o s
  | .declass b o => Sys2Proof.Machine.execDeclass b o s
  | .kstore b o => Sys2Proof.Machine.execKstore b o s
  | .ntt b o => Sys2Proof.Machine.execNtt b o s
  | .intt b o => Sys2Proof.Machine.execIntt b o s
  | .pmul b o => Sys2Proof.Machine.execPmul b o s
  | .padd b o => Sys2Proof.Machine.execPadd b o s
  | .psub b o => Sys2Proof.Machine.execPsub b o s
  | .sample b o => Sys2Proof.Machine.execSample b o s
  | .round b o => Sys2Proof.Machine.execRound b o s
  | .norm b o => Sys2Proof.Machine.execNorm b o s
  | .pack b o => Sys2Proof.Machine.execPack b o s
  | .unpack b o => Sys2Proof.Machine.execUnpack b o s
  | .seqOpen b o => Sys2Proof.Machine.execSeqOpen b o s
  | .seqClose b o => Sys2Proof.Machine.execSeqClose b o s
  | .cascadeCommandDone b => Sys2Proof.Machine.execCascadeCommandDone b s
  | .casWindowRead b => Sys2Proof.Machine.execCasWindowRead b s
  | .casWindowWrite b v => Sys2Proof.Machine.execCasWindowWrite b v s
  | .dieRetrain d ok => Sys2Proof.Machine.execDieRetrain d ok s
  | .dieLost d => Sys2Proof.Machine.execDieLost d s
  | .rewrapGo f => Sys2Proof.Machine.execRewrapGo f s
  | .rewrapThreshold d => Sys2Proof.Machine.execRewrapThreshold d s
  | .rewrapDone => Sys2Proof.Machine.execRewrapDone s
  | .mirrorEntryWrite => Sys2Proof.Machine.execMirrorEntryWrite s
  | .mirrorAck f v => Sys2Proof.Machine.execMirrorAck f v s
  | .mirrorAckReadback entry => Sys2Proof.Machine.execMirrorAckReadback entry s
  | .mirrorCtrlWrite f v => Sys2Proof.Machine.execMirrorCtrlWrite f v s
  | .reloadTail f v => Sys2Proof.Machine.execReloadTail f v s
  | .reloadEntry entry => Sys2Proof.Machine.execReloadEntry entry s
  | .reloadEnd f => Sys2Proof.Machine.execReloadEnd f s
  | .reloadRestart f => Sys2Proof.Machine.execReloadRestart f s
  | .weiKselWrite pair v => Sys2Proof.Machine.execWeiKselWrite pair v s
  | .weirRekey => Sys2Proof.Machine.execWeirRekey s
  | .tagKeyRetire => Sys2Proof.Machine.execTagKeyRetire s
  | .debugAccess addr write lenM1 data => Sys2Proof.Machine.execDebugAccess addr write lenM1 data s
  | .debugAccessResponse => Sys2Proof.Machine.execDebugAccessResponse s
  | .mov p rd rs => Sys2Proof.Machine.execMov p rd rs s
  | .add p o => Sys2Proof.Machine.execAdd p o s
  | .sub p o => Sys2Proof.Machine.execSub p o s
  | .adc p o => Sys2Proof.Machine.execAdc p o s
  | .sbb p o => Sys2Proof.Machine.execSbb p o s
  | .and p o => Sys2Proof.Machine.execAnd p o s
  | .or p o => Sys2Proof.Machine.execOr p o s
  | .xor p o => Sys2Proof.Machine.execXor p o s
  | .andn p o => Sys2Proof.Machine.execAndn p o s
  | .tst p rd rs => Sys2Proof.Machine.execTst p rd rs s
  | .cmp p o => Sys2Proof.Machine.execCmp p o s
  | .shl p o => Sys2Proof.Machine.execShl p o s
  | .shr p o => Sys2Proof.Machine.execShr p o s
  | .sar p o => Sys2Proof.Machine.execSar p o s
  | .ror p o => Sys2Proof.Machine.execRor p o s
  | .not p rd rs => Sys2Proof.Machine.execNot p rd rs s
  | .neg p rd rs => Sys2Proof.Machine.execNeg p rd rs s
  | .mul p o => Sys2Proof.Machine.execMul p o s
  | .mulh p o => Sys2Proof.Machine.execMulh p o s
  | .bswap p o => Sys2Proof.Machine.execBswap p o s
  | .clz p o => Sys2Proof.Machine.execClz p o s
  | .popc p o => Sys2Proof.Machine.execPopc p o s
  | .movi p o => Sys2Proof.Machine.execMovi p o s
  | .movhi p rd imm16 => Sys2Proof.Machine.execMovhi p rd imm16 s
  | .andi p rd imm16 => Sys2Proof.Machine.execAndi p rd imm16 s
  | .ori p rd imm16 => Sys2Proof.Machine.execOri p rd imm16 s
  | .addi p o => Sys2Proof.Machine.execAddi p o s
  | .cmpi p o => Sys2Proof.Machine.execCmpi p o s
  | .extf p rd rs imm14 => Sys2Proof.Machine.execExtf p rd rs imm14 s
  | .insf p rd rs imm14 => Sys2Proof.Machine.execInsf p rd rs imm14 s
  | .ld p o => Sys2Proof.Machine.execLd p o s
  | .fabricLoadReturn p r => Sys2Proof.Machine.execFabricLoadReturn p r s
  | .st p o => Sys2Proof.Machine.execSt p o s
  | .jcc p o => Sys2Proof.Machine.execJcc p o s
  | .call p disp20 => Sys2Proof.Machine.execCall p disp20 s
  | .jr p rs => Sys2Proof.Machine.execJr p rs s
  | .callr p rs => Sys2Proof.Machine.execCallr p rs s
  | .ret p => Sys2Proof.Machine.execRet p s
  | .ldl p rd disp20 => Sys2Proof.Machine.execLdl p rd disp20 s
  | .push p reg => Sys2Proof.Machine.execPush p reg s
  | .pop p reg => Sys2Proof.Machine.execPop p reg s
  | .keeperNop p => Sys2Proof.Machine.execKeeperNop p s
  | .btst p bit => Sys2Proof.Machine.execBtst p bit s
  | .bset p bit arrived => Sys2Proof.Machine.execBset p bit arrived s
  | .bclr p bit => Sys2Proof.Machine.execBclr p bit s
  | .bnot p bit => Sys2Proof.Machine.execBnot p bit s
  | .btas p bit => Sys2Proof.Machine.execBtas p bit s
  | .brd p rd bit => Sys2Proof.Machine.execBrd p rd bit s
  | .bwr p rd bit arrived => Sys2Proof.Machine.execBwr p rd bit arrived s
  | .bcopy p o => Sys2Proof.Machine.execBcopy p o s
  | .bfill p o => Sys2Proof.Machine.execBfill p o s
  | .bcmp p o => Sys2Proof.Machine.execBcmp p o s
  | .bseek p o => Sys2Proof.Machine.execBseek p o s
  | .bxor p o => Sys2Proof.Machine.execBxor p o s
  | .bzero p o => Sys2Proof.Machine.execBzero p o s
  | .movsg p sr rs => Sys2Proof.Machine.execMovsg p sr rs s
  | .movgs p rd sr => Sys2Proof.Machine.execMovgs p rd sr s
  | .movsr p sr rs => Sys2Proof.Machine.execMovsr p sr rs s
  | .movrs p rd sr => Sys2Proof.Machine.execMovrs p rd sr s
  | .callg p imm12 => Sys2Proof.Machine.execCallg p imm12 s
  | .retg p => Sys2Proof.Machine.execRetg p s
  | .rnd p rd => Sys2Proof.Machine.execRnd p rd s
  | .fence p => Sys2Proof.Machine.execFence p s
  | .fenceComplete p => Sys2Proof.Machine.execFenceComplete p s
  | .wait p => Sys2Proof.Machine.execWait p s
  | .waitWake p => Sys2Proof.Machine.execWaitWake p s
  | .undefinedInstruction p => Sys2Proof.Machine.execUndefinedInstruction p s
  | .interruptEntry p => Sys2Proof.Machine.execInterruptEntry p s
  | .watchdogExpiry p => Sys2Proof.Machine.execWatchdogExpiry p s
  | .watchdogKick p => Sys2Proof.Machine.execWatchdogKick p s
  | .timerFire p k => Sys2Proof.Machine.execTimerFire p k s
  | .sourceBlock srcB bias lag1 lag2 lag3 => Sys2Proof.Machine.execSourceBlock srcB bias lag1 lag2 lag3 s
  | .sourceWindow srcB rctRun aptCount blocks => Sys2Proof.Machine.execSourceWindow srcB rctRun aptCount blocks s
  | .sourceSettleEnd srcB => Sys2Proof.Machine.execSourceSettleEnd srcB s
  | .sourceRejoin srcB => Sys2Proof.Machine.execSourceRejoin srcB s
  | .drbgInstantiated n => Sys2Proof.Machine.execDrbgInstantiated n s
  | .drbgReseed n => Sys2Proof.Machine.execDrbgReseed n s
  | .reseedRequest f v => Sys2Proof.Machine.execReseedRequest f v s
  | .leaveMaint f => Sys2Proof.Machine.execLeaveMaint f s
  | .fwSwitch f => Sys2Proof.Machine.execFwSwitch f s
  | .sessionExpiry => Sys2Proof.Machine.execSessionExpiry s
  | .debugCertCheck => Sys2Proof.Machine.execDebugCertCheck s
  | .tamperSourceAssert src => Sys2Proof.Machine.execTamperSourceAssert src s
  | .corroborationTimeout => Sys2Proof.Machine.execCorroborationTimeout s
  | .sealComplete => Sys2Proof.Machine.execSealComplete s
  | .eraseWarmReset => Sys2Proof.Machine.execEraseWarmReset s
  | .batterySample active => Sys2Proof.Machine.execBatterySample active s
  | .mainPowerLoss => Sys2Proof.Machine.execMainPowerLoss s
  | .stickyClear f v arrived => Sys2Proof.Machine.execStickyClear f v arrived s
  | .fuseOff f v => Sys2Proof.Machine.execFuseOff f v s
  | .accumulatorCommit => Sys2Proof.Machine.execAccumulatorCommit s
  | .temperatureSample temp vbatMv => Sys2Proof.Machine.execTemperatureSample temp vbatMv s
  | .hourEnd => Sys2Proof.Machine.execHourEnd s
  | .cardInserted n => Sys2Proof.Machine.execCardInserted n s
  | .cardRemoved n => Sys2Proof.Machine.execCardRemoved n s
  | .cardBringUp n => Sys2Proof.Machine.execCardBringUp n s
  | .bringUpRetry n => Sys2Proof.Machine.execBringUpRetry n s
  | .cardResponse n fr => Sys2Proof.Machine.execCardResponse n fr s
  | .cardResponseTimeout n => Sys2Proof.Machine.execCardResponseTimeout n s
  | .receipt n status crcError => Sys2Proof.Machine.execReceipt n status crcError s
  | .dataBlock n block crcOk => Sys2Proof.Machine.execDataBlock n block crcOk s
  | .busyHoldRelease n => Sys2Proof.Machine.execBusyHoldRelease n s
  | .busyHoldTimeout n => Sys2Proof.Machine.execBusyHoldTimeout n s
  | .ping amplitude => Sys2Proof.Machine.execPing amplitude s
  | .enumerationCycle uids => Sys2Proof.Machine.execEnumerationCycle uids s
  | .externalFieldDetected => Sys2Proof.Machine.execExternalFieldDetected s
  | .readerResume => Sys2Proof.Machine.execReaderResume s
  | .badgeResponse fr => Sys2Proof.Machine.execBadgeResponse fr s
  | .badgeTimeout => Sys2Proof.Machine.execBadgeTimeout s
  | .fieldOn => Sys2Proof.Machine.execFieldOn s
  | .fieldLost => Sys2Proof.Machine.execFieldLost s
  | .inventory r mask maskLen slot => Sys2Proof.Machine.execInventory r mask maskLen slot s
  | .stayQuiet r => Sys2Proof.Machine.execStayQuiet r s
  | .select r => Sys2Proof.Machine.execSelect r s
  | .resetToReady r => Sys2Proof.Machine.execResetToReady r s
  | .getSystemInformation r => Sys2Proof.Machine.execGetSystemInformation r s
  | .readSingleBlock r block => Sys2Proof.Machine.execReadSingleBlock r block s
  | .readMultipleBlocks r first count => Sys2Proof.Machine.execReadMultipleBlocks r first count s
  | .getDirectory r => Sys2Proof.Machine.execGetDirectory r s
  | .readRecord r rec off len => Sys2Proof.Machine.execReadRecord r rec off len s
  | .auth r pw password => Sys2Proof.Machine.execAuth r pw password s
  | .appendNote r rec text => Sys2Proof.Machine.execAppendNote r rec text s
  | .increment r rec amount => Sys2Proof.Machine.execIncrement r rec amount s
  | .unsupportedTagCommand r code => Sys2Proof.Machine.execUnsupportedTagCommand r code s
  | .stagedBlockCommit => Sys2Proof.Machine.execStagedBlockCommit s
  | .forcedCommit => Sys2Proof.Machine.execForcedCommit s
  | .wireBusyRetry => Sys2Proof.Machine.execWireBusyRetry s
  | .powerOnReset rail x16 => Sys2Proof.Machine.execPowerOnReset rail x16 s
  | .boot => Sys2Proof.Machine.execBoot s
  | .warmDeviceReset code => Sys2Proof.Machine.execWarmDeviceReset code s
  | .completionTimeout f q e => Sys2Proof.Machine.execCompletionTimeout f q e s
  | .tbRefReturn => Sys2Proof.Machine.execTbRefReturn s
  | .tamperSourceDeassert src => Sys2Proof.Machine.execTamperSourceDeassert src s
  | .cascadeWipeDone b => Sys2Proof.Machine.execCascadeWipeDone b s
  | .basinDiagnosisDone b pass => Sys2Proof.Machine.execBasinDiagnosisDone b pass s
  | .perstDeassert port => Sys2Proof.Machine.execPerstDeassert port s
  | .vbatRetentionLoss => Sys2Proof.Machine.execVbatRetentionLoss s
  | .holdupRecharged => Sys2Proof.Machine.execHoldupRecharged s
  | .avsTransactionEnd r => Sys2Proof.Machine.execAvsTransactionEnd r s
  | .poolRefill n len => Sys2Proof.Machine.execPoolRefill n len s
  | .doeDiscovery port index => Sys2Proof.Machine.execDoeDiscovery port index s

end Sys2Proof.Machine
end

