-- ==== Sys2Proof/Machine/Idle.lean ====
section
/-! DEFINITION. What happens when no command waits: one Timebase tick passes, and the device's own work that waits for one is done. -/

namespace Sys2Proof.Machine

/-- The end of each brief source's 1 µs (R497). -/
def State.endBriefs (s : State) : State := [12, 13, 14, 15].foldl State.endBrief s

/-- One tick of the Timebase, the end of a brief source's 1 µs (R497), the completion of the re-attaches under way (log entry 36) and of a COLLECT
whose share is committed (log entry 146), the rolling update's own steps (R218), what waited for a retire-buffer entry (R152),
and the wakes of a backlog (R173). -/
def State.idle (s : State) : State := s.tick.endBriefs.reattachDue.collectDue.updateTick.resumeAll.wakeForBacklog

end Sys2Proof.Machine
end

