-- ==== Sys2Proof/Machine/Step.lean ====
section
/-! DEFINITION. One step: the command at the front of the queue, or one Timebase tick when nothing waits. -/

namespace Sys2Proof.Machine

/-- The machine with the command that a word spells put at the front of its queue (no word spells one). -/
def State.withFetchWord (s : State) (nbits w : Nat) : State :=
  match decodeTableWord nbits w with
  | some c => { s with pending := c :: s.pending }
  | none => s

/-- Take the command at the front of the queue and run it on the rest; on an empty queue one Timebase tick passes. -/
def step (s : State) : Host.Outcome State Fault Refusal :=
  match s.pending with
  | c :: rest => exec c { s with pending := rest }
  | [] => .next s.idle

end Sys2Proof.Machine
end

