-- ==== Sys2Proof/Safety.lean ====
section
/-! DEFINITION. What counts as a run without a stop, in the terms claims use. -/

namespace Sys2Proof.Safety

open Sys2Proof.Machine

/-- The step answers a next state. -/
def Completes (s : State) : Prop := ∃ t, step s = .next t

/-- The command answers a next state. -/
def Runs (i : Instr) (s : State) : Prop := ∃ t, exec i s = .next t

end Sys2Proof.Safety
end

