-- ==== Sys2Proof/Certificates/Slice0/Obligations.lean ====
section
/-! DEFINITION. The statements for the provers, chapter by chapter, with the propositions they share. -/

open Sys2Proof Sys2Proof.Machine

/-- R72: 400 ns without an edge clear REF_OK, set REF_LOST (bit 3 of TBS_EVENT) and suspend trim and PPS discipline: an edge of
TB_PPS_IN, the end of a slew and HOLDOVER then do nothing, and a new slew leaves the trim as it is. Both resume 1 ms after
TB_REF returns and not earlier, with the trim that was written meanwhile. Nothing else changes. -/
def Obligations.ReferenceLossHoldsTrimUntilOneMsAfterReturn : Prop :=
  (∀ (s : State),
    s.tbs.refOk = true →
    exec .refLost s = .next { s with tbs := { s.tbs with
        refOk := false, refSuspended := true, event := s.tbs.event.set 3 } }) ∧
  (∀ (s : State),
    s.tbs.refOk = false →
    exec .tbRefReturn s = .next { s with tbs := { s.tbs with refOk := true, refBack := s.tbs.ran } }) ∧
  (∀ (s : State),
    s.tbs.refOk = true →
    s.tbs.refSuspended = true →
    s.tbs.refBack + 1000000 ≤ s.tbs.ran →
    ∃ t, exec .refRestored s = .next t ∧ t = { s with tbs := { s.tbs with refSuspended := false, heldTrim := none, trim := s.tbs.heldTrim.getD s.tbs.trim, trimHistory := t.tbs.trimHistory } }) ∧
  (∀ (s : State),
    s.tbs.ran < s.tbs.refBack + 1000000 →
    exec .refRestored s = .next s) ∧
  (∀ (s : State),
    s.tbs.refSuspended = true →
    exec .ppsEdge s = .next s ∧ exec .slewEnd s = .next s ∧ exec .holdover s = .next s) ∧
  (∀ (s : State) (f : FnId) (v : BitVec 64),
    s.tbs.refSuspended = true →
    ∃ t, exec (.tbsSlew f v) s = .next t ∧ t = { s with tbs := t.tbs } ∧ t.tbs.trim = s.tbs.trim ∧ t.tbs.now = s.tbs.now)

/-- R77 to R79: a TBS_STEP of 1 to 2^48 ns from an existing PF0 awaits the broadcast, rounded up to a multiple of 64, and is ignored
while PPS_EN is set, as is a TBS_SLEW; at the broadcast (a multiple of 64 ns, R73) the counter moves forward by it, every
deadline moves with it, of held commands too, the pace window is discarded, STEPPED (bit 4) sets, and then the skipped launches
fire. A TBS_SET is taken only while no basin serves and no entry is ARMED; its value is loaded at the broadcast, where that
still holds, and TBS_ERA increments when it is less than the current value. At no other instant does either load. Nothing else
changes. -/
def Obligations.StepsAndSetsOfTheTimebase : Prop :=
  (∀ (s : State) (f : FnId) (v : BitVec 64),
    f.vf = 0 →
    s.fnExists f = true →
    s.tbs.ppsEn = false →
    1 ≤ v.toNat →
    v.toNat ≤ 2 ^ 48 →
    ∃ d, exec (.tbsStep f v) s = .next { s with tbs := { s.tbs with stepReq := some d } } ∧
        v.toNat ≤ d ∧ d < v.toNat + 64 ∧ 64 ∣ d) ∧
  (∀ (s : State) (f : FnId) (v : BitVec 64),
    s.tbs.ppsEn = true →
    exec (.tbsStep f v) s = .next s ∧ exec (.tbsSlew f v) s = .next s) ∧
  (∀ (s : State) (d : Nat),
    s.tbs.stepReq = some d →
    s.tbs.now % 64 = 0 →
    exec .counterStep s = .next (State.fireDue 64 { s with
          tbs := { s.tbs with now := (s.tbs.now + d) % 2 ^ 64, stepReq := none,
                              ppsHigh := if s.tbs.ppsOut then s.tbs.ppsHigh + d else s.tbs.ppsHigh, event := s.tbs.event.set 4 }
          queues := s.queues.map (fun p => (p.1, { p.2 with order := p.2.order.map (QItem.later d) }))
          slu := { s.slu with retire := s.slu.retire.map (fun p => (p.1, { p.2 with dlAdd := p.2.dlAdd + d })) }
          bsn := { s.bsn with windowStep := true } })) ∧
  (∀ (s : State) (f : FnId) (v : BitVec 64),
    f.vf = 0 →
    s.fnExists f = true →
    s.armed = [] →
    (∀ b ∈ basinNums, (s.basin b).st ≠ .serving) →
    exec (.tbsSet f v) s = .next { s with tbs := { s.tbs with setReq := some v.toNat } }) ∧
  (∀ (s : State) (f : FnId) (v : BitVec 64),
    (s.armed ≠ [] ∨ ∃ b ∈ basinNums, (s.basin b).st = .serving) →
    exec (.tbsSet f v) s = .next s) ∧
  (∀ (s : State) (v : Nat),
    s.tbs.setReq = some v →
    s.tbs.now % 64 = 0 →
    s.armed = [] →
    (∀ b ∈ basinNums, (s.basin b).st ≠ .serving) →
    exec .counterSet s = .next { s with
          tbs := { s.tbs with now := v, setReq := none, syncMark := v / 2 ^ 30, era := if v < s.tbs.now then (s.tbs.era + 1) % 65536 else s.tbs.era }
          bsn := { s.bsn with windowMark := v / 4096, periodMark := v / 65536 }, wei := { s.wei with rekeyMark := v / 2 ^ 30 } }) ∧
  (∀ (s : State),
    s.tbs.now % 64 ≠ 0 →
    exec .counterStep s = .next s ∧ exec .counterSet s = .next s)

/-- R80 to R83: a TBS_SLEW from an existing PF0 puts the trim at +1,000 or -1,000 ppm (in ppb) until its amount is gained or lost,
what each tick's trim adds being gained, then the trim from before returns; an edge outside 10^9 +- 100,000 ns of the last
accepted one sets PPS_REJECT (bit 2) and nothing else; an accepted edge records a phase error nearest to the target and counts
towards LOCKED; two seconds without one while LOCKED make HOLDOVER, with the trim frozen at its mean over 64 s; the output rises
at a value congruent to TBS_PPS_OFFSET while enabled and falls 10^8 ns later. The rounding of the steering quotient is the
model's (log entry 34). Outside the Timebase nothing changes. -/
def Obligations.SlewsPpsEdgesAndOutput : Prop :=
  (∀ (s : State) (f : FnId) (v : BitVec 64),
    f.vf = 0 →
    s.fnExists f = true →
    s.tbs.ppsEn = false →
    s.tbs.refSuspended = false →
    v.toInt ≠ 0 →
    ∃ t, exec (.tbsSlew f v) s = .next t ∧ t = { s with tbs := t.tbs } ∧
        t.tbs.trim = (if 0 < v.toInt then 1000000 else -1000000) ∧ t.tbs.slewing = true ∧ t.tbs.slewLeft = 2 ^ 32 * v.toInt ∧
        t.tbs.now = s.tbs.now ∧
        t.tbs.slewSaved = (if s.tbs.slewing then s.tbs.slewSaved else s.tbs.heldTrim.getD s.tbs.trim)) ∧
  (∀ (s : State),
    s.tbs.slewing = true →
    s.tbs.refSuspended = false →
    (s.tbs.trim = 1000000 ∧ s.tbs.slewLeft ≤ 0 ∨ s.tbs.trim = -1000000 ∧ 0 ≤ s.tbs.slewLeft) →
    ∃ t, exec .slewEnd s = .next t ∧ t = { s with tbs := t.tbs } ∧ t.tbs.trim = s.tbs.slewSaved ∧
        t.tbs.slewing = false ∧ t.tbs.slewLeft = 0 ∧ t.tbs.now = s.tbs.now) ∧
  (∀ (s : State),
    (s.tbs.trim = 1000000 ∧ 0 < s.tbs.slewLeft ∨ s.tbs.trim = -1000000 ∧ s.tbs.slewLeft < 0) →
    exec .slewEnd s = .next s ∧ (s.tbs.slewing = true → s.pwr.por = false → s.pwr.main = true → s.tbs.frac < 2 ^ 32 → s.tbs.now + 2 < 2 ^ 64 →
          (s.tick.tbs.now : Int) * 2 ^ 32 + s.tick.tbs.frac = s.tbs.now * 2 ^ 32 + s.tbs.frac + 2 ^ 32 + (s.tbs.slewLeft - s.tick.tbs.slewLeft) ∧
          s.tick.tbs.slewLeft = s.tbs.slewLeft - s.tbs.trim * 2 ^ 32 / 1000000000)) ∧
  (∀ (s : State) (e : Nat),
    s.tbs.sync = .locked →
    s.tbs.refSuspended = false →
    s.tbs.lastEdge = some e →
    e + 2000000000 ≤ s.tbs.ran →
    ∃ t, exec .holdover s = .next t ∧ t = { s with tbs := t.tbs } ∧ t.tbs.sync = .holdover ∧ t.tbs.lastEdge = none ∧ t.tbs.slewing = false ∧
        t.tbs.trim = trimMean s ∧ t.tbs.event = s.tbs.event.set 1 ∧ t.tbs.now = s.tbs.now) ∧
  (∀ (s : State) (p : Nat),
    s.tbs.ppsEn = true →
    s.tbs.refSuspended = false →
    s.tbs.lastEdge = some p →
    (s.tbs.ran < p + 999900000 ∨ p + 1000100000 < s.tbs.ran) →
    exec .ppsEdge s = .next { s with tbs := { s.tbs with event := s.tbs.event.set 2 } }) ∧
  (∀ (s : State),
    s.tbs.ppsEn = true →
    s.tbs.refSuspended = false →
    (s.tbs.lastEdge = none ∨ ∃ p ∈ s.tbs.lastEdge, p + 999900000 ≤ s.tbs.ran ∧ s.tbs.ran ≤ p + 1000100000) →
    ∃ t, exec .ppsEdge s = .next t ∧ t = { s with tbs := t.tbs } ∧ t.tbs.lastEdge = some s.tbs.ran ∧
        t.tbs.ppsErr.natAbs ≤ 500000000 ∧
        (∃ k : Int, (s.tbs.now : Int) - (s.tbs.ppsOffset : Int) - t.tbs.ppsErr = k * 1000000000) ∧
        t.tbs.good = (if t.tbs.ppsErr.natAbs ≤ 100 then s.tbs.good + 1 else 0) ∧
        (t.tbs.ppsErr.natAbs ≤ 1000000 → t.tbs.slewing = false ∧ t.tbs.slewLeft = 0 ∧ t.tbs.trim =
          clampTrim (-(Int.tdiv (8 * t.tbs.ppsErr + (s.tbs.integ + t.tbs.ppsErr)) 16)))) ∧
  (∀ (s : State),
    s.tbs.ppsOutEn = true →
    s.tbs.ppsOut = false →
    s.tbs.now % 1000000000 = s.tbs.ppsOffset % 1000000000 →
    exec .ppsOutRise s = .next { s with tbs := { s.tbs with ppsOut := true, ppsHigh := 0 } }) ∧
  (∀ (s : State),
    s.tbs.ppsOut = true →
    100000000 ≤ s.tbs.ppsHigh →
    exec .ppsOutFall s = .next { s with tbs := { s.tbs with ppsOut := false } })

/-- R123, R125, R129 and R131: on an enabled, attached queue a new tail below the depth takes effect and gives the new descriptors
the doorbell's instant as their start; a tail not below the depth is ERROR cause 1; a completion head that passes the completion
tail is cause 2, in ERROR too, and one that does not moves the head; a repeated value, and in ERROR any tail, has no effect. A
fetch reads the 128 bytes of the slot at the head; a read that fails is ERROR cause 3 with an AER report, and no completion; a
reply of an older generation of the function is discarded (R24, R99). Each changes only the queue (and adds its output). -/
def Obligations.DoorbellsFetchesAndQueueErrors : Prop :=
  (∀ (s : State) (f : FnId) (q : Nat) (v : BitVec 32) (x : Queue) (t : Nat),
    s.queueLive f q = true →
    s.queue f q = x →
    x.errorCause = 0 →
    t = v.toNat % 65536 →
    (t < x.depth → t ≠ x.sqTail → ∃ n, exec (.submissionTailDoorbell f q v) s = .next (s.setQueue f q { x with
            sqTail := t, starts := x.starts ++ List.replicate n s.tbs.now }) ∧ (x.sqTail < x.depth → (x.sqTail + n) % x.depth = t ∧ n < x.depth)) ∧
          (x.depth ≤ t → t ≠ x.sqTail → exec (.submissionTailDoorbell f q v) s = .next (s.setQueue f q { x with errorCause := 1 })) ∧
          (t = x.sqTail → exec (.submissionTailDoorbell f q v) s = .next s)) ∧
  (∀ (s : State) (f : FnId) (q : Nat) (v : BitVec 32) (x : Queue) (h : Nat),
    s.queueLive f q = true →
    s.queue f q = x →
    h = v.toNat % 65536 →
    h ≠ x.cqHead →
    x.cqHead < x.depth →
    x.cqTail < x.depth →
    (h < x.depth → (h + x.depth - x.cqHead) % x.depth ≤ (x.cqTail + x.depth - x.cqHead) % x.depth →
            exec (.completionHeadDoorbell f q v) s = .next (s.setQueue f q { x with cqHead := h })) ∧
          (x.depth ≤ h ∨ (x.cqTail + x.depth - x.cqHead) % x.depth < (h + x.depth - x.cqHead) % x.depth →
            exec (.completionHeadDoorbell f q v) s = .next (s.setQueue f q { x with errorCause := if x.errorCause = 0 then 2 else x.errorCause }))) ∧
  (∀ (s : State) (f : FnId) (q : Nat) (v : BitVec 32),
    (s.queueLive f q = false ∨ (s.queue f q).errorCause ≠ 0) →
    exec (.submissionTailDoorbell f q v) s = .next s ∧ exec (.descriptorFetch f q) s = .next s ∧
        (s.queueLive f q = false → exec (.completionHeadDoorbell f q v) s = .next s)) ∧
  (∀ (s : State) (f : FnId) (q : Nat),
    s.mayFetch f q = true →
    (s.queue f q).parkedDesc = none →
    (s.queue f q).sqHead ≠ (s.queue f q).sqTail →
    exec (.descriptorFetch f q) s = .next ((s.setQueue f q { s.queue f q with fetching := some (s.queue f q).sqHead }).readHost f ((s.queue f q).sqBase.toNat + 128 * (s.queue f q).sqHead) 128) ∧
        ((s.queue f q).sqBase.toNat % 128 = 0 → exec (.descriptorFetch f q) s = .next { (s.setQueue f q { s.queue f q with fetching := some (s.queue f q).sqHead }) with
          out := s.out ++ [.hostRead f.port f ((s.queue f q).sqBase.toNat + 128 * (s.queue f q).sqHead) 128] })) ∧
  (∀ (s : State) (f : FnId) (q slot g : Nat) (r : ReadResult),
    (s.queue f q).fetching = some slot →
    (r = .unsupported ∨ r = .poisoned) →
    dueInstant s = none →
    (g = (s.fn f).generation → ∃ t, exec (.admission f q ⟨g, r⟩) s = .next t ∧ t.queues = tabSet s.queues (qKey f q) { s.queue f q with fetching := none, errorCause := 3 } ∧ t.out = s.out ++ [.aer f.port] ∧
          (t.fn f).aerStatus = (s.fn f).aerStatus ||| (if r = .unsupported then 0x100000 else 0x1000) ∧ t.gau = (s.gauLink f.port 1).gau ∧ t = { s with queues := t.queues, fns := t.fns, gau := t.gau, out := t.out, freeCtr := t.freeCtr }) ∧
        (g ≠ (s.fn f).generation → exec (.admission f q ⟨g, r⟩) s = .next s ∧ ∀ d, exec (.admission f q ⟨g, .data d⟩) s = .next s))

/-- R141, R143, R145, R151: the head moves past the slot whose descriptor arrives. A descriptor that fails a form check is refused
with that check's status and never enters the tag window; with nothing before it in the queue its completion is the next to
post. One whose TAG is in the window performs nothing and takes no quota. A queue-control command that passes the checks takes
the lowest free entry, with the doorbell's instant as its start and the rule epoch as its tag; its TAG enters the window and it
runs at once. Stated where no launch is due; one that is due is applied first. -/
def Obligations.AdmissionRefusesAnswersOrEnters : Prop :=
  (∀ (s : State) (f : FnId) (q slot st : Nat) (d : Bytes) (x : Queue),
    s.queue f q = x →
    x.fetching = some slot →
    x.batchId = 0 →
    x.order = [] →
    windowFind x.window (tagOf (padTo 128 d)) = none →
    formStatus s f q (padTo 128 d) = some st →
    dueInstant s = none →
    ∃ t c, exec (.admission f q ⟨(s.fn f).generation, .data d⟩) s = .next t ∧
        t.queue f q = { x with fetching := none, sqHead := (slot + 1) % x.depth, starts := x.starts.drop 1, toPost := x.toPost ++ [c], lastRetire := s.tbs.now } ∧
        c.status = st ∧ c.tag = tagOf (padTo 128 d) ∧ c.slot = slot ∧ c.retire = s.tbs.now ∧ c.duplicate = false ∧ c.windowed = false ∧
        t.slu.retire = s.slu.retire ∧ t.slu.admitted = s.slu.admitted) ∧
  (∀ (s : State) (f : FnId) (q slot : Nat) (d : Bytes) (x : Queue) (ts : TagState),
    s.queue f q = x →
    x.fetching = some slot →
    x.batchId = 0 →
    windowFind x.window (tagOf (padTo 128 d)) = some ts →
    dueInstant s = none →
    ∃ t, exec (.admission f q ⟨(s.fn f).generation, .data d⟩) s = .next t ∧ (t.queue f q).window = x.window ∧ (t.queue f q).sqHead = (slot + 1) % x.depth ∧
        t.slu.retire = s.slu.retire ∧ t.slu.admitted = s.slu.admitted ∧ t.slu.rules = s.slu.rules ∧ (t.queue f q).cmdBal = x.cmdBal ∧
        (∀ e r, x.order = .cmd e :: r → ∃ it, (t.queue f q).order = x.order ++ [it] ∧ (∀ k till, ts = .retained k till → it = .copy (dupCopy k slot)) ∧
          (∀ own, ts = .live own → (∀ k ∈ x.toPost, k.tag ≠ tagOf (padTo 128 d)) → it = .dup slot (tagOf (padTo 128 d)) own) ∧
          (ts = .expired → ∃ c, it = .refused c ∧ c.slot = slot ∧ c.status = 0x0240)) ∧
        (x.order = [] → x.toPost = [] → ∃ c, (t.queue f q).toPost = [c] ∧ c.slot = slot ∧ c.windowed = false ∧ (ts = .expired → c.status = 0x0240) ∧
          ∀ k till, ts = .retained k till → c = { k with slot := slot, duplicate := true, windowed := false, waitsFor := [] })) ∧
  (∀ (s : State) (f : FnId) (q slot e : Nat) (d : Bytes) (x : Queue),
    s.queue f q = x →
    x.fetching = some slot →
    x.batchId = 0 →
    windowFind x.window (tagOf (padTo 128 d)) = none →
    formStatus s f q (padTo 128 d) = none →
    deviceStatus s f (padTo 128 d) = none →
    holdOf (padTo 128 d) = false →
    isQueueControl (opcodeOf (padTo 128 d)) = true →
    s.freeEntry = some e →
    dueInstant s = none →
    ∃ t c, exec (.admission f q ⟨(s.fn f).generation, .data d⟩) s = .next t ∧ t.cmd e = some c ∧ c.desc = padTo 128 d ∧ c.fn = f ∧ c.q = q ∧ c.slot = slot ∧
        c.epoch = s.lay.epoch ∧ c.start = x.starts.headD s.tbs.now ∧ c.phase = .running ∧ c.execStart = some s.tbs.now ∧ c.verdict = .open ∧
        t.slu.admitted = s.slu.admitted + 1 ∧ (∀ k, k ≠ e → t.cmd k = s.cmd k) ∧
        t.queue f q = { x with
          fetching := none, sqHead := (slot + 1) % x.depth, starts := x.starts.drop 1, order := x.order ++ [.cmd e]
          window := ((tagOf (padTo 128 d), .live slot) :: x.window).take 4096 } ∧
        (∀ b, t.basin b = { s.basin b with waking := (t.basin b).waking }) ∧ t = { s with queues := t.queues, slu := t.slu, basins := t.basins })

/-- R20, R126, R137, R142, R144: the oldest unposted completion is written at the completion tail with the queue's phase, then the
tail moves and the phase inverts when it wraps; its tag leaves the window by its class or its completion is retained for 250 ms,
by no queue whose completions' die is lost (R302); the message follows the write once max(COAL_COUNT, 1) entries are pending or
COAL_TIME_US us have passed since the oldest. A full ring, an empty list, held writes and HALTED post nothing. R107: while the
link is up a masked vector keeps its message pending, and unmasking the vector sends it. R144: at its instant a retained
completion expires. R121: a write that sets ENABLE of an idle, attached queue the Layout gives zeroes both heads and both tails,
sets the phase to 1, leaves the ring bases and the tag window, and is discarded while IDLE is clear. R122: clearing ENABLE stops
fetching at once; with no held batch, no descriptor kept back and no message pending, the fetched commands, the completions to
post and the tag window stay as they are. -/
def Obligations.PostingRetentionAndQueueEnables : Prop :=
  (∀ (s : State) (f : FnId) (q : Nat) (x : Queue) (c : Completion) (r : List Completion),
    s.queue f q = x →
    x.toPost = c :: r →
    x.hasRoom = true →
    s.holds f q = false →
    c.waitsFor = [] →
    s.fnt.op ≠ .halted →
    ∃ t m, exec (.postCompletion f q) s = .next t ∧ t.out = s.out ++ Out.completion f q ((x.cqBase.toNat + 32 * x.cqTail) % 2 ^ 64) false (completionBytes c x.phase) :: m ∧
        (x.coalPending + 1 < max x.coalCount 1 → m = [] ∧ (t.queue f q).coalPending = x.coalPending + 1) ∧
        (max x.coalCount 1 ≤ x.coalPending + 1 → (t.queue f q).coalPending = 0 ∧
          ((s.port f.port).linkUp = true → (s.fn f).resetting = false → (s.fn f).fnMask = false → (s.fn f).vecMask.getLsbD x.vector = false → m = [s.message f x.vector])) ∧
        (t.queue f q).toPost = r ∧ (t.queue f q).cqTail = (x.cqTail + 1) % x.depth ∧
        (t.queue f q).phase = (if (x.cqTail + 1) % x.depth = 0 then !x.phase else x.phase) ∧
        (s.retains f q = true → (t.queue f q).window = windowPosted x.window c (s.tbs.now + 250000000)) ∧ (s.retains f q = false → ∀ k z till, windowFind (t.queue f q).window k ≠ some (.retained z till)) ∧ (t.queue f q).order = x.order ∧
        t = { s with queues := t.queues, fns := t.fns, out := t.out }) ∧
  (∀ (s : State) (f : FnId) (q : Nat),
    ((s.queue f q).toPost = [] ∨ (s.queue f q).hasRoom = false ∨ s.holds f q = true ∨ s.fnt.op = .halted) →
    exec (.postCompletion f q) s = .next s) ∧
  (∀ (s : State) (f : FnId) (q : Nat) (x : Queue),
    s.queue f q = x →
    (s.port f.port).linkUp = true →
    (s.fn f).d3hot = false →
    (s.fn f).resetting = false →
    (x.coalTime ≠ 0 → 0 < x.coalPending → x.coalSince + x.coalTime * 1000 ≤ s.tbs.now →
            exec (.msixCoalesceTimeout f q) s = .next (if (s.fn f).fnMask || (s.fn f).vecMask.getLsbD x.vector then
                (s.setQueue f q { x with coalPending := 0 }).setFn f { s.fn f with vecPending := (s.fn f).vecPending ||| BitVec.ofNat 64 (2 ^ x.vector) }
              else { (s.setQueue f q { x with coalPending := 0 }) with out := s.out ++ [s.message f x.vector] })) ∧
          (x.coalTime = 0 ∨ x.coalPending = 0 ∨ s.tbs.now < x.coalSince + x.coalTime * 1000 → exec (.msixCoalesceTimeout f q) s = .next s)) ∧
  (∀ (s : State) (f : FnId) (v : Nat) (e : BitVec 64 × BitVec 32),
    s.fnExists f = true →
    v < 64 →
    (s.fn f).vecPending = BitVec.ofNat 64 (2 ^ v) →
    (s.fn f).fnMask = false →
    (s.fn f).d3hot = false →
    (s.fn f).resetting = false →
    (s.port f.port).linkUp = true →
    tabGet (s.fn f).table v (0, 0) = e →
    ∃ t, exec (.msixVectorUnmask f (some v)) s = .next t ∧ t.out = s.out ++ [.msix f v e.1 e.2] ∧
        (t.fn f).vecPending = 0 ∧ (t.fn f).vecMask = (s.fn f).vecMask &&& ~~~ BitVec.ofNat 64 (2 ^ v) ∧ t = { s with fns := t.fns, out := t.out }) ∧
  (∀ (s : State) (f : FnId) (q : Nat) (tag : BitVec 64) (c : Completion) (till : Nat),
    windowFind (s.queue f q).window tag = some (.retained c till) →
    till ≤ s.tbs.now →
    (s.queue f q).detachedAt = none →
    ∃ w, exec (.retentionExpiry f q tag) s = .next (s.setQueue f q { s.queue f q with window := w }) ∧ windowFind w tag = some .expired ∧
        (∀ k, k ≠ tag → windowFind w k = windowFind (s.queue f q).window k) ∧ w.map (·.1) = (s.queue f q).window.map (·.1)) ∧
  (∀ (s : State) (f : FnId) (q : Nat) (v : BitVec 32) (x : Queue) (c : QueueCfg),
    s.queueExists f q = true →
    s.queue f q = x →
    x.enabled = false →
    s.qcfg f q = some c →
    (x.idle = true → x.detachedAt = none → ∃ t y, exec (.queueEnable f q v) s = .next t ∧ t.queue f q = y ∧
            (x.coalPending = 0 → t = s.setQueue f q y) ∧ t = { s with queues := t.queues, fns := t.fns, out := t.out } ∧ y.enabled = true ∧ y.sqHead = 0 ∧ y.sqTail = 0 ∧ y.cqHead = 0 ∧ y.cqTail = 0 ∧ y.phase = true ∧ y.errorCause = 0 ∧ y.log2Depth = c.log2Depth ∧
            y.vector = v.toNat / 2 % 64 ∧ y.coalCount = v.toNat / 256 % 256 ∧ y.coalTime = v.toNat / 65536 % 1024 ∧
            y.sqBase = x.sqBase ∧ y.cqBase = x.cqBase ∧ y.window = x.window) ∧
          (x.idle = false → exec (.queueEnable f q v) s = .next s)) ∧
  (∀ (s : State) (f : FnId) (q : Nat) (v : BitVec 32) (x : Queue),
    s.queueExists f q = true →
    s.queue f q = x →
    x.enabled = true →
    x.batchId = 0 →
    x.parkedDesc = none →
    x.coalPending = 0 →
    ∃ t, exec (.queueDisable f q v) s = .next t ∧ (t.queue f q).enabled = false ∧ (t.queue f q).fetching = none ∧
        exec (.descriptorFetch f q) t = .next t ∧ (∀ w, exec (.submissionTailDoorbell f q w) t = .next t) ∧
        (t.queue f q).order = x.order ∧ (t.queue f q).toPost = x.toPost ∧ (t.queue f q).window = x.window ∧
        t.slu = s.slu ∧ t.out = s.out ∧ t = { s with queues := t.queues, tbs := t.tbs })

/-- R171 to R173: a write of SLU_CTRL by an existing PF0 sets SUSPEND and PARK_EN, and clearing PARK_EN starts waking every parked
basin; a write by a VF does nothing. A basin with no command for SLU_PARK_IDLE us parks when the condition on pools and
reservations holds: its DRBG is no longer instantiated, its windows so far count no more (R59) and PARKED (bit 0 of SLU_EVENT)
sets; with PARK_EN clear or a command on the basin nothing happens. A waking basin whose DRBG is instantiated serves again, its
admission pace resting on windows from then on (R59), and WOKE (bit 1) sets; before that instantiation it does not (R468). -/
def Obligations.ParkingWakingAndSuspendBits : Prop :=
  (∀ (s : State) (f : FnId) (v : BitVec 32),
    f.vf = 0 →
    s.fnExists f = true →
    ∃ t, exec (.sluCtrlWrite f v) s = .next t ∧ t.slu = { s.slu with suspend := v.extractLsb' 0 3, parkEn := v.getLsbD 3 } ∧
        (∀ b ∈ basinNums, (t.basin b).st = (s.basin b).st ∧
          (t.basin b).waking = ((s.basin b).waking || (!v.getLsbD 3 && (s.basin b).st == .parked))) ∧
        t = { s with slu := t.slu, basins := t.basins }) ∧
  (∀ (s : State) (f : FnId) (v : BitVec 32),
    f.vf ≠ 0 →
    exec (.sluCtrlWrite f v) s = .next s) ∧
  (∀ (s : State) (b : Nat),
    s.slu.parkEn = true →
    (s.basin b).st = .serving →
    s.onBasin b = [] →
    (s.basin b).idleSince + 1000 * s.slu.parkIdle ≤ s.tbs.now →
    parkable s b = true →
    ∃ t, exec (.parkBasin b) s = .next t ∧ (t.basin b).st = .parked ∧ (t.basin b).sinceStart = 0 ∧ (t.drbg b).inst = false ∧ t.slu = { s.slu with event := s.slu.event.set 0 } ∧
        (∀ c, c ≠ b → t.basin c = s.basin c ∧ t.drbg c = s.drbg c) ∧ (s.bsn.derated = false → t.queues = s.queues) ∧
        t = { s with slu := t.slu, basins := t.basins, spg := t.spg, queues := t.queues }) ∧
  (∀ (s : State) (b : Nat),
    (s.slu.parkEn = false ∨ (s.basin b).st ≠ .serving ∨ s.onBasin b ≠ [] ∨ s.tbs.now < (s.basin b).idleSince + 1000 * s.slu.parkIdle) →
    exec (.parkBasin b) s = .next s) ∧
  (∀ (s : State) (b : Nat),
    (s.basin b).st = .parked →
    (s.basin b).waking = true →
    ((s.drbg b).inst = true → ∃ t, exec (.wakeComplete b) s = .next t ∧ (t.basin b).st = .serving ∧ (t.basin b).role = (s.basin b).role ∧
            (t.basin b).sinceServe = 0 ∧ (t.basin b).sinceStart = (s.basin b).sinceStart ∧ (t.basin b).waking = false ∧ t.slu = { s.slu with event := s.slu.event.set 1 } ∧ t.bsn = { s.bsn with loopOn := true } ∧
            (∀ c, c ≠ b → t.basin c = s.basin c) ∧ (s.bsn.derated = false → t.queues = s.queues) ∧
            t = { s with slu := t.slu, basins := t.basins, bsn := t.bsn, queues := t.queues }) ∧
          ((s.drbg b).inst = false → exec (.wakeComplete b) s = .next s))

/-- R164: the candidate of a resource is one that no other dispatchable command precedes; with room in the jets and the stream
windows, and a seed for its jets' masks unless it only hashes (R235), it starts on basin b (an allowed seal whose counter is
spent ends instead), its verdict and tags as they were, and the first dispatch of an attempt counts one; the Cascade takes its
owner. Where nothing may start no command is dispatched. R159, R165: at a segment boundary the segmented command leaves the jets
and the basin chooses again, perhaps the same command with one segment fewer. Nothing about its result or its epoch changes. -/
def Obligations.DispatchChoosesByPriorityAndSegments : Prop :=
  (∀ (s : State) (b : Nat) (k : Bool) (e : Nat) (c : Cmd),
    s.candidate b k = some (e, c) →
    (e, c) ∈ s.dispatchable b k ∧ ∀ p ∈ s.dispatchable b k, before k p.2 c = false) ∧
  (∀ (s : State) (b e : Nat) (c : Cmd),
    (s.basin b).st = .serving →
    (s.basin b).waking = false →
    (s.drbg b).inst = true →
    s.candidate b false = some (e, c) →
    lanesFit (s.basin b) c = true →
    (usesHash (opcodeOf c.desc) = true ∨ masksReady s b c.nj = true) →
    (c.verdict ≠ .allow ∨ s.counterSpent (key1Of c.desc) = false) →
    s.windowsUsed + windowOf c.desc ≤ 10485760 →
    ∃ t d, exec (.dispatch b false) s = .next t ∧ t.cmd e = some d ∧ d.basin = some b ∧ d.phase = .running ∧ d.onJets = true ∧
        d.segs = c.segs - 1 ∧ d.segAt = s.tbs.now ∧ d.dispatchedAt = some (c.dispatchedAt.getD s.tbs.now) ∧
        d.epoch = c.epoch ∧ d.verdict = c.verdict ∧ d.status = c.status ∧ d.desc = c.desc ∧
        d.attempts = (if c.phase = .backlog then c.attempts + 1 else c.attempts) ∧
        d.replayed = (c.replayed || (c.phase == .backlog && decide (0 < c.attempts))) ∧ t.lay = s.lay ∧ t.queues = s.queues) ∧
  (∀ (s : State) (b e : Nat) (c : Cmd),
    (s.basin b).st = .serving →
    (s.basin b).waking = false →
    (s.drbg b).inst = true →
    s.candidate b true = some (e, c) →
    (∀ p ∈ s.onBasin b, p.2.onCascade = false) →
    (s.basin b).cas.wiping = false →
    (s.basin b).cas.slots = [] →
    (c.verdict ≠ .allow ∨ s.counterSpent (key1Of c.desc) = false) →
    s.windowsUsed + windowOf c.desc ≤ 10485760 →
    ∃ t d, exec (.dispatch b true) s = .next t ∧ t.cmd e = some d ∧ d.basin = some b ∧ d.phase = .running ∧ d.onCascade = true ∧
        d.kMark = s.tbs.now ∧ d.segs = c.segs ∧ d.epoch = c.epoch ∧ d.verdict = c.verdict ∧ d.status = c.status ∧
        (t.basin b).cas.owner = some e ∧ t.lay = s.lay ∧ t.queues = s.queues) ∧
  (∀ (s : State) (b : Nat) (k : Bool),
    ((s.basin b).st ≠ .serving ∨ (s.basin b).waking = true ∨ (s.drbg b).inst = false ∨ s.candidate b k = none) →
    ∃ t, exec (.dispatch b k) s = .next t ∧ t.slu = s.slu ∧ (∀ n, (t.basin n).st = (s.basin n).st) ∧ t = { s with basins := t.basins }) ∧
  (∀ (s : State) (b e : Nat) (c : Cmd),
    segmentAt s b = some (e, c) →
    (s.slu.retire.map (·.1)).Nodup →
    (∀ p ∈ s.slu.retire, p.2.verdict ≠ .allow ∨ s.counterSpent (key1Of p.2.desc) = false) →
    ∃ t d, exec (.segmentBoundary b) s = .next t ∧ t.cmd e = some d ∧ d.status = c.status ∧ d.epoch = c.epoch ∧ d.verdict = c.verdict ∧
        ((d.onJets = false ∧ d.segs = c.segs) ∨ (d.onJets = true ∧ d.segs = c.segs - 1 ∧ d.segAt = s.tbs.now)) ∧
        (∀ k x, s.cmd k = some x → ∃ y, t.cmd k = some y ∧ y.status = x.status ∧ y.verdict = x.verdict))

/-- R21, R109, R130, R181: the payload's data reach the running attempt of the same instance; data for another instance or an older
generation of the function (R24), or after a failure, are discarded. Unsupported Request, poisoned data and a completion timeout
end the command ABANDONED with details 01, 02 and 03, by AER: at once after its verdict, else with that verdict (log entry 139);
it issues no further read, holds no output and no effect, and a list that breaks R130 ends it MALFORMED/SGL. R114: a read of a
detached queue's command does not time out, and data for one are discarded: it waits. R125: a descriptor read that times out
puts the queue in ERROR, cause 3. -/
def Obligations.HostDataArrivesOrEndsTheCommand : Prop :=
  (∀ (s : State) (e inst g : Nat) (bs : Bytes) (c : Cmd),
    s.cmd e = some c →
    c.inst.toNat = inst % 256 →
    g = (s.fn c.fn).generation →
    c.phase = .running →
    c.status = none →
    c.readsStopped = false →
    (s.queue c.fn c.q).detachedAt = none →
    c.listsDone = true →
    c.inputDone = false →
    exec (.hostReadCompletion ⟨e, inst⟩ g .payload (.data bs)) s = .next (s.setCmd e { c with input := padTo (inLenOf c.desc) bs, inputDone := true })) ∧
  (∀ (s : State) (e inst g : Nat) (k : ReadKind) (r : ReadResult) (c : Cmd),
    s.cmd e = some c →
    c.inst.toNat = inst % 256 →
    g = (s.fn c.fn).generation →
    c.phase = .running →
    c.status = none →
    c.readsStopped = false →
    (s.queue c.fn c.q).detachedAt = none →
    (r = .unsupported ∨ r = .poisoned) →
    ∃ t d o, exec (.hostReadCompletion ⟨e, inst⟩ g k r) s = .next t ∧ t.out = s.out ++ o ++ [.aer c.fn.port] ∧ t.cmd e = some d ∧
        (c.verdict ≠ .open → d.verdict = .deny (if r = .unsupported then 0x0701 else 0x0702) ∧ d.phase = .squashed) ∧
        (c.verdict = .open → d.verdict = .open ∧ d.status = some (if r = .unsupported then 0x0701 else 0x0702) ∧ d.phase = .done) ∧ d.readsStopped = true ∧
        d.output = [] ∧ d.effect = .none ∧ d.newRec = none ∧ d.input = [] ∧ t.cis.records = s.cis.records ∧ ((∀ p ∈ c.kept, s.record p.1 ≠ none) → t.cis.counters = s.cis.counters) ∧
        exec (.hostReadCompletion ⟨e, inst⟩ g k r) t = .next t) ∧
  (∀ (s : State) (e inst g : Nat) (k : ReadKind) (r : ReadResult),
    (∀ c, s.cmd e = some c → c.inst.toNat ≠ inst % 256 ∨ c.readsStopped = true ∨ g ≠ (s.fn c.fn).generation ∨ (s.queue c.fn c.q).detachedAt ≠ none) →
    exec (.hostReadCompletion ⟨e, inst⟩ g k r) s = .next s) ∧
  (∀ (s : State) (e inst g : Nat) (bs : Bytes) (c : Cmd),
    s.cmd e = some c →
    c.inst.toNat = inst % 256 →
    g = (s.fn c.fn).generation →
    c.phase = .running →
    c.status = none →
    c.readsStopped = false →
    (s.queue c.fn c.q).detachedAt = none →
    c.listsDone = false →
    inSgl c.desc = true →
    outSgl c.desc = false →
    bs ≠ [] →
    sglOk (inAddrOf c.desc) (inLenOf c.desc) bs = false →
    ∃ t d, exec (.hostReadCompletion ⟨e, inst⟩ g .inList (.data bs)) s = .next t ∧ t.cmd e = some d ∧ d.verdict = .deny 0x0405 ∧ d.phase = .squashed ∧
        d.readsStopped = true ∧ d.output = [] ∧ d.effect = .none) ∧
  (∀ (s : State) (e : Nat) (c : Cmd),
    s.cmd e = some c →
    c.phase = .running →
    c.status = none →
    c.inputDone = false →
    ((s.queue c.fn c.q).detachedAt = none → ∃ t d o, exec (.completionTimeout c.fn c.q (some e)) s = .next t ∧ t.out = s.out ++ o ++ [.aer c.fn.port] ∧
            t.cmd e = some d ∧ (c.verdict ≠ .open → d.verdict = .deny 0x0703 ∧ d.phase = .squashed) ∧
            (c.verdict = .open → d.verdict = .open ∧ d.status = some 0x0703 ∧ d.phase = .done) ∧ d.readsStopped = true) ∧
          ((s.queue c.fn c.q).detachedAt ≠ none → exec (.completionTimeout c.fn c.q (some e)) s = .next s)) ∧
  (∀ (s : State) (f : FnId) (q slot : Nat),
    (s.queue f q).fetching = some slot →
    ∃ t, exec (.completionTimeout f q none) s = .next t ∧ t.queues = tabSet s.queues (qKey f q) { s.queue f q with fetching := none, errorCause := 3 } ∧ t.out = s.out ++ [.aer f.port] ∧
        (t.fn f).aerStatus = (s.fn f).aerStatus ||| 0x4000 ∧ t.gau = (s.gauLink f.port 1).gau ∧
        t = { s with queues := t.queues, fns := t.fns, gau := t.gau, out := t.out, freeCtr := t.freeCtr })

/-- The data bytes of a host write. -/
def Sys2Proof.Claims.dataOf : Out → Bytes
  | .hostWrite _ _ _ _ _ b => b
  | _ => []
open Sys2Proof.Claims

/-- R177, R285, R310: the record of a fill that reads whole, or whose partner copy does, is held by the basin for the commands that
mark it; a copy that failed its MAC is counted on its die and MAC_REPAIRED (bit 0 of VLT_EVENT) sets; when neither copy serves,
a fault of code 11 and class EXTERNAL is logged and the record is not filled. A fill that no entry awaits, or a reply for
another instance of the entry or of another generation (R181, R200), does nothing. R177: a freed fill-buffer entry goes to the
waiting command's key, and the command goes on: it takes its work buffer and its nonce (an allowed seal with a spent counter
ends instead). R303: a waiting command takes its work buffer from the present die with most free space, or waits on when no die
has room; a buffer of PF0 has no quota. -/
def Obligations.KeyFillsAndTheirGrants : Prop :=
  (∀ (s : State) (e b inst : Nat) (g : ReplyGen) (h : BitVec 64) (p : LineEnd) (c : Cmd) (r : Record) (k : FillEntry),
    s.cmd e = some c →
    c.basin = some b →
    c.inst.toNat = inst % 256 →
    s.fresh (unitNum .cistern) b g = true →
    k ∈ (s.basin b).fill →
    k.handle = h →
    k.record = none →
    e ∈ k.marks →
    s.record h = some r →
    (s.die (diePair (keySlot s h / 524288)).1).present = true →
    (s.die (diePair (keySlot s h / 524288)).1).retraining = false →
    ∃ t, exec (.keyFillComplete ⟨e, inst⟩ g h (.ok, p)) s = .next t ∧ (t.basin b).holdsKey h = true ∧ t.cis = s.cis ∧ t.vlt = s.vlt ∧ t.bsn = s.bsn ∧ t.out = s.out) ∧
  (∀ (s : State) (e b inst : Nat) (g : ReplyGen) (d1 d2 : Nat) (h : BitVec 64) (c : Cmd) (r : Record) (k : FillEntry),
    s.cmd e = some c →
    c.basin = some b →
    c.inst.toNat = inst % 256 →
    s.fresh (unitNum .cistern) b g = true →
    k ∈ (s.basin b).fill →
    k.handle = h →
    k.record = none →
    e ∈ k.marks →
    s.record h = some r →
    diePair (keySlot s h / 524288) = (d1, d2) →
    (s.die d1).present = true →
    (s.die d1).retraining = false →
    (s.die d1).macTimes = [] →
    (s.die d2).present = true →
    (s.die d2).retraining = false →
    ∃ t, exec (.keyFillComplete ⟨e, inst⟩ g h (.macFail, .ok)) s = .next t ∧ (t.basin b).holdsKey h = true ∧ t.vlt.event = s.vlt.event.set 0 ∧
        (t.die d1).macFails = min 0xFFFF ((s.die d1).macFails + 1) ∧ (t.die d2).macFails = (s.die d2).macFails ∧ t.cis = s.cis ∧ t.bsn = s.bsn) ∧
  (∀ (s : State) (e b inst : Nat) (g : ReplyGen) (h : BitVec 64) (c : Cmd) (r : Record) (k : FillEntry),
    s.cmd e = some c →
    c.basin = some b →
    c.inst.toNat = inst % 256 →
    s.fresh (unitNum .cistern) b g = true →
    (s.basin b).st = .serving →
    k ∈ (s.basin b).fill →
    k.handle = h →
    k.record = none →
    e ∈ k.marks →
    s.record h = some r →
    (s.die (diePair (keySlot s h / 524288)).1).present = true →
    (s.die (diePair (keySlot s h / 524288)).1).retraining = false →
    ∃ t, exec (.keyFillComplete ⟨e, inst⟩ g h (.tagFail, .tagFail)) s = .next t ∧ t.cis.event = s.cis.event.set 3 ∧
        t.bsn.total = min 0xFFFFFFFF (s.bsn.total + 1) ∧ (tabGet t.bsn.log t.bsn.newest {}).detector = 11 ∧
        (tabGet t.bsn.log t.bsn.newest {}).cls = .external ∧ (tabGet t.bsn.log t.bsn.newest {}).basin = b ∧ t.cis.records = s.cis.records) ∧
  (∀ (s : State) (e b inst : Nat) (g : ReplyGen) (h : BitVec 64) (l p : LineEnd) (c : Cmd),
    s.cmd e = some c →
    c.basin = some b →
    (c.inst.toNat ≠ inst % 256 ∨ s.fresh (unitNum .cistern) b g = false ∨ ∀ k ∈ (s.basin b).fill, k.handle = h → k.record.isSome = true ∨ e ∉ k.marks) →
    exec (.keyFillComplete ⟨e, inst⟩ g h (l, p)) s = .next s) ∧
  (∀ (s : State) (e b : Nat) (h : BitVec 64) (c : Cmd),
    s.cmd e = some c →
    c.basin = some b →
    c.waitsFill = true →
    liveKeys s c = [h] →
    ((s.basin b).fill.map (fun k => s.recordSlots k.handle)).sum + s.recordSlots h ≤ 64 →
    (∀ k ∈ (s.basin b).fill, k.handle ≠ h) →
    (∀ k ∈ (s.basin b).cache, k.handle ≠ h) →
    (c.verdict ≠ .allow ∨ s.counterSpent (key1Of c.desc) = false) →
    ∃ t d, exec (.fillBufferGrant e h) s = .next t ∧ t.cmd e = some d ∧
        d = { c with waitsFill := false, waitsWork := d.waitsWork, work := d.work, nonce := d.nonce, wantsBlock := d.wantsBlock, spent := d.spent } ∧
        (t.basin b).fill = (s.basin b).fill ++ [{ handle := h, marks := [e] }] ∧ (t.basin b).cache = (s.basin b).cache ∧
        (∀ n, n ≠ b → t.basin n = s.basin n) ∧ (∀ n, n ≠ e → t.cmd n = s.cmd n) ∧ t.cis.records = s.cis.records ∧ t = { s with slu := t.slu, basins := t.basins, vlt := t.vlt, cis := t.cis }) ∧
  (∀ (s : State) (e n : Nat) (c : Cmd),
    s.cmd e = some c →
    c.waitsWork = true →
    c.work = none →
    workNeed c.desc = n →
    0 < n →
    ((∀ d, d < 4 → s.workFree d < n) → ∃ t, exec (.workBufferGrant e) s = .next t ∧ t.cmd e = some c ∧ t.vlt = s.vlt) ∧
        (c.fn.vf = 0 → (∃ d, d < 4 ∧ n ≤ s.workFree d) → ∃ t d, exec (.workBufferGrant e) s = .next t ∧ d < 4 ∧ n ≤ s.workFree d ∧
          (∀ m, m < 4 → s.workFree m ≤ s.workFree d) ∧ t.cmd e = some { c with waitsWork := false, work := some (d, n) } ∧
          (t.die d).workUsed = (s.die d).workUsed + n ∧ t = { s with slu := t.slu, vlt := t.vlt }))

/-- R168, R184, R185: with the keys at hand and no earlier key change of its queue ahead, the verdict is ALLOW, final, with the
records of its keys kept (R191), or DENY with the status of the first check that fails: then the attempt holds no input, output,
key record or nonce, and the records and counters are as they were; a command that ran before its verdict counts in
SLU_SQUASHED, and a fresh evaluation in SLU_RECHECKED (R190). Otherwise the verdict stays open. A launch that is due is applied
before; here none is. R18, R352: a stripe of an allowed, checked result of 256 bytes or more is written once, at its place in
the output buffer; without ALLOW nothing is written. R94, R351: a write goes out in payloads of at most the programmed size,
whose bytes together are the output, and the part of the window that no longer serves is free (log entry 157). R178, R288: a
reserved block is persisted in the journal before a waiting seal draws its nonce from it; a full journal makes it wait. -/
def Obligations.VerdictsStripesAndNonceBlocks : Prop :=
  (∀ (s : State) (e : Nat) (c : Cmd),
    s.cmd e = some c →
    (s.slu.retire.map (·.1)).Nodup →
    verdictReady s c = true →
    dueInstant s = none →
    (c.readsStopped = false → (c.wantsBlock = false ∨ s.counterSpent (key1Of c.desc) = false) → denial s c.fn (classFor s c) c.desc c.input = none → ∃ t d, exec (.verdict e) s = .next t ∧ t.cmd e = some d ∧ d.verdict = .allow ∧ d.recheck = false ∧
            d.status = c.status ∧ d.phase = c.phase ∧ d.output = c.output ∧ (c.usesBasin = true → ∀ h r, h ∈ liveKeys s c → s.record h = some r → (h, r) ∈ d.kept) ∧ t.slu.rechecked = s.slu.rechecked + (if c.recheck then 1 else 0) ∧
            t.out = s.out ∧ t.queues = s.queues ∧ t.cis.records = s.cis.records) ∧
          (∀ st, denial s c.fn (classFor s c) c.desc c.input = some st → ∃ t d, exec (.verdict e) s = .next t ∧ t.cmd e = some d ∧ d.verdict = .deny st ∧
            d.phase = .squashed ∧ d.input = [] ∧ d.output = [] ∧ d.extraOut = [] ∧ d.newRec = none ∧ d.nonce = none ∧ d.window = 0 ∧ d.effect = .none ∧
            d.work = none ∧ d.kept = [] ∧ d.epoch = c.epoch ∧ t.cis.records = s.cis.records ∧ ((∀ p ∈ c.kept, s.record p.1 ≠ none) → t.cis.counters = s.cis.counters ∧ t.cis.persisted = s.cis.persisted) ∧
            t.slu.squashed = s.slu.squashed + (if c.early then 1 else 0) ∧ t.slu.rechecked = s.slu.rechecked + (if c.recheck then 1 else 0) ∧ t.queues = s.queues ∧ (c.bufs = [] → t.mem = s.mem))) ∧
  (∀ (s : State) (e : Nat) (c : Cmd),
    s.cmd e = some c →
    dueInstant s = none →
    (c.verdict ≠ .open ∨ keyBlocked s c = true ∨ (keysHeld s c = false ∧ c.readsStopped = false)) →
    exec (.verdict e) s = .next s) ∧
  (∀ (s : State) (e g i : Nat) (c : Cmd),
    s.cmd e = some c →
    s.fromBasin c g = true →
    outStripe c.desc = 4096 →
    c.phase = .done →
    c.status = some 0 →
    256 ≤ c.output.length →
    c.output.length ≤ outLenOf c.desc →
    outSgl c.desc = false →
    4096 * i < c.output.length →
    i ∉ c.written →
    s.holds c.fn c.q = false →
    (c.verdict = .allow → c.recheck = false → ∃ t w, exec (.stripeComplete ⟨e, c.inst.toNat⟩ g i) s = .next t ∧ t.cmd e = some { c with written := i :: c.written, window := w } ∧ w ≤ c.window ∧
            t.out = s.out ++ s.writesOf c.fn (some c.q) (outAddrOf c.desc + 4096 * i) ((c.output.drop (4096 * i)).take 4096) ∧ (∀ n, n ≠ e → t.cmd n = s.cmd n) ∧
            t = { s with slu := t.slu, basins := t.basins, out := t.out }) ∧
          (c.verdict ≠ .allow ∨ c.recheck = true → exec (.stripeComplete ⟨e, c.inst.toNat⟩ g i) s = .next s)) ∧
  (∀ (s : State) (f : FnId) (q : Option Nat) (a : Nat) (bs : Bytes),
    ((s.writesOf f q a bs).map dataOf).flatten = bs ∧ (∀ o ∈ s.writesOf f q a bs, dataOf o ≠ [] ∧ (dataOf o).length ≤ s.maxPayload f.port) ∧
        (128 ≤ s.maxPayload f.port ∧ s.maxPayload f.port ≤ 512)) ∧
  (∀ (s : State) (e block : Nat) (h : BitVec 64) (c : Cmd) (r : Record),
    tabFind s.cis.reserving h.toNat = some (block, e) →
    s.slu.retire = [(e, c)] →
    c.wantsBlock = true →
    key1Of c.desc = h →
    s.record h = some r →
    s.counter h / 65536 ≤ block →
    s.counter h + 1 < 2 ^ 64 →
    (s.cis.journal.length < 262144 → ∃ t, exec (.nonceReservationPersisted h) s = .next t ∧ tabFind t.cis.journal h.toNat = some (block, journalMac s h block) ∧
            tabFind t.cis.persisted h.toNat = some block ∧ tabFind t.cis.reserving h.toNat = none ∧
            t.cmd e = some { c with block := some block, nonce := some (natBe 4 r.nonceField.toNat ++ natBe 8 (s.counter h)), wantsBlock := false } ∧
            tabFind t.cis.counters h.toNat = some (s.counter h + 1) ∧ t = { s with cis := t.cis, slu := t.slu }) ∧
          (262144 ≤ s.cis.journal.length → tabFind s.cis.journal h.toNat = none → exec (.nonceReservationPersisted h) s = .next s))

/-- R182, R167, R185, R22: a denied command at the head of its queue retires with the status of its DENY, no RESULT and the
retirement instant, the epoch of its verdict, TAG and slot; its entry is free. An allowed, checked command without a state
change retires with its own status and RESULT, and its output below 256 bytes is written before its completion can post (R19). A
command that is not the head, or whose verdict is open, does not retire; the full dirty list makes it wait, with MIRROR_STALL
(bit 6 of VLT_EVENT). -/
def Obligations.RetirementPutsTheCompletion : Prop :=
  (∀ (s : State) (e st : Nat) (c : Cmd) (r : List QItem),
    s.cmd e = some c →
    (s.queue c.fn c.q).order = .cmd e :: r →
    c.verdict = .deny st →
    c.phase = .squashed →
    stalls s c = false →
    c.moved = false →
    (∀ p ∈ s.queues, p.2.parkedDesc = none ∧ p.2.releaseAt = none) →
    ∃ t k m, exec (.retirement e) s = .next t ∧ (t.queue c.fn c.q).toPost = (s.queue c.fn c.q).toPost ++ k :: m ∧ k.status = st ∧ k.result = [] ∧
        k.retire = s.tbs.now ∧ k.epoch = c.vEpoch.getD c.epoch ∧ k.tag = tagOf c.desc ∧ k.slot = c.slot ∧ k.replayed = (c.replayed && c.dispatchedAt.isSome) ∧ k.duplicate = false ∧
        (k.late = true ↔ c.deadlineAt ≠ 0 ∧ c.deadlineAt < s.tbs.now ∧ c.denied = false) ∧ t.cmd e = none ∧ e ∉ t.slu.mgmt) ∧
  (∀ (s : State) (e v : Nat) (c : Cmd) (r : List QItem),
    s.cmd e = some c →
    (s.queue c.fn c.q).order = .cmd e :: r →
    c.verdict = .allow →
    c.phase = .done →
    c.status = some v →
    v < 256 →
    c.effect = .none →
    c.block = none →
    lastNonce c = false →
    c.moved = false →
    c.output ≠ [] →
    c.output.length ≤ outLenOf c.desc →
    outSgl c.desc = false →
    c.written = [] →
    s.holds c.fn c.q = false →
    (∀ p ∈ s.queues, p.2.parkedDesc = none ∧ p.2.releaseAt = none) →
    ∃ t k m o, exec (.retirement e) s = .next t ∧ t.out = s.out ++ s.writesOf c.fn (some c.q) (outAddrOf c.desc) c.output ++ o ∧
        (t.queue c.fn c.q).toPost = (s.queue c.fn c.q).toPost ++ k :: m ∧ k.status = v ∧ k.result = c.result ∧ k.retire = s.tbs.now ∧
        k.epoch = c.vEpoch.getD c.epoch ∧ k.tag = tagOf c.desc ∧ k.waitsFor = [] ∧ t.cmd e = none ∧ t.cis.records = s.cis.records) ∧
  (∀ (s : State) (e : Nat) (c : Cmd),
    s.cmd e = some c →
    ((∀ r, (s.queue c.fn c.q).order ≠ .cmd e :: r) ∨ c.verdict = .open ∨ (c.verdict = .allow ∧ c.status = none) → exec (.retirement e) s = .next s) ∧
        (mayRetire s e c = true → outputWaits s c = false → stalls s c = true → exec (.retirement e) s = .next { s with vlt := { s.vlt with event := s.vlt.event.set 6 } }))

namespace Sys2Proof.Claims

/-- Entry e ended with a status and a RESULT and no output. -/
def EndedWith (t : State) (e status : Nat) (result : Bytes) : Prop :=
  ∃ d, t.cmd e = some d ∧ d.phase = .done ∧ d.status = some status ∧ d.result = result ∧ d.output = [] ∧ d.extraOut = [] ∧ d.effect = .none

/-- The ARMED entries of the launch table at an instant that has come, and no earlier one. -/
def FirstDue (s : State) (t : Nat) : Prop :=
  t ≤ s.tbs.now ∧ (∃ n, n < 64 ∧ (s.launch n).state = .armed ∧ (s.launch n).instant = t) ∧
  ∀ m, m < 64 → (s.launch m).state = .armed → t ≤ (s.launch m).instant

end Sys2Proof.Claims

/-- R86: an instant less than 1 ms or more than 2^56 ns ahead gives LAUNCH_TIME, a conflict LAUNCH_CONFLICT, no room QUOTA, in this
order, and arms nothing; else the entry is ARMED with the next SEQ, in the lowest FREE entry or, with none FREE, in the final
one of lowest SEQ, and RESULT gives its number and SEQ; every other entry stays. BATCH.ARM also clears its queue's record
(R134). R90, R135: a cancel before the instant with the entry's SEQ makes it CANCELLED with HOST_CANCEL; else LAUNCH_NOT_ARMED,
and a VF that is not the origin gets FUNCTION. NOP performs nothing. -/
def Obligations.LaunchEntriesAreArmedAndCancelled : Prop :=
  (∀ (s : State) (e : Nat) (c : Cmd),
    s.ready e (· == 0x0001) = some c →
    c.basin = none →
    e ∉ s.slu.mgmt →
    exec (.nop e) s = .next (s.setCmd e { c with
          status := some 0, result := [], output := [], extraOut := [], effect := .none, newRec := none, phase := .done, onJets := false })) ∧
  (∀ (s : State) (n : Nat),
    s.launchRoom = some n →
    n < 64 ∧ (((s.launch n).state = .free ∧ ∀ m, m < n → (s.launch m).state ≠ .free) ∨
        ((∀ m, m < 64 → (s.launch m).state ≠ .free) ∧ (s.launch n).state ≠ .armed ∧ ∀ m, m < 64 → (s.launch m).state ≠ .armed → (s.launch n).seq ≤ (s.launch m).seq))) ∧
  (∀ (s : State) (e n t arg k : Nat) (c : Cmd),
    s.ready e (· == 0x0520) = some c →
    c.basin = none →
    t = param c.desc 0 8 →
    arg = param c.desc 8 8 →
    k = param c.desc 0x10 1 →
    (t < s.tbs.now + 1000000 ∨ s.tbs.now + 2 ^ 56 < t → ∃ u, exec (.launchSchedule e) s = .next u ∧ EndedWith u e 0x0222 [] ∧ u.tbs = s.tbs ∧ u.lay = s.lay) ∧
        (s.tbs.now + 1000000 ≤ t → t ≤ s.tbs.now + 2 ^ 56 → launchConflict s (scheduleKind k) t arg = true →
          ∃ u, exec (.launchSchedule e) s = .next u ∧ EndedWith u e 0x0223 [] ∧ u.tbs = s.tbs ∧ u.lay = s.lay) ∧
        (s.tbs.now + 1000000 ≤ t → t ≤ s.tbs.now + 2 ^ 56 → launchConflict s (scheduleKind k) t arg = false → s.launchRoom = none →
          ∃ u, exec (.launchSchedule e) s = .next u ∧ EndedWith u e 0x0102 [] ∧ u.tbs = s.tbs ∧ u.lay = s.lay) ∧
        (s.tbs.now + 1000000 ≤ t → t ≤ s.tbs.now + 2 ^ 56 → launchConflict s (scheduleKind k) t arg = false → s.launchRoom = some n →
          ∃ u, exec (.launchSchedule e) s = .next u ∧ EndedWith u e 0 (natLe 4 n ++ natLe 4 s.tbs.nextSeq) ∧
            u.launch n = { instant := t, kind := some (scheduleKind k), state := .armed, seq := s.tbs.nextSeq, arg := arg, owner := c.fn } ∧
            (∀ m, m ≠ n → u.launch m = s.launch m) ∧ u.tbs.nextSeq = (s.tbs.nextSeq + 1) % 2 ^ 32 ∧
            u.lay = (if k = 1 ∧ s.lay.stage = .staged then { s.lay with stage := .scheduled, launchAt := t } else s.lay))) ∧
  (∀ (s : State) (e n t q p : Nat) (c : Cmd),
    s.ready e (· == 0x0002) = some c →
    c.basin = none →
    e ∉ s.slu.mgmt →
    t = param c.desc 0 8 →
    q = param c.desc 0x0C 1 % 64 →
    p = (s.partOf c.fn).getD 0 →
    s.tbs.now + 1000000 ≤ t →
    t ≤ s.tbs.now + 2 ^ 56 →
    s.launchRoom = some n →
    launchQuota s p = false →
    ∃ u x, exec (.batchArm e) s = .next u ∧ EndedWith u e 0 (natLe 4 n ++ natLe 4 s.tbs.nextSeq) ∧ u.launch n = x ∧ x.instant = t ∧
        x.kind = some .batchRelease ∧ x.state = .armed ∧ x.origin = p ∧ x.seq = s.tbs.nextSeq ∧ bitsAt x.arg 0 32 = param c.desc 8 4 ∧
        batchQueue x = (c.fn, q) ∧ (∀ m, m ≠ n → u.launch m = s.launch m) ∧
        u.queue c.fn q = { s.queue c.fn q with batchRecord := none } ∧ u = { s with slu := u.slu, tbs := u.tbs, queues := u.queues }) ∧
  (∀ (s : State) (e n : Nat) (c : Cmd),
    s.ready e (· == 0x0003) = some c →
    c.basin = none →
    e ∉ s.slu.mgmt →
    n = param c.desc 0 1 →
    ((s.launch n).state = .armed → (s.launch n).seq = param c.desc 4 4 → s.tbs.now < (s.launch n).instant → (c.fn.vf = 0 ∨ s.partOf c.fn = some (s.launch n).origin) →
          ∃ u, exec (.launchCancel e) s = .next u ∧ EndedWith u e 0 [] ∧ u.launch n = { s.launch n with state := .cancelled, cause := 4 } ∧ ∀ m, m ≠ n → u.launch m = s.launch m) ∧
        ((s.launch n).state = .armed → (s.launch n).seq = param c.desc 4 4 → s.tbs.now < (s.launch n).instant → c.fn.vf ≠ 0 → s.partOf c.fn ≠ some (s.launch n).origin →
          ∃ u, exec (.launchCancel e) s = .next u ∧ EndedWith u e 0x0304 [] ∧ u.tbs = s.tbs) ∧
        ((s.launch n).state ≠ .armed ∨ (s.launch n).seq ≠ param c.desc 4 4 ∨ (s.launch n).instant ≤ s.tbs.now →
          ∃ u, exec (.launchCancel e) s = .next u ∧ EndedWith u e 0x0224 [] ∧ u.tbs = s.tbs))

/-- R89: the entries of an instant are taken in the order of their kinds. R87, R88, R190: an entry that fires is FIRED at this
instant, the launch sequence advances by one, every keeper pair has its launch-fired bit and LAUNCH interrupt, and every open
verdict admitted before is to be evaluated afresh while its command keeps the tags of its admission (R189). R91: in BOOTING,
SEALED, RESTORE_ONLY or HALTED the entries are MISSED with DEVICE_STATE, an entry whose precondition fails is FAILED with
PRECONDITION, and the launch sequence stays. A KEY launch changes its record's state; a Weir swap the live set and its swap
number; a LAYOUT launch makes the staged image active, locks, advances the rule epoch, takes its ceiling and PPS offset, and
voids an approval of another image (R37). R36 step 8: after a launch the active-slot pointer commits and LAY_ACTIVE_SERIAL shows
the active image. R36 step 9, R46: once the pointer has committed and no command, access or held write of an older epoch
remains, DRAINED sets in status and events, STAGE is EMPTY and LAY_DRAINED_EPOCH the epoch; with one older command left nothing
happens. R193: DRAINED_SEQ advances to a sequence that no command precedes. R411: a swap drains once no load of the other set is
in flight. That the earlier posted stores are acknowledged is what the row itself says. -/
def Obligations.LaunchesFireInOneBroadcastAndDrain : Prop :=
  (∀ (s : State),
    (∀ m, m < 64 → (s.launch m).state = .armed → s.tbs.now < (s.launch m).instant) →
    exec .launchInstant s = .next s) ∧
  (∀ (s : State) (t : Nat),
    (entriesAt s t).Pairwise (fun a b => kindOrder (s.launch a).kind ≤ kindOrder (s.launch b).kind) ∧ (entriesAt s t).Nodup ∧
        ∀ n, n ∈ entriesAt s t ↔ n < 64 ∧ (s.launch n).state = .armed ∧ (s.launch n).instant = t ∧ (s.launch n).kind ≠ none) ∧
  (∀ (s : State) (t n : Nat),
    FirstDue s t →
    noLaunch s = true →
    n ∈ entriesAt s t →
    ∃ u, exec .launchInstant s = .next u ∧ u.launch n = { s.launch n with state := .missed, cause := 1 } ∧ u.slu.launchSeq = s.slu.launchSeq ∧
        u.tbs.event.flags.getLsbD 5 = true ∧ u.lay.active = s.lay.active ∧ u.cis = s.cis ∧ u.wei = s.wei ∧ ∀ m, m ∉ entriesAt s t → u.launch m = s.launch m) ∧
  (∀ (s : State) (t n : Nat) (x : LaunchEntry),
    FirstDue s t →
    noLaunch s = false →
    entriesAt s t = [n] →
    s.launch n = x →
    (precondition s x = false → ∃ u, exec .launchInstant s = .next u ∧ u.launch n = { x with state := .failed, cause := 2 } ∧
            u.tbs.event = s.tbs.event.set 6 ∧ u.slu.launchSeq = s.slu.launchSeq ∧ u.lay.active = s.lay.active ∧ u.cis = s.cis ∧ u.wei = s.wei) ∧
        (precondition s x = true → ∃ u, exec .launchInstant s = .next u ∧ u.launch n = { x with state := .fired, firedAt := s.tbs.now } ∧
            u.slu.launchSeq = (s.slu.launchSeq + 1) % 2 ^ 32)) ∧
  (∀ (s : State) (t n : Nat) (x : LaunchEntry) (h : BitVec 64) (r : Record),
    FirstDue s t →
    noLaunch s = false →
    entriesAt s t = [n] →
    s.launch n = x →
    h = BitVec.ofNat 64 x.arg →
    s.record h = some r →
    ((x.kind = some .keyActivate ∧ r.state = 0) ∨ (x.kind = some .keyRetire ∧ r.state ≤ 2)) →
    ∃ u, exec .launchInstant s = .next u ∧ u.record h = some { r with state := if x.kind = some .keyActivate then 1 else 3, stateTime := s.tbs.now } ∧
        (∀ p, p < 9 → (u.pair p).lfire = (s.pair p).lfire ||| BitVec.ofNat 64 (2 ^ n) ∧ (u.pair p).pend.getLsbD 4 = true) ∧
        (∀ e c, s.cmd e = some c → c.seq ≠ (s.slu.launchSeq + 1) % 2 ^ 32 → u.cmd e = some (if c.verdict = .open then
          { c with recheck := true } else c)) ∧
        u.slu.rechecked = s.slu.rechecked ∧
        u.queues = s.queues ∧ u.lay = s.lay ∧ u.wei = s.wei ∧ u.out = s.out) ∧
  (∀ (s : State) (t n : Nat) (x : LaunchEntry),
    FirstDue s t →
    noLaunch s = false →
    entriesAt s t = [n] →
    s.launch n = x →
    (x.kind = some .weirSwap → s.wei.live ≠ (x.arg % 2 == 1) → s.wei.drainedSwap = s.wei.swapSeq → ∃ u, exec .launchInstant s = .next u ∧
            u.wei.live = (x.arg % 2 == 1) ∧ u.wei.swapSeq = (s.wei.swapSeq + 1) % 2 ^ 32 ∧ u.wei.event.flags.getLsbD 0 = true ∧ u.lay = s.lay ∧ u.queues = s.queues) ∧
        (∀ l, x.kind = some .layout → s.lay.stage = .scheduled → s.lay.draining = false → s.lay.staged = some l → s.lay.stagedSerial = x.arg →
          ∃ u, exec .launchInstant s = .next u ∧ u.lay.active = some l ∧ u.lay.staged = s.lay.active ∧ u.lay.lock = true ∧ u.lay.epoch = (s.lay.epoch + 1) % 2 ^ 32 ∧
            u.lay.draining = true ∧ u.lay.drained = false ∧ u.lay.slotCommit = true ∧ u.lay.event.flags.getLsbD 0 = true ∧ u.bsn.ceil = l.ceilMv ∧ u.tbs.ppsOffset = l.ppsOffset ∧
            u.fnt.session = none ∧ (s.lay.approvedAt ≠ none → (∀ i, s.lay.image = some i → i.digest ≠ l.digest) → u.lay.event.flags.getLsbD 4 = true))) ∧
  (∀ (s : State) (l : Layout),
    s.lay.active = some l →
    (s.lay.slotCommit = true → ∃ t k, exec .layoutSlotCommit s = .next t ∧ t.lay = { s.lay with slotCommit := false, slot := k, activeSerial := l.serial } ∧
            t.fnt.activeSlot = some k ∧ s.fnt.activeSlot ≠ some k ∧ tabFind t.fnt.layoutSlots (if k then 1 else 0) = some s.lay.loading ∧ s.lay.epoch ≤ t.fnt.savedEpoch ∧
            t = { s with lay := t.lay, fnt := t.fnt }) ∧
        (s.lay.slotCommit = false → exec .layoutSlotCommit s = .next s)) ∧
  (∀ (s : State),
    s.lay.draining = true →
    s.lay.slotCommit = false →
    ((∃ e c, s.cmd e = some c ∧ c.epoch < s.lay.epoch) ∨ (∃ p ∈ s.queues, ∃ w ∈ p.2.heldOut, w.epoch < s.lay.epoch) ∨ (∃ p ∈ s.pairs, ∃ x, p.2.load = some x ∧ x.epoch < s.lay.epoch) →
            exec .epochDrained s = .next s) ∧
        ((∀ p ∈ s.slu.retire, s.lay.epoch ≤ p.2.epoch) → (∀ p ∈ s.queues, ∀ w ∈ p.2.heldOut, s.lay.epoch ≤ w.epoch) → (∀ p ∈ s.pairs, ∀ x, p.2.load = some x → s.lay.epoch ≤ x.epoch) →
            (∀ x, s.wei.debugAcc = some x → s.lay.epoch ≤ x.epoch) → (∀ n ∈ basinNums, (s.basin n).cas.wiping = false) → ∃ t, exec .epochDrained s = .next t ∧ t.lay.draining = false ∧ t.lay.drained = true ∧
              t.lay.drainedEpoch = s.lay.epoch ∧ t.lay.stage = .empty ∧ t.lay.event = s.lay.event.set 1 ∧ t.lay.active = s.lay.active ∧ t.slu = s.slu ∧ (s.bsn.derated = false → t.queues = s.queues))) ∧
  (∀ (s : State),
    (s.slu.drainedSeq < newestDrained s → exec .launchSequenceDrained s = .next { s with slu := { s.slu with
            drainedSeq := newestDrained s, raEvent := s.slu.raEvent.set 0 } }) ∧
        (newestDrained s ≤ s.slu.drainedSeq → exec .launchSequenceDrained s = .next s) ∧
        newestDrained s ≤ s.slu.launchSeq ∧ (∀ e c, s.cmd e = some c → newestDrained s ≤ c.seq) ∧ ∀ p ∈ s.queues, ∀ w ∈ p.2.heldOut, newestDrained s ≤ w.seq) ∧
  (∀ (s : State),
    (s.wei.drainedSwap ≠ s.wei.swapSeq → (∀ p ∈ s.pairs, ∀ x, p.2.load = some x → x.set = s.wei.live) → (∀ x, s.wei.debugAcc = some x → x.set = s.wei.live) → ∃ t, exec .swapDrained s = .next t ∧ t.wei.drainedSwap = s.wei.swapSeq ∧
            t.wei.drained = true ∧ t.wei.event = s.wei.event.set 1 ∧ t.wei.live = s.wei.live ∧ (∀ p ∈ t.pairs, ∀ x ∈ p.2.stores, x.2.2.1 = s.wei.live) ∧
            t = { s with wei := t.wei, pairs := t.pairs }) ∧
        (s.wei.drainedSwap = s.wei.swapSeq → exec .swapDrained s = .next s) ∧
        ((∃ p ∈ s.pairs, ∃ x, p.2.load = some x ∧ x.set ≠ s.wei.live) ∨ (∃ x, s.wei.debugAcc = some x ∧ x.set ≠ s.wei.live) → exec .swapDrained s = .next s))

/-- R38, R590: a load is refused outside EMPTY, LOADING and VERIFIED; an offset that does not follow empties the slot with SEQUENCE,
a length that cannot be does so with LENGTH; a chunk in order is appended, and a load into a VERIFIED image starts again. With
the last byte the image is VERIFIED or, with the cause of R34 in RESULT and in LAY_REJECT and REJECTED (bit 2 of LAY_EVENT), the
slot is empty. R36 step 5, R37, R39: STAGE of an approved image that still passes writes the staged bank; without approval it is
rejected with cause 0x0D. R40: DISCARD cancels the armed LAYOUT entry with HOST_CANCEL and empties the slot, unless the launch
has come. -/
def Obligations.LayoutImagesAreLoadedStagedAndDiscarded : Prop :=
  (∀ (s : State) (e off : Nat) (c : Cmd) (all : Bytes) (u : State),
    s.ready e (· == 0x0501) = some c →
    c.basin = none →
    off = param c.desc 0 4 →
    (s.lay.stage = .empty ∨ s.lay.stage = .loading ∨ s.lay.stage = .verified) →
    all = (if off = 0 then [] else s.lay.loading) ++ c.input →
    u = { s with lay := { layCleared s.lay with stage := .loading, loading := all } } →
    (off ≠ (if s.lay.stage = .loading then s.lay.loading.length else 0) → ∃ t, exec (.layoutLoad e) s = .next t ∧ EndedWith t e 0x0407 [] ∧ t.lay = layCleared s.lay) ∧
        (off = (if s.lay.stage = .loading then s.lay.loading.length else 0) → all.length < 256 ∨ 2097152 < field all 8 4 + 3373 ∨ field all 8 4 + 3373 < all.length →
          ∃ t, exec (.layoutLoad e) s = .next t ∧ EndedWith t e 0x0404 [] ∧ t.lay = layCleared s.lay) ∧
        (off = (if s.lay.stage = .loading then s.lay.loading.length else 0) → 256 ≤ all.length → field all 8 4 + 3373 ≤ 2097152 → all.length < field all 8 4 + 3373 →
          ∃ t, exec (.layoutLoad e) s = .next t ∧ EndedWith t e 0 [] ∧ t.lay = u.lay) ∧
        (off = (if s.lay.stage = .loading then s.lay.loading.length else 0) → 256 ≤ all.length → all.length ≤ 2097152 → all.length = field all 8 4 + 3373 →
          (imageFails u all = none → ∃ t, exec (.layoutLoad e) s = .next t ∧ EndedWith t e 0 [] ∧ t.lay.stage = .verified ∧ t.lay.image = some (parseLayout all) ∧ t.lay.active = s.lay.active) ∧
          (∀ r, imageFails u all = some r → ∃ t, exec (.layoutLoad e) s = .next t ∧ EndedWith t e 1 (natLe 1 r.1) ∧ t.lay.stage = .empty ∧ t.lay.loading = [] ∧
            t.lay.rejCause = r.1 ∧ t.lay.event = s.lay.event.set 2 ∧ t.lay.active = s.lay.active))) ∧
  (∀ (s : State) (e : Nat) (c : Cmd),
    s.ready e (· == 0x0501) = some c →
    c.basin = none →
    (s.lay.stage = .approved ∨ s.lay.stage = .staged ∨ s.lay.stage = .scheduled) →
    ∃ t, exec (.layoutLoad e) s = .next t ∧ EndedWith t e 0x0220 [] ∧ t.lay = s.lay) ∧
  (∀ (s : State) (e : Nat) (c : Cmd),
    s.ready e (· == 0x0502) = some c →
    c.basin = none →
    (s.lay.draining = true → ∃ t, exec (.layoutStage e) s = .next t ∧ EndedWith t e 0x0221 [] ∧ t.lay = s.lay) ∧
        (s.lay.draining = false → s.lay.stage ≠ .verified → s.lay.stage ≠ .approved → ∃ t, exec (.layoutStage e) s = .next t ∧ EndedWith t e 0x0220 [] ∧ t.lay = s.lay) ∧
        (s.lay.draining = false → s.lay.stage = .verified ∨ s.lay.stage = .approved → imageFails s s.lay.loading = none →
          (s.lay.stage = .approved → s.lay.approvedAt = some s.lay.activeSerial → ∃ t, exec (.layoutStage e) s = .next t ∧ EndedWith t e 0 [] ∧
            t.lay = { s.lay with stage := .staged, staged := s.lay.image } ∧ (s.lay.epoch + 1) % 2 ^ 32 ≤ t.fnt.savedEpoch) ∧
          (s.lay.stage = .verified ∨ s.lay.approvedAt ≠ some s.lay.activeSerial → ∃ t, exec (.layoutStage e) s = .next t ∧ EndedWith t e 1 [0x0D] ∧
            t.lay.stage = .empty ∧ t.lay.rejCause = 0x0D ∧ t.lay.event = s.lay.event.set 2))) ∧
  (∀ (s : State) (e : Nat) (c : Cmd),
    s.ready e (· == 0x0503) = some c →
    c.basin = none →
    (s.lay.draining = true ∨ layoutDue s = true → ∃ t, exec (.layoutDiscard e) s = .next t ∧ EndedWith t e 0x0220 [] ∧ t.lay = s.lay ∧ t.tbs = s.tbs) ∧
        (s.lay.draining = false → layoutDue s = false → ∃ t, exec (.layoutDiscard e) s = .next t ∧ EndedWith t e 0 [] ∧ t.lay.stage = .empty ∧ t.lay.loading = [] ∧
          t.lay.image = none ∧ t.lay.active = s.lay.active ∧ t.lay.epoch = s.lay.epoch ∧
          (∀ n, n < 64 → t.launch n = if (s.launch n).state = .armed ∧ (s.launch n).kind = some .layout then { s.launch n with state := .cancelled, cause := 4 } else s.launch n)))

/-- R57: C in 1/256 of a ring cycle gives the nearest whole picosecond, halves upward; a window ends once the counter has passed a
multiple of 4,096 ns, and not else. R58, R59: a powered, unparked basin whose ring ran over the window records the pace and
counts the window, in the device pace while it serves or drains; R78: a window that contains a counter step is discarded. R69:
in a measured window the flag sets when it is the 16th slower than the floor in a row while the voltage stands at the ceiling or
AVS_FAULT holds, and clears at the 16th in a row that is not slower; without a Layout it is clear. Stated for basins with fewer
than 16 windows, where no pace step (R60) can be. R66: at the end of a period, once the counter has passed a multiple of 65,536
ns, the loop aims at the ceiling when above it, up 10 mV when slower than the floor, down 5 mV after 16 periods more than 5 %
faster, else nowhere, and issues one Voltage write when the target differs; a period without a measured window, or that began
without a Layout (log entry 132), changes nothing; while AVS_FAULT holds there is no write. The read-back is due 32 us later. A
Status read follows a Voltage read (log entry 133). R67, R68: a failed transaction is retried until the fourth attempt, after
which AVS_FAULT sets and the last commanded voltage stays; a successful write commands it, with CEILING_REACHED at the ceiling;
the fourth consecutive read-back more than 20 mV off sets AVS_FAULT and the 16th within it clears it. A ceiling outside 720 to
900 mV, or while locked, is ignored. -/
def Obligations.PaceWindowsAndTheVoltageLoop : Prop :=
  (∀ (c : Nat),
    0 < c →
    2 * c * windowPace c ≤ 2 * 1048576000 + c ∧ 2 * 1048576000 + c < 2 * c * (windowPace c + 1)) ∧
  (∀ (s : State) (l : List (Option Nat)),
    (s.tbs.now / 4096 = s.bsn.windowMark ∨ s.bsn.windowStep = true) →
    exec (.paceWindow l) s = .next (if s.tbs.now / 4096 = s.bsn.windowMark then s else
        { s with bsn := { s.bsn with windowStep := false, windowMark := s.tbs.now / 4096 } })) ∧
  (∀ (s : State) (l : List (Option Nat)),
    s.tbs.now / 4096 ≠ s.bsn.windowMark →
    s.bsn.windowStep = false →
    (∀ b ∈ basinNums, (s.basin b).windows.length < 16) →
    ∃ t, exec (.paceWindow l) s = .next t ∧ (∀ b ∈ basinNums, ((s.basin b).st = .off ∨ (s.basin b).st = .retired ∨ (s.basin b).st = .parked ∨ cyclesOn l b = none → t.basin b = { s.basin b with waking := (t.basin b).waking }) ∧
          (∀ c, (s.basin b).st ≠ .off → (s.basin b).st ≠ .retired → (s.basin b).st ≠ .parked → cyclesOn l b = some c → t.basin b = { s.basin b with
            windowPs := windowPace c, windows := (windowPace c :: (s.basin b).windows).take 16, sinceStart := (s.basin b).sinceStart + 1
            sinceServe := if (s.basin b).st = .serving ∨ (s.basin b).st = .draining then (s.basin b).sinceServe + 1 else (s.basin b).sinceServe
            fastest := if (s.basin b).fastest = 0 then windowPace c else min (s.basin b).fastest (windowPace c) })) ∧
        t.bsn.windowMark = s.tbs.now / 4096 ∧ (∀ e c, s.cmd e = some c → ∃ d, t.cmd e = some d ∧ d.status = c.status ∧ d.verdict = c.verdict ∧ d.phase = c.phase) ∧
        (measured s l = false → t.bsn.derated = s.bsn.derated ∧ t.bsn.slowRun = s.bsn.slowRun ∧ t.bsn.okRun = s.bsn.okRun) ∧
        (measured s l = true → s.lay.active = none → t.bsn.derated = false) ∧
        (∀ y, measured s l = true → s.lay.active = some y → (t.bsn.derated = true ↔
          (s.bsn.derated = true ∧ ¬ (t.devicePace ≤ y.floorPs ∧ 15 ≤ s.bsn.okRun)) ∨
          (s.bsn.derated = false ∧ y.floorPs < t.devicePace ∧ (s.bsn.voltage = s.bsn.ceil ∨ s.bsn.avsFault = true) ∧ 15 ≤ s.bsn.slowRun))) ∧
        t = { s with basins := t.basins, bsn := t.bsn, gau := t.gau, queues := t.queues, slu := t.slu }) ∧
  (∀ (s : State),
    s.tbs.now / 65536 ≠ s.bsn.periodMark →
    s.bsn.loopOn = true →
    s.bsn.avsFault = false →
    s.bsn.avs = none →
    ∃ t v k, exec .loopPeriod s = .next t ∧ t.bsn.periodPaces = [] ∧ t.bsn.loopFloor = s.lay.active.map (fun y => y.floorPs) ∧ t.bsn.periodMark = s.tbs.now / 65536 ∧ t.bsn.readDue = some (s.tbs.now + 32000) ∧
        t.bsn.fastPeriods = k ∧ t.bsn.voltage = s.bsn.voltage ∧
        (v = s.bsn.voltage → t.out = s.out ∧ t.bsn.avs = none) ∧ (v ≠ s.bsn.voltage → t.out = s.out ++ [.avs 0 (.voltageWrite v true) true] ∧ t.bsn.avs = some (.voltageWrite v true, 1) ∧ t.bsn.lastVWrite = some s.tbs.now) ∧
        (s.bsn.ceil < s.bsn.voltage → v = s.bsn.ceil ∧ k = 0) ∧
        (s.bsn.voltage ≤ s.bsn.ceil → s.bsn.periodPaces = [] ∨ s.bsn.loopFloor = none → v = s.bsn.voltage ∧ k = s.bsn.fastPeriods) ∧
        (∀ fl, s.bsn.loopFloor = some fl → s.bsn.voltage ≤ s.bsn.ceil → s.bsn.periodPaces ≠ [] →
          (fl < maxOf s.bsn.periodPaces → k = 0 ∧ v = if s.bsn.voltage < s.bsn.ceil then min (s.bsn.voltage + 10) s.bsn.ceil else s.bsn.voltage) ∧
          (20 * maxOf s.bsn.periodPaces < 19 * fl → (15 ≤ s.bsn.fastPeriods ∧ 600 < s.bsn.voltage → v = max (s.bsn.voltage - 5) 600 ∧ k = 0) ∧
            (s.bsn.fastPeriods < 15 ∨ s.bsn.voltage ≤ 600 → v = s.bsn.voltage ∧ k = s.bsn.fastPeriods + 1)) ∧
          (maxOf s.bsn.periodPaces ≤ fl → 19 * fl ≤ 20 * maxOf s.bsn.periodPaces → v = s.bsn.voltage ∧ k = 0)) ∧
        t = { s with bsn := t.bsn, out := t.out }) ∧
  (∀ (s : State),
    s.tbs.now / 65536 ≠ s.bsn.periodMark →
    (s.bsn.loopOn = false ∨ s.bsn.avsFault = true) →
    ∃ t, exec .loopPeriod s = .next t ∧ t.bsn.loopFloor = s.lay.active.map (fun y => y.floorPs) ∧ t.out = s.out ∧ t.bsn.voltage = s.bsn.voltage ∧ t.bsn.avs = s.bsn.avs ∧ t.bsn.fastPeriods = s.bsn.fastPeriods ∧
        (s.bsn.loopOn = true → t.bsn.readDue = some (s.tbs.now + 32000))) ∧
  (∀ (s : State),
    s.tbs.now / 65536 = s.bsn.periodMark →
    exec .loopPeriod s = .next s) ∧
  (∀ (s : State) (t0 : Nat),
    s.bsn.readDue = some t0 →
    (t0 ≤ s.tbs.now → s.bsn.avs = none → exec .avsReadBack s = .next { s with
            bsn := { s.bsn with readDue := none, avs := some (.voltageRead, 1) }, out := s.out ++ [.avs 0 .voltageRead true] }) ∧
        (s.tbs.now < t0 → exec .avsReadBack s = .next s)) ∧
  (∀ (s : State) (x : AvsCmd) (n : Nat) (r : AvsEnd),
    s.bsn.avs = some (x, n) →
    (r = .crcError ∨ r = .noResponse) →
    (n < 4 → ∃ t, exec (.avsTransactionEnd r) s = .next t ∧ t.bsn.avs = some (x, n + 1) ∧ t.out = s.out ++ [.avs 0 x true] ∧
            t.bsn.voltage = s.bsn.voltage ∧ t.bsn.avsFault = s.bsn.avsFault) ∧
        (4 ≤ n → ∃ t, exec (.avsTransactionEnd r) s = .next t ∧ t.bsn.avs = none ∧ t.bsn.avsFault = true ∧ t.bsn.voltage = s.bsn.voltage ∧ t.out = s.out ∧
            t.bsn.vloopEvent = if s.bsn.avsFault then s.bsn.vloopEvent else s.bsn.vloopEvent.set 2)) ∧
  (∀ (s : State) (mv n v : Nat),
    s.bsn.avs = some (.voltageWrite mv true, n) →
    ∃ t, exec (.avsTransactionEnd (.ok v)) s = .next t ∧ t.bsn.avs = none ∧ t.bsn.voltage = mv ∧
        t.bsn.vloopEvent = (if mv = s.bsn.ceil then s.bsn.vloopEvent.set 0 else s.bsn.vloopEvent) ∧ t = { s with bsn := t.bsn }) ∧
  (∀ (s : State) (n v : Nat),
    s.bsn.avs = some (.voltageRead, n) →
    ∃ t, exec (.avsTransactionEnd (.ok v)) s = .next t ∧ t.bsn.avs = some (.statusRead, 1) ∧ t.out = s.out ++ [.avs 0 .statusRead true] ∧ t.bsn.voltage = s.bsn.voltage ∧ t.bsn.vddRead = v % 65536 ∧
        (v ≤ s.bsn.voltage + 20 ∧ s.bsn.voltage ≤ v + 20 → t.bsn.avsBad = 0 ∧ t.bsn.avsFault = (s.bsn.avsFault && decide (s.bsn.avsGood < 15))) ∧
        (s.bsn.voltage + 20 < v ∨ v + 20 < s.bsn.voltage → t.bsn.avsFault = (s.bsn.avsFault || decide (3 ≤ s.bsn.avsBad)) ∧ t.bsn.avsBad = min 4 (s.bsn.avsBad + 1)) ∧
        t = { s with bsn := t.bsn, gau := t.gau, out := t.out }) ∧
  (∀ (s : State) (n v : Nat),
    s.bsn.avs = some (.statusRead, n) →
    exec (.avsTransactionEnd (.ok v)) s = .next { s with bsn := { s.bsn with avs := none } }) ∧
  (∀ (s : State) (f : FnId) (v : BitVec 32) (mv : Nat),
    mv = v.toNat % 1024 →
    (f.vf = 0 → s.fnExists f = true → s.lockable = true → 720 ≤ mv → mv ≤ 900 → exec (.avsCeilWrite f v) s = .next { s with bsn := { s.bsn with ceil := mv } }) ∧
        (f.vf ≠ 0 ∨ s.lockable = false ∨ mv < 720 ∨ 900 < mv → exec (.avsCeilWrite f v) s = .next s))

/-- R114, R98: when a link goes down each of its queues that is enabled or not IDLE is DETACHED from that instant and holds its
unacknowledged writes (its latest ones, log entry 38), any other keeps its state; a re-attach under way in its functions fails
with DST_DOWN (R118); VF Enable clears, the IDE stream ends, and PEER_DOWN (bit 0) sets in every function of the other port in
two-x8 mode. A trained link comes up with its rate and width and sets PEER_UP (bit 1). R115: 1,000 ms after the loss a detached
queue and its commands are destroyed and HOLD_EXPIRED (bit 4) sets in the peer. R564: PERST takes the link down. R566, R568:
D3hot and D0 are entered by the write, and a function in D3hot with an unreported event drives WAKE_N. R108: inside an SPDM
secure session IDE_KM programs keys and puts them in use, the stream being secure once all are; outside one it does nothing; a
failed IDE check leaves the secure state, is counted and reported by AER in PF0 (bit 28, log entry 138). R94: the DOE mailbox
answers and raises IRQ 1 of the Fountainhead pair (codes PRESUMED, log entry 37). -/
def Obligations.LinksDetachQueuesAndPortsAnswer : Prop :=
  (∀ (s : State) (port : Bool),
    (s.port port).linkUp = true →
    ∃ t, exec (.linkDown port) s = .next t ∧ (t.port port).linkUp = false ∧ (t.port port).vfEnable = false ∧ (t.port port).ideSecure = false ∧
        (t.port port).training = !(s.port port).perst ∧ t.port (!port) = s.port (!port) ∧
        (∀ f q, f.port = port → f.vf < 32 → q < 64 → (s.queue f q).detachedAt = none →
          ((s.queue f q).enabled = true ∨ (s.queue f q).idle = false → ∃ n, t.queue f q = { s.queue f q with detachedAt := some s.tbs.now, fetching := none, heldOut := ((s.out.filter (ofQueue f q)).drop n).map (fun o => ⟨s.lay.epoch, s.slu.launchSeq, o, true⟩) ++ (s.queue f q).heldOut }) ∧
          ((s.queue f q).enabled = false → (s.queue f q).idle = true → t.queue f q = s.queue f q)) ∧
        (∀ f q, f.port = !port → f.vf < 32 → q < 64 → t.queue f q = s.queue f q) ∧
        (∀ f, f.port = port → f.vf < 32 → (s.fn f).reState = 1 → (t.fn f).reState = 3 ∧ (t.fn f).reResult = 5) ∧
        (∀ f, s.x16 = false → f.port = !port → f.vf < 32 → s.fnExists f = true → (t.fn f).event = (s.fn f).event.set 0) ∧
        t.slu = s.slu ∧ t.cis = s.cis ∧ t.lay = s.lay ∧ t.tbs = s.tbs) ∧
  (∀ (s : State) (port : Bool) (rate width : Nat),
    (s.port port).training = true →
    (s.port port).linkUp = false →
    (s.port port).perst = false →
    s.portExists port = true →
    s.pwr.por = false →
    ∃ t, exec (.linkUp port rate width) s = .next t ∧
        t.port port = { s.port port with linkUp := true, rate := rate, width := width, ideSecure := false, training := false, wasUp := true } ∧
        (∀ f, s.x16 = false → f.port = !port → f.vf < 32 → s.fnExists f = true → (t.fn f).event = (s.fn f).event.set 1) ∧
        t.queues = s.queues ∧ t.slu = s.slu ∧ t.lay = s.lay ∧ t.tbs = s.tbs) ∧
  (∀ (s : State) (port : Bool),
    s.portExists port = true →
    (∃ t, exec (.perstAssert port) s = .next t ∧ (t.port port).linkUp = false ∧ (t.port port).perst = true ∧ (t.port port).vfEnable = false ∧
            t.port (!port) = s.port (!port) ∧ (s.vlt.mirrorPort = port → t.vlt.mirrorEn = false) ∧ (∀ f, f.port = port → f.vf < 32 → (t.fn f).aerStatus = 0) ∧ t.slu = s.slu ∧ t.cis = s.cis ∧ t.lay = s.lay ∧ t.tbs = s.tbs) ∧
          ((s.port port).perst = true → exec (.perstDeassert port) s = .next (s.setPort port { s.port port with perst := false, training := !s.pwr.por }))) ∧
  (∀ (s : State),
    s.x16 = true →
    exec (.perstAssert true) s = .next s ∧ exec (.perstDeassert true) s = .next s) ∧
  (∀ (s : State) (f : FnId) (q t0 : Nat),
    (s.queue f q).detachedAt = some t0 →
    (s.tbs.now < t0 + 1000000000 → exec (.holdExpired f q) s = .next s) ∧
          (t0 + 1000000000 ≤ s.tbs.now → ∃ t, exec (.holdExpired f q) s = .next t ∧ t.queue f q = {} ∧ (∀ e c, t.cmd e = some c → ¬(c.fn = f ∧ c.q = q)) ∧
            (∀ g, s.peer f = some g → s.fnExists g = true → (t.fn g).event = (s.fn g).event.set 4) ∧ (∀ g p, qKey g p ≠ qKey f q → t.queue g p = s.queue g p) ∧
            t.cis.records = s.cis.records ∧ t.lay = s.lay ∧ t.tbs = s.tbs)) ∧
  (∀ (s : State) (f : FnId),
    s.fnExists f = true →
    (s.port f.port).linkUp = true →
    ((s.fn f).d3hot = false → ∃ t, exec (.powerStateChange f true) s = .next t ∧ t.fn f = { s.fn f with d3hot := true } ∧
            ((s.fn f).event.flags ≠ 0 → t.pwr.wake = true) ∧ t = { s with fns := t.fns, pwr := { s.pwr with wake := t.pwr.wake } }) ∧
          ((s.fn f).d3hot = true → ∃ t, exec (.powerStateChange f false) s = .next t ∧ (t.fn f).d3hot = false ∧ (t.fn f).event = (s.fn f).event ∧
            (∀ q, q < 64 → (s.queue f q).detachedAt = none → (t.queue f q).heldOut = []) ∧ s.out <+: t.out ∧
            t = { s with fns := t.fns, queues := t.queues, out := t.out, pwr := { s.pwr with wake := t.pwr.wake } })) ∧
  (∀ (s : State) (port : Bool),
    (s.port port).linkUp = true →
    (s.port port).ideSecure = true →
    ∃ t, exec (.ideCheckFailure port) s = .next t ∧ t.ports = tabSet s.ports (portNum port) { s.port port with ideSecure := false, ideGo := [] } ∧
        t.out = s.out ++ [.aer port] ∧ (t.fn ⟨port, 0⟩).aerStatus.getLsbD 28 = true ∧ (∀ f, f.vf < 32 → f ≠ ⟨port, 0⟩ → t.fn f = s.fn f) ∧
        t = { s with ports := t.ports, fns := t.fns, gau := t.gau, out := t.out, freeCtr := t.freeCtr }) ∧
  (∀ (s : State) (port : Bool) (msg : Bytes) (i k : Nat),
    doeUp s port = true →
    k = ideKeyOf msg →
    ((s.port port).spdm ≠ 2 → exec (.ideKmMessage port msg) s = .next (s.irq 8 1)) ∧
          ((s.port port).spdm = 2 → ∃ t bs, exec (.ideKmMessage port msg) s = .next t ∧ t.out = s.out ++ [.doe port bs] ∧ (t.pair 8).pend.getLsbD 1 = true ∧
            t = { s with ports := t.ports, pairs := t.pairs, out := t.out, freeCtr := t.freeCtr } ∧
            (field msg 1 1 = 2 → (t.port port).ideKeys = (k :: (s.port port).ideKeys).eraseDups ∧ (t.port port).ideSecure = (s.port port).ideSecure) ∧
            (field msg 1 1 = 4 → k ∈ (s.port port).ideKeys → (t.port port).ideGo = (k :: (s.port port).ideGo).eraseDups ∧
              (t.port port).ideSecure = ((s.port port).ideSecure || ideWhole (k :: (s.port port).ideGo).eraseDups (k % 2))) ∧
            (field msg 1 1 = 5 → (t.port port).ideSecure = false) ∧
            (field msg 1 1 ≠ 2 → (field msg 1 1 = 4 → k ∉ (s.port port).ideKeys) → field msg 1 1 ≠ 5 → t.port port = s.port port)) ∧
          (∃ t bs, exec (.spdmMessage port msg) s = .next t ∧ t.out = s.out ++ [.doe port bs] ∧ (t.pair 8).pend.getLsbD 1 = true ∧
            t.port port = { s.port port with spdm := spdmNext (s.port port).spdm (field msg 1 1) } ∧ t.port (!port) = s.port (!port) ∧
            t = { s with ports := t.ports, pairs := t.pairs, out := t.out, freeCtr := t.freeCtr }) ∧
          (∃ t bs, exec (.doeDiscovery port i) s = .next t ∧ t.out = s.out ++ [.doe port bs] ∧ (t.pair 8).pend.getLsbD 1 = true ∧ t = { s with pairs := t.pairs, out := t.out }))

/-- R116, R118, R119: a write of WEL_REATTACH with GO makes STATE BUSY, and a write while BUSY is discarded. When the re-attach
completes (at the next tick, which runs reattachDue, log entry 36) a detached queue moves to an idle destination queue: held
writes go out under the new requester, the running commands and the window move, REATTACH_DONE (bit 2) sets; otherwise RESULT
names NOT_PEER, SRC_NOT_DETACHED or DST_BUSY and nothing else changes. R99, R110 to R112: an FLR marks a VF RESETTING, advances
its generation, removes every command and pending message of it, stops its queues and fails a re-attach under way with
DST_RESET; key records stay; a second request has no effect. At its end, once no Cascade wipes for the function, its session
keys and queues are gone and its registers are at reset values with the generation kept (R113: RESTRUCTURED, bit 3). R98: VF
Enable is set with NumVFs from 1 to 31, and clearing it resets every VF. -/
def Obligations.ReattachAndFunctionLevelResets : Prop :=
  (∀ (s : State) (f : FnId) (v : BitVec 32),
    s.fnExists f = true →
    (s.fn f).resetting = false →
    (s.port f.port).linkUp = true →
    ((s.fn f).reState = 1 → exec (.reattach f v) s = .next s) ∧
          ((s.fn f).reState ≠ 1 → v.getLsbD 31 = true → exec (.reattach f v) s = .next (s.setFn f { s.fn f with reattach := v &&& 0x80003F7F, reState := 1, reResult := 0 })) ∧
          ((s.fn f).reState ≠ 1 → v.getLsbD 31 = false → exec (.reattach f v) s = .next (s.setFn f { s.fn f with reattach := v &&& 0x80003F7F }))) ∧
  (∀ (s : State) (f h : FnId) (v : BitVec 32) (sq dq : Nat),
    s.fnExists f = true →
    (s.fn f).resetting = false →
    (s.port f.port).linkUp = true →
    v.getLsbD 31 = true →
    (s.fns.map (·.1)).Nodup →
    (∀ p ∈ s.fns, p.2.reState ≠ 1) →
    sq = v.toNat % 64 →
    dq = v.toNat / 256 % 64 →
    (if v.getLsbD 6 then some f else s.peer f) = some h →
    f.vf < 32 →
    h.vf < 32 →
    reattachResult s f (some h) sq dq = 0 →
    ∃ t u, exec (.reattach f v) s = .next t ∧ (t.fn f).reState = 1 ∧ t.queues = s.queues ∧ t.reattachDue = u ∧ (u.fn f).reState = 2 ∧ (u.fn f).reResult = 0 ∧
        (u.fn f).reattach.getLsbD 31 = false ∧ (u.fn f).event = (s.fn f).event.set 2 ∧ u.queue h sq = {} ∧ (u.queue f dq).detachedAt = none ∧
        s.out ++ (s.queue h sq).heldOut.map (fun w => reroute f dq w.out) <+: u.out ∧
        (∀ e c, s.cmd e = some c → u.cmd e = some (if c.fn = h ∧ c.q = sq then { c with fn := f, q := dq, moved := true, staged := 0 } else c)) ∧
        u.cis = s.cis ∧ u.lay = s.lay ∧ u.tbs = s.tbs) ∧
  (∀ (s : State) (f h : FnId) (v : BitVec 32) (sq dq : Nat),
    s.fnExists f = true →
    (s.fn f).reState = 1 →
    (s.fn f).reattach = v →
    sq = v.toNat % 64 →
    dq = v.toNat / 256 % 64 →
    (if v.getLsbD 6 then some f else s.peer f) = some h →
    f.vf < 32 →
    h.vf < 32 →
    ((s.queue h sq).detached = false → s.finishReattach f = s.setFn f { s.fn f with reattach := v &&& 0x7FFFFFFF, reState := 3, reResult := 1 }) ∧
          ((s.queue h sq).detached = true → (s.queuePairs f ≤ dq ∨ (s.queue f dq).enabled = false ∨ (s.queue f dq).idle = false) →
            s.finishReattach f = s.setFn f { s.fn f with reattach := v &&& 0x7FFFFFFF, reState := 3, reResult := 2 }) ∧
          (reattachResult s f (some h) sq dq = 0 → ∃ t, s.finishReattach f = t ∧ (t.fn f).reState = 2 ∧ (t.fn f).reResult = 0 ∧ (t.fn f).reattach = v &&& 0x7FFFFFFF ∧
            (t.fn f).event = (s.fn f).event.set 2 ∧ t.queue h sq = {} ∧ (t.queue f dq).detachedAt = none ∧
            s.out ++ (s.queue h sq).heldOut.map (fun w => reroute f dq w.out) <+: t.out ∧
            (∀ e c, s.cmd e = some c → c.fn = h → c.q = sq → t.cmd e = some { c with fn := f, q := dq, moved := true, staged := 0 }) ∧
            (∀ e c, s.cmd e = some c → ¬(c.fn = h ∧ c.q = sq) → t.cmd e = some c) ∧ t.cis = s.cis ∧ t.lay = s.lay ∧ t.tbs = s.tbs)) ∧
  (∀ (s : State) (f : FnId),
    (s.fn f).reattach.getLsbD 6 = false →
    s.peer f = none →
    s.finishReattach f = s.setFn f { s.fn f with reattach := (s.fn f).reattach &&& 0x7FFFFFFF, reState := 3, reResult := 3 }) ∧
  (∀ (s : State) (f : FnId),
    s.fnExists f = true →
    f.vf ≠ 0 →
    f.vf < 32 →
    ((s.fn f).resetting = true → exec (.functionLevelReset f) s = .next s) ∧
          ((s.fn f).resetting = false → ∃ t, exec (.functionLevelReset f) s = .next t ∧
            t.fn f = { s.fn f with resetting := true, generation := ((s.fn f).generation + 1) % 2 ^ 32, flrAt := s.tbs.now, restructure := false, vecPending := 0, reState := (t.fn f).reState, reResult := (t.fn f).reResult, reattach := (t.fn f).reattach } ∧
            ((s.fn f).reState = 1 → (t.fn f).reState = 3 ∧ (t.fn f).reResult = 4) ∧
            (∀ e c, t.cmd e = some c → c.fn ≠ f) ∧ (∀ q, q < 64 → (t.queue f q).enabled = false ∧ (t.queue f q).order = [] ∧ (t.queue f q).toPost = [] ∧ (t.queue f q).heldOut = []) ∧
            (∀ g, g ≠ f → g.vf < 32 → t.fn g = s.fn g ∧ ∀ q, q < 64 → t.queue g q = s.queue g q) ∧ t.cis.records = s.cis.records ∧ t.lay = s.lay ∧ t.tbs = s.tbs ∧ t.gro = s.gro)) ∧
  (∀ (s : State) (f : FnId),
    f.vf < 32 →
    (s.cis.records.map (·.1)).Nodup →
    ((s.fn f).resetting = false ∨ cascadesClear s f = false → exec (.flrComplete f) s = .next s) ∧
          ((s.fn f).resetting = true → cascadesClear s f = true → ∃ t, exec (.flrComplete f) s = .next t ∧
            ((s.fn f).restructure = false → t.fn f = { generation := (s.fn f).generation }) ∧ (t.fn f).generation = (s.fn f).generation ∧ (t.fn f).resetting = false ∧
            (∀ q, q < 64 → t.queue f q = {}) ∧ (∀ k r, tabFind t.cis.records k = some r → ¬(r.session = true ∧ r.fn = f)) ∧
            (∀ k r, tabFind s.cis.records k = some r → r.session = false ∨ r.fn ≠ f → tabFind t.cis.records k = some r) ∧ t.lay.active = s.lay.active ∧ t.tbs.now = s.tbs.now)) ∧
  (∀ (s : State) (port : Bool) (n : Nat),
    ((s.port port).linkUp = true → (s.port port).vfEnable = false → s.portExists port = true → 1 ≤ n → n ≤ 31 →
            exec (.vfEnableSet port n) s = .next (s.setPort port { s.port port with vfEnable := true, numVfs := n })) ∧
          (n = 0 ∨ 31 < n ∨ (s.port port).vfEnable = true → exec (.vfEnableSet port n) s = .next s) ∧
          ((s.port port).vfEnable = true → ∃ t, exec (.vfEnableClear port) s = .next t ∧ (t.port port).vfEnable = false ∧
            (∀ f, f.port = port → 1 ≤ f.vf → f.vf < 32 → s.fnExists f = true → (t.fn f).resetting = true ∧ ((s.fn f).resetting = false → ∀ e c, t.cmd e = some c → c.fn ≠ f)) ∧
            t.fn ⟨port, 0⟩ = s.fn ⟨port, 0⟩ ∧ t.cis.records = s.cis.records ∧ t.lay = s.lay ∧ t.tbs = s.tbs) ∧
          ((s.port port).vfEnable = false → exec (.vfEnableClear port) s = .next s))

namespace Sys2Proof.Claims

/-- A fault of code det with element el is recorded for basin b: counters, the newest log entry, BSN_EVENT.FAULT. -/
def Recorded (s t : State) (b det el : Nat) : Prop :=
  (t.basin b).faultsTotal = min 0xFFFFFFFF ((s.basin b).faultsTotal + 1) ∧ t.bsn.total = min 0xFFFFFFFF (s.bsn.total + 1) ∧
  t.bsn.newest = (if s.bsn.total = 0 then 0 else (s.bsn.newest + 1) % 16) ∧
  (∃ l, tabFind t.bsn.log t.bsn.newest = some l ∧ l.time = s.tbs.now ∧ l.basin = b ∧ l.detector = det ∧ l.element = el)

/-- The fault is recorded and awaits its retest; the attempt of the entry a it ended is removed, the keeper pair has its notice,
and no other basin, command or unit changed; of memory only the attempt's own work buffers were cleared. -/
def Awaits (s t : State) (b det el : Nat) (a : Option Nat) : Prop :=
  Recorded s t b det el ∧ (t.basin b).st = (s.basin b).st ∧ (t.basin b).generation = (s.basin b).generation ∧
  (t.basin b).retest = (s.basin b).retest ++ [(det, a, t.bsn.newest)] ∧ t.bsn.event = s.bsn.event.set 0 ∧ (t.pair b).notice.isSome = true ∧
  (∀ n, a = some n → (t.pair b).notice = some n ∧ ∃ c, t.cmd n = some c ∧ c.phase = .retest ∧ c.output = [] ∧ c.newRec = none ∧ c.nonce = none) ∧
  (∀ n, n ≠ b → t.basin n = s.basin n) ∧ (∀ k, a ≠ some k → t.cmd k = s.cmd k) ∧ t.slu = { s.slu with retire := t.slu.retire } ∧
  (a = none → t.mem = s.mem) ∧ (∀ n c, a = some n → s.cmd n = some c → c.bufs = [] → t.mem = s.mem) ∧
  t = { s with basins := t.basins, bsn := t.bsn, slu := t.slu, gau := t.gau, pairs := t.pairs, vlt := t.vlt, freeCtr := t.freeCtr,
               fns := t.fns, out := t.out, mem := t.mem }

/-- Basin b serves, and fewer than two of its faults of codes 1 to 10 lie within the last 10 s. -/
def FewFaults (s : State) (b : Nat) : Prop :=
  b < 8 ∧ (s.basin b).st = .serving ∧ ((s.basin b).faultTimes.filter (fun t => decide (s.tbs.now ≤ t + 10000000000))).length < 2

end Sys2Proof.Claims

/-- R201 to R204: a stall, a rail collision, a checking-pipe mismatch, a hash parity failure, an SRAM error and a fabric tag failure
of a serving basin below its third fault are recorded (counters, fault log, FAULT), end the affected attempt and give the keeper
pair its notice. An SRAM word that holds a key-cache entry has that entry invalidated. The rail collision and the tag failure
are events of Grotto's sources 13 and 14 (R55, R416); a corrected SRAM error is only counted. R205: a sequencer fault resets the
basin: its generation advances, its cache, lanes and DRBG are empty, and it runs its self-test. R206: a pass of the retest
replays a first attempt on the same basin, a second on another one, and exhausts a third; a failure retires the basin. R496: a
lockstep difference in the Fountainhead pair restarts it, and a second one within 10 s makes the device HALTED. Where a command
may change basin it waits in front of a backlog or awaits a substitute; where no other basin can take it, or it used both
replays, it ends with 0x0601 (at once after its verdict, else with that verdict, R149). -/
def Obligations.DetectedFaultsRetestReplayAndRetire : Prop :=
  (∀ (s : State) (b el : Nat) (e : Option Nat),
    FewFaults s b →
    (∃ t, exec (.stall (.basin b) el e) s = .next t ∧ Awaits s t b 2 el (affected s b e)) ∧
        (∃ u, exec (.railCollision (.basin b) el e) s = .next (u.assertSource 13) ∧ Awaits s u b 1 el (affected s b e)) ∧
        (∃ t, exec (.sramUncorrectable ⟨b, e⟩ .plain) s = .next t ∧ Awaits s t b 7 11 (affected s b e) ∧
            (∀ h, s.onBasin b = [] → ∃ u, exec (.sramUncorrectable ⟨b, e⟩ (.key h)) s = .next u ∧
              (u.basin b).cache = (s.basin b).cache.filter (fun k => k.handle != h))) ∧
        (∀ k, exec (.fabricTagFailure (.basin b) .vault k) s = exec (.fabricTagFailure .vault (.basin b) k) s)) ∧
  (∀ (s : State) (b j e : Nat),
    FewFaults s b →
    (j < 8 → ∃ t u, exec (.checkingPipeMismatch b j e) s = .next t ∧ Awaits u t b 3 j (affected s b (some e)) ∧
            u = s.setBasin b { s.basin b with jetEvent := (s.basin b).jetEvent.set 0 }) ∧
        (j = 8 ∨ j = 9 → ∃ t u, exec (.hashParityFailure b j e) s = .next t ∧ Awaits u t b 4 j (affected s b (some e)) ∧
            u = s.setBasin b { s.basin b with jetEvent := (s.basin b).jetEvent.set 1 })) ∧
  (∀ (s u : State) (b : Nat) (x : Sys2Proof.Unit) (e : Option Nat),
    u = (({ s with wei := { s.wei with tagFails := s.wei.tagFails + 1, event := s.wei.event.set 5 } } : State)).assertSource 14 →
    (x = .vault ∨ x = .sluice ∨ x = .cistern ∨ x = .fountainhead ∨ x = .spring ∨ x = .grotto) →
    FewFaults u b →
    ∃ t, exec (.fabricTagFailure x (.basin b) e) s = .next t ∧ Awaits u t b 6 12 (affected u b e)) ∧
  (∀ (s : State) (b : Nat),
    b < 8 →
    exec (.sramCorrection b) s = .next { s with gau := { s.gau with acc := { s.gau.acc with
          faults := tabSet s.gau.acc.faults 0 (min 0xFFFFFFFF (tabGet s.gau.acc.faults 0 0 + 1)) } } }) ∧
  (∀ (s : State) (b : Nat) (e : Option Nat),
    FewFaults s b →
    (s.basin b).retest = [] →
    (∃ t, exec (.sequencerControlFault ⟨b, e⟩) s = .next t ∧ Recorded s t b 10 14 ∧ (t.basin b).st = .testing ∧ (t.basin b).testFor = 1 ∧
            (t.basin b).role = (s.basin b).role ∧ (t.basin b).generation = ((s.basin b).generation + 1) % 2 ^ 32 ∧ (t.basin b).cache = [] ∧
            (t.basin b).lanes = [] ∧ t.pair b = {} ∧ t.drbg b = { reseeds := (s.drbg b).reseeds } ∧ t.tbs = s.tbs ∧ t.lay = s.lay ∧ t.gro = s.gro) ∧
        (∃ t, exec (.keeperLockstepMismatch ⟨b, e⟩) s = .next t ∧ Recorded s t b 8 13 ∧ (t.basin b).st = .testing ∧ (t.basin b).testFor = 1 ∧
            (t.basin b).generation = ((s.basin b).generation + 1) % 2 ^ 32)) ∧
  (∀ (s : State) (e : Option Nat),
    ((∀ t, s.fnt.lastFault = some t → t + 10000000000 < s.tbs.now) → ∃ t, exec (.keeperLockstepMismatch ⟨8, e⟩) s = .next t ∧
            t.fnt.generation = (s.fnt.generation + 1) % 2 ^ 32 ∧ t.fnt.restartAt = some s.tbs.now ∧ t.fnt.lastFault = some s.tbs.now ∧ t.fnt.op = s.fnt.op ∧
            t.fnt.session = none ∧ t.tbs = s.tbs ∧ t.lay = s.lay) ∧
        (∀ t, s.fnt.lastFault = some t → s.tbs.now ≤ t + 10000000000 → ∃ u, exec (.keeperLockstepMismatch ⟨8, e⟩) s = .next u ∧ u.fnt.op = .halted ∧
            u.cis.records = [] ∧ u.cis.rootReady = false ∧ u.vlt.unlocked = false)) ∧
  (∀ (s : State) (b e d idx : Nat) (c : Cmd) (r : List (Nat × Option Nat × Nat)),
    (s.basin b).retest = (d, some e, idx) :: r →
    (s.basin b).st = .serving →
    s.cmd e = some c →
    c.phase = .retest →
    ∃ t l, exec (.faultRetestDone b true) s = .next t ∧ (t.basin b).retest = r ∧ (t.basin b).st = .serving ∧
        tabFind t.bsn.log idx = some l ∧ l.cls = .transient ∧
        (c.usedOther = false → c.usedSame = false → l.action = 0 ∧ t.bsn.replays = s.bsn.replays + 1 ∧
          t.cmd e = some { c with phase := .backlog, front := true, usedSame := true }) ∧
        (c.usedOther = false → c.usedSame = true → otherComes s c = true → l.action = 1 ∧ t.bsn.replays = s.bsn.replays + 1 ∧
          ∃ y, t.cmd e = some y ∧ y.usedOther = true ∧ ((y.phase = .backlog ∧ y.front = true ∧ y.basin ≠ c.basin ∧ y.basin ≠ c.firstBasin) ∨ y.phase = .awaitReplay true)) ∧
        (c.usedOther = true ∨ (c.usedSame = true ∧ otherComes s c = false) → l.action = 2 ∧ t.bsn.replays = s.bsn.replays ∧ ∃ y, t.cmd e = some y ∧
          (c.verdict ≠ .open → y.phase = .squashed ∧ y.verdict = .deny 0x0601) ∧ (c.verdict = .open → y.phase = .done ∧ y.status = some 0x0601 ∧ y.verdict = .open)) ∧
        t.tbs = s.tbs ∧ t.lay = s.lay ∧ t.cis.records = s.cis.records ∧ t.queues = s.queues) ∧
  (∀ (s : State) (b d idx : Nat) (a : Option Nat) (r : List (Nat × Option Nat × Nat)),
    b < 8 →
    (s.basin b).retest = (d, a, idx) :: r →
    (s.basin b).st = .serving →
    ∃ t l, exec (.faultRetestDone b false) s = .next t ∧ (t.basin b).st = .resetting ∧ (t.basin b).retest = [] ∧
        (t.basin b).generation = ((s.basin b).generation + 1) % 2 ^ 32 ∧ tabFind t.bsn.log idx = some l ∧ l.cls = .persistent ∧ t.tbs = s.tbs ∧ t.lay = s.lay) ∧
  (∀ (s : State) (b : Nat) (p : Bool),
    (s.basin b).retest = [] →
    exec (.faultRetestDone b p) s = .next s)

/-- R205, R213, R216, R468: a self-test that passes with an instantiated DRBG returns a reset basin to its role, makes an admitted
one SPARE or serving with ADMITTED, or gives the substitute its role with SUBSTITUTED; a failure retires the first and the last,
and leaves the admitted one RETIRED with ADMIT_FAILED. A basin that fails at boot stays OFF (R561), one that fails in a launch's
bring-up is retired, and one that passes takes its own role or is the spare. R198: a spare that fails becomes RETIRED with
NO_SPARE. R209, R213, R215: 2 ms after its start a drain ends, the basin RESETTING under its next generation; the diagnosis then
leaves it RETIRED and empty with its outcome in DIAG_OK, once no attempt runs there and its Cascade is wiped. R217, R218: GO
fails at once with NO_IMAGE, NOT_ACCEPTED or STATE, or is DONE where no basin is left to update, or the update runs, the spare
first; a drained basin is reset under its next generation and then tested; one that passes holds the new image with its
DONE_MASK bit set, as a basin's that ran it before, one that fails is retired and the update ends FAILED with SELFTEST. Each of
these steps taking one tick is the model's choice (log entry 140). -/
def Obligations.SelfTestsDrainsDiagnosisAndTheRollingUpdate : Prop :=
  (∀ (s : State) (b : Nat) (p : Bool),
    (s.basin b).st = .testing →
    (s.basin b).testFor = 1 →
    (p = true → (s.drbg b).inst = true → ∃ t, exec (.admissionSelfTestDone b p) s = .next t ∧
            t.basin b = { s.basin b with st := .serving, sinceServe := 0, waking := false, idleSince := s.tbs.now, testFor := 0, subFor := none, drainFrom := none, diagOk := false, vJ := 0, vK := 0, tagsJ := (t.basin b).tagsJ, tagsK := (t.basin b).tagsK } ∧ (s.onBasin b = [] → (t.basin b).tagsJ = [] ∧ (t.basin b).tagsK = []) ∧
            (∀ n, n ≠ b → t.basin n = s.basin n) ∧ (s.bsn.derated = false → t.queues = s.queues) ∧
            t = { s with basins := t.basins, bsn := { s.bsn with loopOn := true }, queues := t.queues }) ∧
          (p = false ∨ (s.drbg b).inst = false → ∃ t, exec (.admissionSelfTestDone b p) s = .next t ∧ (t.basin b).st = .resetting ∧
            (t.basin b).generation = ((s.basin b).generation + 1) % 2 ^ 32 ∧ (t.basin b).diagOk = false ∧ t.bsn.event.flags.getLsbD 2 = true ∧ t.tbs = s.tbs)) ∧
  (∀ (s : State) (b r : Nat) (p : Bool) (l : Layout),
    (s.basin b).st = .testing →
    (s.basin b).testFor = 2 →
    (s.basin b).role.getD b = r →
    s.lay.active = some l →
    l.spare ≠ r →
    (p = true → (s.drbg b).inst = true → ∃ t, exec (.admissionSelfTestDone b p) s = .next t ∧ (t.basin b).testFor = 0 ∧ (t.basin b).diagOk = false ∧
            t.bsn.event = s.bsn.event.set 4 ∧ (roleFilled s b r = true → (t.basin b).st = .spare ∧ (t.basin b).role = none) ∧
            (roleFilled s b r = false → (t.basin b).st = .serving ∧ (t.basin b).role = some r)) ∧
          (p = false ∨ (s.drbg b).inst = false → ∃ t, exec (.admissionSelfTestDone b p) s = .next t ∧
            t.basin b = { s.basin b with st := .retired, testFor := 0, diagOk := false } ∧ t.bsn = { s.bsn with event := s.bsn.event.set 5 } ∧
            (∀ n, n ≠ b → t.basin n = s.basin n) ∧ t = { s with basins := t.basins, bsn := t.bsn, pairs := t.pairs, fns := t.fns, out := t.out })) ∧
  (∀ (s : State) (b r : Nat) (p : Bool),
    (s.basin b).st = .testing →
    (s.basin b).testFor = 3 →
    (s.basin b).subFor = some r →
    (p = true → ∃ t, exec (.admissionSelfTestDone b p) s = .next t ∧ (t.basin b).st = .serving ∧ (t.basin b).role = some r ∧
            (t.basin b).sinceServe = 0 ∧ t.bsn.event = s.bsn.event.set 3 ∧ t.bsn.loopOn = true ∧ t.tbs = s.tbs ∧ t.lay = s.lay) ∧
          (p = false → ∃ t, exec (.admissionSelfTestDone b p) s = .next t ∧ (t.basin b).st = .resetting ∧
            (t.basin b).generation = ((s.basin b).generation + 1) % 2 ^ 32)) ∧
  (∀ (s : State) (b : Nat) (p : Bool),
    (s.basin b).st = .testing →
    ((s.basin b).testFor = 5 ∨ (s.basin b).testFor = 7) →
    (p = false → (s.basin b).testFor = 5 → exec (.admissionSelfTestDone b p) s = .next (s.setBasin b { s.basin b with st := .off, testFor := 0 })) ∧
        (p = false → (s.basin b).testFor = 7 → ∃ t, exec (.admissionSelfTestDone b p) s = .next t ∧ (t.basin b).st = .resetting ∧
          (t.basin b).generation = ((s.basin b).generation + 1) % 2 ^ 32 ∧ t.tbs = s.tbs) ∧
        (p = true → (s.drbg b).inst = true → listedFw s 0 (s.basin b).fwVersion (s.basin b).fwDigest = true → ∃ t, exec (.admissionSelfTestDone b p) s = .next t ∧
          ((t.basin b).st = .spare ∧ (t.basin b).role = none ∨ (t.basin b).st = .serving ∧ (t.basin b).role = some b))) ∧
  (∀ (s : State) (b : Nat) (p : Bool),
    (s.basin b).st ≠ .testing →
    exec (.admissionSelfTestDone b p) s = .next s) ∧
  (∀ (s : State) (n : Nat),
    s.spare? = some n →
    exec (.spareSelfTest true) s = .next s ∧
        ∃ t, exec (.spareSelfTest false) s = .next t ∧ t.basin n = { s.basin n with st := .retired, diagOk := false } ∧
          t.bsn = { s.bsn with event := (s.bsn.event.set 2).set 6 } ∧ (∀ b, b ≠ n → t.basin b = s.basin b) ∧
          t = { s with basins := t.basins, bsn := t.bsn, gau := t.gau, pairs := t.pairs, fns := t.fns, out := t.out }) ∧
  (∀ (s : State) (b t0 : Nat),
    (s.basin b).drainFrom = some t0 →
    (s.basin b).st = .draining →
    (s.tbs.now < t0 + 2000000 → exec (.basinDrainTimeout b) s = .next s) ∧
          (t0 + 2000000 ≤ s.tbs.now → (s.basin b).testFor ≠ 4 → ∃ t, exec (.basinDrainTimeout b) s = .next t ∧ (t.basin b).st = .resetting ∧
            (t.basin b).generation = ((s.basin b).generation + 1) % 2 ^ 32 ∧ (t.basin b).drainFrom = none ∧ t.tbs = s.tbs ∧ t.lay = s.lay ∧ (s.bsn.derated = false → t.queues = s.queues))) ∧
  (∀ (s : State) (b : Nat) (p : Bool),
    ((s.basin b).st = .resetting ∨ (s.basin b).st = .retired ∨ ((s.basin b).st = .draining ∧ (s.basin b).testFor ≠ 4)) →
    (drainedBasin s b = true → ∃ t, exec (.basinDiagnosisDone b p) s = .next t ∧ (t.basin b).st = .retired ∧ (t.basin b).diagOk = p ∧
            (t.basin b).generation = (if (s.basin b).st = .resetting then (s.basin b).generation else ((s.basin b).generation + 1) % 2 ^ 32) ∧ (t.basin b).cache = [] ∧ (t.basin b).fill = [] ∧ (t.basin b).faultsTotal = (s.basin b).faultsTotal ∧
            t.drbg b = { reseeds := (s.drbg b).reseeds } ∧ t.pair b = {} ∧ (∀ n, n ≠ b → t.basin n = s.basin n ∧ t.drbg n = s.drbg n ∧ t.pair n = s.pair n) ∧
            (s.bsn.derated = false → t.queues = s.queues) ∧ t = { s with basins := t.basins, spg := t.spg, pairs := t.pairs, queues := t.queues }) ∧
          (drainedBasin s b = false → exec (.basinDiagnosisDone b p) s = .next s)) ∧
  (∀ (s : State) (f : FnId) (i : StagedFw),
    f.vf = 0 →
    s.fnExists f = true →
    s.bsn.updState ≠ 1 →
    (keeperImage s = none → ∃ t, exec (.rollingUpdate f) s = .next t ∧ t.bsn = { s.bsn with updState := 3, updResult := 1, event := s.bsn.event.set 7 } ∧ t.basins = s.basins) ∧
          (keeperImage s = some i → listedFw s 0 i.version i.digest = false → ∃ t, exec (.rollingUpdate f) s = .next t ∧
            t.bsn = { s.bsn with updState := 3, updResult := 2, event := s.bsn.event.set 7 } ∧ t.basins = s.basins) ∧
          (keeperImage s = some i → listedFw s 0 i.version i.digest = true → s.gateOp ≠ .serving → ∃ t, exec (.rollingUpdate f) s = .next t ∧
            t.bsn = { s.bsn with updState := 3, updResult := 4, event := s.bsn.event.set 7 } ∧ t.basins = s.basins) ∧
          (keeperImage s = some i → listedFw s 0 i.version i.digest = true → s.gateOp = .serving →
            (∀ b ∈ basinNums, (s.basin b).st ≠ .testing ∧ (s.basin b).st ≠ .resetting) →
            (∃ b ∈ basinNums, runsImage (s.basin b) i = false ∧ ((s.basin b).st = .spare ∨ (s.basin b).st = .serving ∨ (s.basin b).st = .parked)) →
            ∃ t, exec (.rollingUpdate f) s = .next t ∧ t.bsn.updState = 1 ∧ t.bsn.updMask = runningMask s i ∧ t.bsn.updResult = 0 ∧ (t.basin t.bsn.updBasin).testFor = 4 ∧
              (∀ n, s.spare? = some n → runsImage (s.basin n) i = false → t.bsn.updBasin = n) ∧ t.fnt = s.fnt) ∧
          (keeperImage s = some i → listedFw s 0 i.version i.digest = true → s.gateOp = .serving →
            (∀ b ∈ basinNums, (s.basin b).st ≠ .testing ∧ (s.basin b).st ≠ .resetting) →
            (∀ b ∈ basinNums, runsImage (s.basin b) i = true ∨ ((s.basin b).st ≠ .spare ∧ (s.basin b).st ≠ .serving ∧ (s.basin b).st ≠ .parked)) →
            ∃ t, exec (.rollingUpdate f) s = .next t ∧ t.bsn = { s.bsn with updState := 2, updMask := runningMask s i, updResult := 0, event := s.bsn.event.set 7 } ∧
              t.basins = s.basins ∧ t.fnt.keeperVersion = i.version ∧ t.fnt.rbKeeper = max s.fnt.rbKeeper i.rollback)) ∧
  (∀ (s : State) (b : Nat) (i : StagedFw),
    b < 8 →
    s.bsn.updState = 1 →
    s.bsn.updBasin = b →
    (s.basin b).testFor = 4 →
    (s.basin b).st = .testing →
    keeperImage s = some i →
    (listedFw s 0 i.version i.digest = true → ∃ t, exec (.updateBasinDone b true) s = .next t ∧ (t.basin b).fwVersion = i.version ∧
            (t.basin b).fwDigest = i.digest ∧ (t.basin b).generation = (s.basin b).generation ∧ t.bsn.updMask.getLsbD b = true ∧
            (t.bsn.updState = 1 ∨ (t.bsn.updState = 2 ∧ t.bsn.updResult = 0 ∧ t.bsn.event.flags.getLsbD 7 = true ∧ t.fnt.keeperVersion = i.version ∧ t.fnt.rbKeeper = max s.fnt.rbKeeper i.rollback))) ∧
          (∃ t, exec (.updateBasinDone b false) s = .next t ∧ t.bsn.updState = 3 ∧ t.bsn.updResult = 3 ∧ t.bsn.event.flags.getLsbD 7 = true ∧
            (t.basin b).st = .resetting ∧ t.bsn.updMask = s.bsn.updMask)) ∧
  (∀ (s : State) (b : Nat),
    s.bsn.updState = 1 →
    s.bsn.updBasin = b →
    (s.basin b).testFor = 4 →
    ((s.basin b).st = .draining → drainedBasin s b = true → (s.updateTick.basin b).st = .resetting ∧ (s.updateTick.basin b).testFor = 4 ∧
            (s.updateTick.basin b).generation = ((s.basin b).generation + 1) % 2 ^ 32 ∧ (s.updateTick.basin b).cache = [] ∧ (s.updateTick.basin b).lanes = [] ∧
            ((s.basin b).role ≠ none ∨ s.onBasin b = [] → ∀ n, n ≠ b → s.updateTick.basin n = s.basin n)) ∧
          ((s.basin b).st = .draining → drainedBasin s b = false → s.updateTick = s) ∧
          ((s.basin b).st = .resetting → s.updateTick = s.setBasin b { s.basin b with st := .testing }))

namespace Sys2Proof.Claims

/-- Basin b's Cascade is owned by the command's entry and neither runs, wipes nor queues anything (R255). -/
abbrev CasReady (s : State) (b : Nat) (o : CasOps) : Prop :=
  b < 8 ∧ (s.basin b).cas.queue = [] ∧ (s.basin b).cas.running = none ∧ (s.basin b).cas.wiping = false ∧
    (s.basin b).cas.owner = some o.entry

/-- Only the Cascade of basin b differs, and the command runs on it, its cycles being counted at its end. -/
def CasRuns (s t : State) (b op : Nat) (o : CasOps) : Prop :=
  t = { s with basins := t.basins } ∧ (∀ c, c ≠ b → t.basin c = s.basin c) ∧
    t.basin b = { s.basin b with cas := (t.basin b).cas } ∧ (t.basin b).cas.running = some (op, o) ∧ (t.basin b).cas.queue = []

/-- The slots from d hold `ws` with T as given and U set, and every other slot is as before (R248, R258). -/
def CasSlots (s t : State) (b d : Nat) (ws : List (BitVec 128)) (taint : Bool) : Prop :=
  (∀ i, i < ws.length → (t.basin b).cas.slot (d + i) = { data := ws.getD i 0, t := taint, u := true }) ∧
    (∀ i, i < d ∨ d + ws.length ≤ i → (t.basin b).cas.slot i = (s.basin b).cas.slot i)

/-- A modular command answers in D: a value of n words congruent to r modulo m, r itself when the operands are less than m, with the taint of
its sources; the state's free values may advance (R251, log entry 1). -/
def CasResidue (s t : State) (b op : Nat) (o : CasOps) (m r : Nat) (reduced taint : Bool) : Prop :=
  ∃ v, CasRuns s { t with freeCtr := s.freeCtr } b op o ∧ CasSlots s t b o.d (toWords (o.nw + 1) v) taint ∧
    v < 2 ^ (128 * (o.nw + 1)) ∧ v % m = r % m ∧ (reduced = true → v = r % m)

end Sys2Proof.Claims

/-- R249 to R253 and R258: on a Cascade that the command's entry owns and that is idle, MODSET of an odd m above 1 writes R^2 mod m
above it and fills its context, and of another m ends in error CONTEXT and leaves the context invalid; with a valid context of
the command's n, MADD, MSUB, MMUL, MRED, MINV and MEXP write to D a value congruent to the sum, the difference, the product over
R, the reduction, the inverse where there is one, or the power, equal to it below m when every operand was less than m, tainted
when a source or the context is. Every other slot stays. A context that is invalid or of another n ends in error CONTEXT. -/
def Obligations.CascadeModularCommands : Prop :=
  (∀ (s : State) (b m : Nat) (o : CasOps),
    CasReady s b o →
    o.a + 2 * (o.nw + 1) ≤ 4096 →
    m = (s.basin b).cas.num o.a (o.nw + 1) →
    m % 2 = 1 →
    1 < m →
    ∃ t, exec (.modset b o) s = .next t ∧ CasRuns s t b 0x01 o ∧
        CasSlots s t b (o.a + (o.nw + 1)) (toWords (o.nw + 1) (2 ^ (128 * (o.nw + 1)) * 2 ^ (128 * (o.nw + 1)) % m)) ((s.basin b).cas.tainted o.a (o.nw + 1)) ∧
        tabFind (t.basin b).cas.ctxs o.ctx = some { s := o.a, n := o.nw + 1, taint := (s.basin b).cas.tainted o.a (o.nw + 1), m := m }) ∧
  (∀ (s : State) (b m : Nat) (o : CasOps),
    CasReady s b o →
    o.a + 2 * (o.nw + 1) ≤ 4096 →
    m = (s.basin b).cas.num o.a (o.nw + 1) →
    (m % 2 = 0 ∨ m = 1) →
    ∃ t, exec (.modset b o) s = .next t ∧ tabFind (t.basin b).cas.ctxs o.ctx = none ∧ (t.basin b).cas.slots = (s.basin b).cas.slots ∧
        (t.basin b).cas.error = 3 ∧ (t.basin b).cas.cmdError = true ∧ (t.basin b).cas.running = none) ∧
  (∀ (s : State) (b : Nat) (o : CasOps) (c : CasCtx) (va vb : Nat),
    CasReady s b o →
    (o.d + (o.nw + 1) ≤ 4096 ∧ o.a + (o.nw + 1) ≤ 4096 ∧ o.b + (o.nw + 1) ≤ 4096) →
    tabFind (s.basin b).cas.ctxs o.ctx = some c →
    c.n = o.nw + 1 →
    (1 < c.m ∧ c.m < 2 ^ (128 * (o.nw + 1))) →
    va = (s.basin b).cas.num o.a (o.nw + 1) →
    vb = (s.basin b).cas.num o.b (o.nw + 1) →
    (∃ t, exec (.madd b o) s = .next t ∧ CasResidue s t b 0x02 o c.m (va + vb) (decide (va < c.m) && decide (vb < c.m))
            (c.taint || (s.basin b).cas.tainted o.a (o.nw + 1) || (s.basin b).cas.tainted o.b (o.nw + 1))) ∧
          (∃ t r, exec (.msub b o) s = .next t ∧ CasResidue s t b 0x03 o c.m r (decide (va < c.m) && decide (vb < c.m))
            (c.taint || (s.basin b).cas.tainted o.a (o.nw + 1) || (s.basin b).cas.tainted o.b (o.nw + 1)) ∧ (r + vb) % c.m = va % c.m) ∧
          (∃ t r, exec (.mmul b o) s = .next t ∧ CasResidue s t b 0x04 o c.m r (decide (va < c.m) && decide (vb < c.m))
            (c.taint || (s.basin b).cas.tainted o.a (o.nw + 1) || (s.basin b).cas.tainted o.b (o.nw + 1)) ∧
            r = va * vb * modInv (256 * (o.nw + 1) + 2) (2 ^ (128 * (o.nw + 1))) c.m) ∧
          (∃ t r, exec (.minv b o) s = .next t ∧ CasResidue s t b 0x06 o c.m r (decide (va < c.m))
            (c.taint || (s.basin b).cas.tainted o.a (o.nw + 1)) ∧ r = modInv (256 * (o.nw + 1) + 2) va c.m)) ∧
  (∀ (s : State) (b : Nat) (o : CasOps) (c : CasCtx),
    CasReady s b o →
    (o.d + (o.nw + 1) ≤ 4096 ∧ o.a + 2 * (o.nw + 1) ≤ 4096) →
    tabFind (s.basin b).cas.ctxs o.ctx = some c →
    c.n = o.nw + 1 →
    (1 < c.m ∧ c.m < 2 ^ (128 * (o.nw + 1))) →
    ∃ t, exec (.mred b o) s = .next t ∧ CasRuns s t b 0x05 o ∧
        CasSlots s t b o.d (toWords (o.nw + 1) ((s.basin b).cas.num o.a (2 * (o.nw + 1)) % c.m)) (c.taint || (s.basin b).cas.tainted o.a (2 * (o.nw + 1)))) ∧
  (∀ (s : State) (b k : Nat) (o : CasOps) (c : CasCtx),
    CasReady s b o →
    k = ceilDiv o.l 128 →
    (o.d + (o.nw + 1) ≤ 4096 ∧ o.a + (o.nw + 1) ≤ 4096 ∧ o.b + k ≤ 4096) →
    (1 ≤ o.l ∧ o.l ≤ 128 * (o.nw + 1) + 32) →
    tabFind (s.basin b).cas.ctxs o.ctx = some c →
    c.n = o.nw + 1 →
    (1 < c.m ∧ c.m < 2 ^ (128 * (o.nw + 1))) →
    ∃ t, exec (.mexp b o) s = .next t ∧ CasResidue s t b 0x07 o c.m
        ((s.basin b).cas.num o.a (o.nw + 1) ^ ((s.basin b).cas.num o.b k % 2 ^ o.l)) (decide ((s.basin b).cas.num o.a (o.nw + 1) < c.m))
        (c.taint || (s.basin b).cas.tainted o.a (o.nw + 1) || (s.basin b).cas.tainted o.b k)) ∧
  (∀ (s : State) (b : Nat) (o : CasOps),
    CasReady s b o →
    (o.d + (o.nw + 1) ≤ 4096 ∧ o.a + (o.nw + 1) ≤ 4096 ∧ o.b + (o.nw + 1) ≤ 4096) →
    (∀ c ∈ tabFind (s.basin b).cas.ctxs o.ctx, c.n ≠ o.nw + 1) →
    ∃ t, exec (.mmul b o) s = .next t ∧ (t.basin b).cas.error = 3 ∧ (t.basin b).cas.cmdError = true ∧
        (t.basin b).cas.slots = (s.basin b).cas.slots ∧ (t.basin b).cas.ctxs = (s.basin b).cas.ctxs ∧ (t.basin b).cas.running = none)

/-- R248, R249, R256 to R258 and R265: on an idle Cascade that the command's entry owns, with operands inside slot 0xFFF: IMUL
writes the 2n-word product, IADD the sum or difference modulo 2^(128n), MOVE a copy; CSWAP writes both ranges and exchanges them
exactly when its bit is set, CSEL writes D whatever its comparison gives; all taint what they write when a source is tainted;
LOADKEY writes the named component, tainted when secret, RAND words of the pool, always tainted; WIPE zeroes its L slots with
both bits clear. Every other slot stays; an operand past slot 0xFFF ends in error RANGE. -/
def Obligations.CascadeNumbersKeysAndWipes : Prop :=
  (∀ (s : State) (b : Nat) (o : CasOps),
    CasReady s b o →
    (o.d + 2 * (o.nw + 1) ≤ 4096 ∧ o.a + (o.nw + 1) ≤ 4096 ∧ o.b + (o.nw + 1) ≤ 4096) →
    (∃ t, exec (.imul b o) s = .next t ∧ CasRuns s t b 0x08 o ∧
            CasSlots s t b o.d (toWords (2 * (o.nw + 1)) ((s.basin b).cas.num o.a (o.nw + 1) * (s.basin b).cas.num o.b (o.nw + 1)))
              ((s.basin b).cas.tainted o.a (o.nw + 1) || (s.basin b).cas.tainted o.b (o.nw + 1))) ∧
          (∃ t, exec (.iadd b o) s = .next t ∧ CasRuns s t b 0x09 o ∧
            CasSlots s t b o.d (toWords (o.nw + 1) (if bitAt o.mode 0
                then (s.basin b).cas.num o.a (o.nw + 1) + (2 ^ (128 * (o.nw + 1)) - (s.basin b).cas.num o.b (o.nw + 1))
                else (s.basin b).cas.num o.a (o.nw + 1) + (s.basin b).cas.num o.b (o.nw + 1)))
              ((s.basin b).cas.tainted o.a (o.nw + 1) || (s.basin b).cas.tainted o.b (o.nw + 1))) ∧
          (∃ t, exec (.move b o) s = .next t ∧ CasRuns s t b 0x0A o ∧
            CasSlots s t b o.d ((s.basin b).cas.read o.a (o.nw + 1)) ((s.basin b).cas.tainted o.a (o.nw + 1)))) ∧
  (∀ (s : State) (b : Nat) (o : CasOps),
    CasReady s b o →
    (o.d + (o.nw + 1) ≤ o.a ∨ o.a + (o.nw + 1) ≤ o.d) →
    (o.d + (o.nw + 1) ≤ 4096 ∧ o.a + (o.nw + 1) ≤ 4096 ∧ o.c + o.l / 128 < 4096) →
    ∃ t sw, exec (.cswap b o) s = .next t ∧ CasRuns s t b 0x0B o ∧ sw = ((s.basin b).cas.slot (o.c + o.l / 128)).data.getLsbD (o.l % 128) ∧
        (t.basin b).cas.read o.d (o.nw + 1) = (s.basin b).cas.read (if sw then o.a else o.d) (o.nw + 1) ∧
        (t.basin b).cas.read o.a (o.nw + 1) = (s.basin b).cas.read (if sw then o.d else o.a) (o.nw + 1) ∧
        (∀ i, (o.d ≤ i ∧ i < o.d + (o.nw + 1)) ∨ (o.a ≤ i ∧ i < o.a + (o.nw + 1)) → ((t.basin b).cas.slot i).u = true) ∧
        (∀ i, ¬(o.d ≤ i ∧ i < o.d + (o.nw + 1)) → ¬(o.a ≤ i ∧ i < o.a + (o.nw + 1)) → (t.basin b).cas.slot i = (s.basin b).cas.slot i)) ∧
  (∀ (s : State) (b : Nat) (o : CasOps),
    CasReady s b o →
    (o.d + (o.nw + 1) ≤ 4096 ∧ o.a + (o.nw + 1) ≤ 4096 ∧ o.b + (o.nw + 1) ≤ 4096 ∧ o.c + (o.nw + 1) ≤ 4096) →
    ∃ t, exec (.csel b o) s = .next t ∧ CasRuns s t b 0x0C o ∧ CasSlots s t b o.d
        (if (s.basin b).cas.read o.b (o.nw + 1) = (s.basin b).cas.read o.c (o.nw + 1) then (s.basin b).cas.read o.a (o.nw + 1) else (s.basin b).cas.read o.d (o.nw + 1))
        ((s.basin b).cas.tainted o.d (o.nw + 1) || (s.basin b).cas.tainted o.a (o.nw + 1) || (s.basin b).cas.tainted o.b (o.nw + 1) || (s.basin b).cas.tainted o.c (o.nw + 1))) ∧
  (∀ (s : State) (b : Nat) (o : CasOps) (r : Record) (v : Bytes),
    CasReady s b o →
    o.d + (o.nw + 1) ≤ 4096 →
    casRecord s b o = some r →
    r.comps.find? (fun p => p.1 == o.mode % 16) = some (o.mode % 16, v) →
    ∃ t, exec (.loadkey b o) s = .next t ∧ CasRuns s t b 0x10 o ∧ CasSlots s t b o.d (wordsOf (o.nw + 1) v)
        ((compTable r.alg v.length).any (fun c => c.1 == o.mode % 16 && c.2.2))) ∧
  (∀ (s u : State) (b : Nat) (o : CasOps) (bs : Bytes),
    CasReady s b o →
    o.d + (o.nw + 1) ≤ 4096 →
    s.draw b (16 * (o.nw + 1)) = some (bs, u) →
    ∃ t, exec (.rand b o) s = .next t ∧ CasRuns u t b 0x11 o ∧ CasSlots s t b o.d (wordsOf (o.nw + 1) bs) true) ∧
  (∀ (s : State) (b : Nat) (o : CasOps),
    CasReady s b o →
    1 ≤ o.l →
    o.a + o.l ≤ 4096 →
    ∃ t, exec (.wipe b o) s = .next t ∧ CasRuns s t b 0x12 o ∧ (∀ i, o.a ≤ i → i < o.a + o.l → (t.basin b).cas.slot i = {}) ∧
        (∀ i, i < o.a ∨ o.a + o.l ≤ i → (t.basin b).cas.slot i = (s.basin b).cas.slot i)) ∧
  (∀ (s : State) (b : Nat) (o : CasOps),
    CasReady s b o →
    4096 < o.a + (o.nw + 1) →
    ∃ t, exec (.move b o) s = .next t ∧ (t.basin b).cas.error = 2 ∧ (t.basin b).cas.cmdError = true ∧ (t.basin b).cas.slots = (s.basin b).cas.slots ∧
        (t.basin b).cas.running = none)

namespace Sys2Proof.Claims

/-- The conditions of R259 on a range of L slots from A. -/
def Releasable (s : State) (b : Nat) (o : CasOps) : Prop :=
  (s.basin b).cas.seqOpen = true ∧ (s.basin b).cas.seqA ≤ o.a ∧ o.a + o.l ≤ (s.basin b).cas.seqA + (s.basin b).cas.seqL ∧
    minChecks (s.basin b).cas.seqAlg ≤ (s.basin b).cas.passed ∧ (s.basin b).cas.failed = false

end Sys2Proof.Claims

/-- R259 to R262: on an idle Cascade that the entry owns, SEQ.OPEN with no sequence open declares ALG and output range and resets
the pass count and the failure latch, and with one open it ends in an error and changes no slot; SEQ.CLOSE ends the sequence,
wipes every slot with U set and invalidates every context; a CHECK that passes counts, one that fails latches the failure;
DECLASS clears T on its L slots, and no other bit of any slot, only under R259's conditions, and else ends in error TAINT with
every slot unchanged; KSTORE under the same conditions and for an ALG that produces key records copies its range into the new
record and alters no slot. -/
def Obligations.CascadeSequencesAndRelease : Prop :=
  (∀ (s : State) (b : Nat) (o : CasOps),
    CasReady s b o →
    o.mode ≤ 9 →
    o.a + o.l ≤ 4096 →
    ((s.basin b).cas.slots.map Prod.fst).Nodup →
    ((s.basin b).cas.seqOpen = false → ∃ t, exec (.seqOpen b o) s = .next t ∧ CasRuns s t b 0x30 o ∧ (t.basin b).cas.slots = (s.basin b).cas.slots ∧
            (t.basin b).cas.seqOpen = true ∧ (t.basin b).cas.seqAlg = o.mode ∧ (t.basin b).cas.seqA = o.a ∧ (t.basin b).cas.seqL = o.l ∧
            (t.basin b).cas.passed = 0 ∧ (t.basin b).cas.failed = false) ∧
          ((s.basin b).cas.seqOpen = true → ∃ t, exec (.seqOpen b o) s = .next t ∧ (t.basin b).cas.slots = (s.basin b).cas.slots ∧
            (t.basin b).cas.cmdError = true ∧ (t.basin b).cas.passed = (s.basin b).cas.passed ∧ (t.basin b).cas.running = none) ∧
          (∃ t, exec (.seqClose b o) s = .next t ∧ CasRuns s t b 0x31 o ∧ (t.basin b).cas.seqOpen = false ∧ (t.basin b).cas.ctxs = [] ∧
            (t.basin b).cas.owner = none ∧ ∀ i, (t.basin b).cas.slot i = if ((s.basin b).cas.slot i).u then {} else (s.basin b).cas.slot i)) ∧
  (∀ (s : State) (b : Nat) (o : CasOps),
    CasReady s b o →
    o.a + (o.nw + 1) ≤ 4096 →
    o.b + (o.nw + 1) ≤ 4096 →
    o.mode = 0 →
    ((s.basin b).cas.read o.a (o.nw + 1) = (s.basin b).cas.read o.b (o.nw + 1) → ∃ t, exec (.check b o) s = .next t ∧ CasRuns s t b 0x13 o ∧
            (t.basin b).cas.checkPass = true ∧ (t.basin b).cas.slots = (s.basin b).cas.slots ∧
            (t.basin b).cas.passed = (if (s.basin b).cas.seqOpen then min 255 ((s.basin b).cas.passed + 1) else (s.basin b).cas.passed)) ∧
          ((s.basin b).cas.read o.a (o.nw + 1) ≠ (s.basin b).cas.read o.b (o.nw + 1) → ∃ u : State, u = (s.mapCas b (fun y => { y with
              checkPass := false, failed := y.failed || y.seqOpen, invFail := true, event := y.event.set 0, queue := [] })) ∧
            exec (.check b o) s = .next (u.detected b 5 10 (some o.entry)))) ∧
  (∀ (s : State) (b : Nat) (o : CasOps),
    CasReady s b o →
    o.a + o.l ≤ 4096 →
    (Releasable s b o → ∃ t, exec (.declass b o) s = .next t ∧ CasRuns s t b 0x14 o ∧
            ∀ i, (t.basin b).cas.slot i = if o.a ≤ i ∧ i < o.a + o.l then { (s.basin b).cas.slot i with t := false } else (s.basin b).cas.slot i) ∧
          (¬ Releasable s b o → ∃ t, exec (.declass b o) s = .next t ∧ (t.basin b).cas.slots = (s.basin b).cas.slots ∧ (t.basin b).cas.error = 5 ∧
            (t.basin b).cas.cmdError = true ∧ (t.basin b).cas.running = none)) ∧
  (∀ (s : State) (b : Nat) (o : CasOps) (c : Cmd),
    CasReady s b o →
    o.a + o.l ≤ 4096 →
    Releasable s b o →
    storesKeys (s.basin b).cas.seqAlg = true →
    s.cmd o.entry = some c →
    ∃ t, exec (.kstore b o) s = .next t ∧ (t.basin b).cas.slots = (s.basin b).cas.slots ∧ (t.basin b).cas.running = some (0x15, o) ∧
        ∃ r, t.cmd o.entry = some { c with newRec := some r } ∧
          r.comps = ((c.newRec.getD {}).comps.filter (fun p => p.1 != o.mode)) ++ [(o.mode, (s.basin b).cas.bytes o.a o.l)])

/-- R258, R266 and R268: with nothing running, a window write stores its value in the addressed slot with T clear and U set and
leaves every other slot; a window read gives the slot's data, or zero with TAINT_DENY (bit 2) for a tainted one; while a command
runs or a wipe is under way a read gives zero and a write is discarded, with error BUSY; the end of a command sets CMD_DONE and
its cycles, and the Cascade runs no more when nothing is queued; the end of the sequencer's wipe leaves no slot with U set, no
context and no owner. -/
def Obligations.CascadeWindowsEndsAndWipes : Prop :=
  (∀ (s : State) (b : Nat) (v : BitVec 128),
    b < 8 →
    (s.basin b).cas.running = none →
    (s.basin b).cas.wiping = false →
    (∃ t, exec (.casWindowWrite b v) s = .next t ∧ t = { s with basins := t.basins } ∧
            (t.basin b).cas.slot (s.basin b).cas.winAddr = { data := v, t := false, u := true } ∧
            (∀ i, i ≠ (s.basin b).cas.winAddr → (t.basin b).cas.slot i = (s.basin b).cas.slot i)) ∧
          (((s.basin b).cas.slot (s.basin b).cas.winAddr).t = false →
            exec (.casWindowRead b) s = .next { s with out := s.out ++ [.casRead b ((s.basin b).cas.slot (s.basin b).cas.winAddr).data] }) ∧
          (((s.basin b).cas.slot (s.basin b).cas.winAddr).t = true → ∃ t, exec (.casWindowRead b) s = .next t ∧ t.out = s.out ++ [.casRead b 0] ∧
            (t.basin b).cas.event = (s.basin b).cas.event.set 2 ∧ (t.basin b).cas.slots = (s.basin b).cas.slots)) ∧
  (∀ (s : State) (b : Nat) (v : BitVec 128),
    b < 8 →
    ((s.basin b).cas.running ≠ none ∨ (s.basin b).cas.wiping = true) →
    (∃ t, exec (.casWindowRead b) s = .next t ∧ t.out = s.out ++ [.casRead b 0] ∧ (t.basin b).cas.error = 9 ∧ (t.basin b).cas.slots = (s.basin b).cas.slots) ∧
          (∃ t, exec (.casWindowWrite b v) s = .next t ∧ (t.basin b).cas.error = 9 ∧ (t.basin b).cas.slots = (s.basin b).cas.slots)) ∧
  (∀ (s : State) (b op : Nat) (o : CasOps),
    b < 8 →
    (s.basin b).cas.running = some (op, o) →
    (s.basin b).cas.queue = [] →
    ∃ t, exec (.cascadeCommandDone b) s = .next t ∧ (t.basin b).cas.running = none ∧ (t.basin b).cas.cmdDone = true ∧ (t.basin b).cas.error = 0 ∧
        (t.basin b).cas.cycles = (s.basin b).cas.cycles + (s.basin b).cas.runCycles ∧ (t.basin b).cas.slots = (s.basin b).cas.slots ∧
        (t.pair b).pend.getLsbD 3 = true ∧ t = { s with basins := t.basins, pairs := t.pairs }) ∧
  (∀ (s : State) (b : Nat),
    b < 8 →
    (s.basin b).cas.running = none →
    (s.basin b).cas.wiping = true →
    ((s.basin b).cas.slots.map Prod.fst).Nodup →
    ∃ t, exec (.cascadeWipeDone b) s = .next t ∧ t = { s with basins := t.basins } ∧ (t.basin b).cas.owner = none ∧ (t.basin b).cas.ctxs = [] ∧
        (t.basin b).cas.wiping = false ∧ (∀ i, (t.basin b).cas.slot i = if ((s.basin b).cas.slot i).u then {} else (s.basin b).cas.slot i))

/-- R249, R254 and R258: on an idle Cascade that the entry owns, with operands inside slot 0xFFF, PADD, PSUB and PMUL write the 64
slots of their result polynomial, coefficient by coefficient modulo q where the ring is so, NTT and INTT the transforms of FIPS
203 and 204 (uninterpreted, log entry 1), ROUND its mode's rounding, PACK and UNPACK move coefficients of d bits, NORM sets only
its result bit; SAMPLE claims a free hash jet and writes its sample, or zeroes with SHORT set where a kind ran short; a tainted
public seed ends in error TAINT. What is written is tainted exactly when a source is, and every other slot stays. -/
def Obligations.CascadeLatticeCommands : Prop :=
  (∀ (s : State) (b : Nat) (o : CasOps) (x : Cascade),
    CasReady s b o →
    x = (s.basin b).cas →
    (o.d + 64 ≤ 4096 ∧ o.a + 64 ≤ 4096 ∧ o.b + 64 ≤ 4096) →
    (∃ t, exec (.ntt b o) s = .next t ∧ CasRuns s t b 0x20 o ∧
            CasSlots s t b o.d (polyWords 64 (Config.ntt (bitNat (bitAt o.mode 0)) (x.poly o.a))) (x.tainted o.a 64)) ∧
          (∃ t, exec (.intt b o) s = .next t ∧ CasRuns s t b 0x21 o ∧
            CasSlots s t b o.d (polyWords 64 (Config.intt (bitNat (bitAt o.mode 0)) (x.poly o.a))) (x.tainted o.a 64)) ∧
          (∃ t p, exec (.pmul b o) s = .next t ∧ CasRuns s t b 0x22 o ∧ CasSlots s t b o.d (polyWords 64 p) (x.tainted o.a 64 || x.tainted o.b 64) ∧
            (bitAt o.mode 0 = true → p = List.zipWith (fun u v => u * v % 8380417) (x.poly o.a) (x.poly o.b)) ∧
            (bitAt o.mode 0 = false → p = Config.ringMul 0 (x.poly o.a) (x.poly o.b))) ∧
          (∃ t, exec (.padd b o) s = .next t ∧ CasRuns s t b 0x23 o ∧ CasSlots s t b o.d
            (polyWords 64 (List.zipWith (fun u v => (u + v) % (if bitAt o.mode 0 then 8380417 else 3329)) (x.poly o.a) (x.poly o.b))) (x.tainted o.a 64 || x.tainted o.b 64)) ∧
          (∃ t f, exec (.psub b o) s = .next t ∧ CasRuns s t b 0x24 o ∧
            CasSlots s t b o.d (polyWords 64 (List.zipWith f (x.poly o.a) (x.poly o.b))) (x.tainted o.a 64 || x.tainted o.b 64) ∧
            ∀ u v, f u v < (if bitAt o.mode 0 then 8380417 else 3329) ∧
              (f u v + v) % (if bitAt o.mode 0 then 8380417 else 3329) = u % (if bitAt o.mode 0 then 8380417 else 3329)) ∧
          (∃ t, exec (.norm b o) s = .next t ∧ CasRuns s t b 0x27 o ∧ (t.basin b).cas.slots = x.slots ∧
            (t.basin b).cas.normGe = (x.poly o.a).any (fun c => decide (o.l ≤ centred (casQ o) c)))) ∧
  (∀ (s : State) (b : Nat) (o : CasOps) (x : Cascade),
    CasReady s b o →
    x = (s.basin b).cas →
    (o.d + 64 ≤ 4096 ∧ o.a + 64 ≤ 4096 ∧ o.b + 64 ≤ 4096) →
    o.mode ≤ 5 →
    ∃ t, exec (.round b o) s = .next t ∧ CasRuns s t b 0x26 o ∧ CasSlots s t b o.d
          (polyWords 64 (if o.mode < 4 then (x.poly o.a).map (fun u => roundCoeff o.mode u 0) else List.zipWith (roundCoeff o.mode) (x.poly o.a) (x.poly o.b)))
          (x.tainted o.a 64 || (decide (4 ≤ o.mode) && x.tainted o.b 64))) ∧
  (∀ (s : State) (b d : Nat) (o : CasOps) (x : Cascade),
    CasReady s b o →
    x = (s.basin b).cas →
    d = o.mode % 128 →
    (1 ≤ d ∧ d ≤ 32) →
    (o.d + 2 * d ≤ 4096 → o.a + 64 ≤ 4096 → ∃ t, exec (.pack b o) s = .next t ∧ CasRuns s t b 0x28 o ∧ CasSlots s t b o.d
            (toWords (2 * d) (packBits d ((x.poly o.a).map (fun c => if bitAt o.mode 7 then compressQ d c else c)))) (x.tainted o.a 64)) ∧
          (o.d + 64 ≤ 4096 → o.a + 2 * d ≤ 4096 → ∃ t, exec (.unpack b o) s = .next t ∧ CasRuns s t b 0x29 o ∧ CasSlots s t b o.d
            (polyWords 64 ((unpackBits d 256 (x.num o.a (2 * d))).map (fun c => if bitAt o.mode 7 then decompressQ d c else c))) (x.tainted o.a (2 * d)))) ∧
  (∀ (s : State) (b ln : Nat) (o : CasOps) (x : Cascade),
    CasReady s b o →
    x = (s.basin b).cas →
    (o.d + 64 ≤ 4096 ∧ o.a + ceilDiv o.l 16 ≤ 4096) →
    o.mode ≤ 5 →
    (x.tainted o.a (ceilDiv o.l 16) = true → o.mode = 0 ∨ o.mode = 1 ∨ o.mode = 5 → ∃ t, exec (.sample b o) s = .next t ∧
            (t.basin b).cas.slots = x.slots ∧ (t.basin b).cas.error = 5 ∧ (t.basin b).cas.running = none) ∧
          (x.tainted o.a (ceilDiv o.l 16) = false ∨ (2 ≤ o.mode ∧ o.mode ≤ 4) → (freeLanes (s.basin b) true).head? = some ln → ∃ t, exec (.sample b o) s = .next t ∧
            CasSlots s t b o.d (polyWords 64 (((Config.sample o.mode ((x.bytes o.a (ceilDiv o.l 16)).take o.l)).1).getD [])) (x.tainted o.a (ceilDiv o.l 16)) ∧
            (tabGet (t.basin b).lanes ln {}).busy = true ∧ (tabGet (t.basin b).lanes ln {}).cascade = true ∧ (t.basin b).cas.running = some (0x25, o)))

namespace Sys2Proof.Claims

/-- Entry e of a basin command ended with an answer: its status, RESULT, output and effect are the answer's, a new record with the components
that its Cascade sequences stored (R260), and it is done;
every other entry, queue, key record and unit is as it was (only its basin's lanes and Cascade are freed, and the random
pools and the model's counter of open values may have moved). -/
def Answered (s t : State) (e : Nat) (c : Cmd) (a : Answer) : Prop :=
  t.cmd e = some { c with
    status := some a.status, result := a.result, output := a.output, extraOut := a.extra, effect := a.effect, newRec := stored c.newRec a.newRec,
    phase := .done, onJets := false } ∧
  (∀ k, k ≠ e → t.cmd k = s.cmd k) ∧ t.slu = { s.slu with retire := t.slu.retire } ∧
  t = { s with slu := t.slu, basins := t.basins, spg := t.spg, freeCtr := t.freeCtr }

/-- No random byte and no open value was drawn. -/
def DrewNothing (s t : State) : Prop := t.spg = s.spg ∧ t.freeCtr = s.freeCtr

/-- n bytes left the pool of the DRBG of basin b, the oldest first; every other DRBG is as it was. -/
def DrewFromPool (s t : State) (b n : Nat) : Prop :=
  (t.drbg b).pool = (s.drbg b).pool.drop n ∧ (∀ k, k ≠ b → t.drbg k = s.drbg k) ∧ t.spg = { s.spg with drbgs := t.spg.drbgs } ∧ t.freeCtr = s.freeCtr

end Sys2Proof.Claims

/-- R327 to R329: the PIN field built for a PIN of 4 to 12 digits in a format 0, 1, 3 or 4, with its fill, passes the format's own
check and gives that PIN back. R334: PIN.TRANSLATE of a block that fails R328 completes DONE/FALSE with OUTCOME 2 and no output,
else DONE/OK with OUTCOME 0 and the block built from the same PIN, its fill drawn from the pool of the basin. R335: PIN.VERIFY
answers OUTCOME 2, 0 or 1 with DONE/FALSE, DONE/OK or DONE/FALSE. What the ciphers compute is uninterpreted (log entry 1).
Nothing else changes. -/
def Obligations.PinBlocksAreTranslatedAndVerified : Prop :=
  (∀ (f : Nat) (pin : List Nat) (rnd : Bytes),
    (f = 0 ∨ f = 1 ∨ f = 3 ∨ f = 4) →
    4 ≤ pin.length →
    pin.length ≤ 12 →
    (∀ x ∈ pin, x ≤ 9) →
    rnd.length = 8 →
    pinOf f (buildField f pin rnd) = some pin) ∧
  (∀ (s : State) (e b i o : Nat) (c : Cmd) (x : Option (List Nat)),
    s.ready e (· == 0x0101) = some c →
    c.basin = some b →
    i = param c.desc 0 1 →
    o = param c.desc 1 1 →
    x = pinOf i (pinField i (pinInKey c.desc (recOf s c (key1Of c.desc))).1 (pinInKey c.desc (recOf s c (key1Of c.desc))).2 (paramBytes c.desc 0x14 11) (paramBytes c.desc 0x28 16)) →
    (o = 0 ∨ 8 ≤ (s.drbg b).pool.length ∨ x = none) →
    ∃ t, exec (.pinTranslate e) s = .next t ∧ DrewFromPool s t b (if o = 0 ∨ x = none then 0 else 8) ∧ Answered s t e c
        (match x with
         | none => { status := 1, result := [2] }
         | some pin => { status := 0, result := [0], output := sealField o (recOf s c (key2Of c.desc)).alg (recOf s c (key2Of c.desc)).key (paramBytes c.desc 0x14 11) (buildField o pin ((s.drbg b).pool.take (if o = 0 then 0 else 8))) })) ∧
  (∀ (s : State) (e b i : Nat) (c : Cmd),
    s.ready e (· == 0x0102) = some c →
    c.basin = some b →
    i = param c.desc 0 1 →
    ∃ t, exec (.pinVerify e) s = .next t ∧ DrewNothing s t ∧ Answered s t e c
        (match pinOf i (pinField i (pinInKey c.desc (recOf s c (key1Of c.desc))).1 (pinInKey c.desc (recOf s c (key1Of c.desc))).2 (paramBytes c.desc 0x14 11) (paramBytes c.desc 0x28 16)) with
         | none => { status := 1, result := [2] }
         | some pin => if pinMatches c.desc (recOf s c (key2Of c.desc)) pin then { status := 0, result := [0] } else { status := 1, result := [1] }))

namespace Sys2Proof.Claims

/-- The scan of R335 and R342, one nibble at a time: the nibbles 0 to 9 are kept in order, then come the others, each less 10. -/
def scanNibbles : List Nat → List Nat → List Nat → List Nat
  | [], dec, hex => dec ++ hex
  | n :: ns, dec, hex => if n < 10 then scanNibbles ns (dec ++ [n]) hex else scanNibbles ns dec (hex ++ [n - 10])

/-- R337: the leftmost MAC_LEN bytes of CMAC (ALGORITHM 0), of MAC algorithm 1, or of MAC algorithm 3, the last two over the padded
message, under a key of an algorithm. -/
def MacBytes (d : Bytes) (alg : Nat) (key msg : Bytes) : Bytes :=
  (if param d 0 1 = 0 then (if isTdes alg then tdesCmac key msg else aesCmac key msg)
   else if param d 0 1 = 1 then macAlg1 alg key (pad9797 (param d 1 1) (blockLen alg) msg)
   else macAlg3 key (pad9797 (param d 1 1) 8 msg)).take (param d 2 1)

/-- The 32 digits of R342: the PAN digits, EXPIRY and the three digits of SERVICE, filled with zero digits. -/
def cardDigits (d : Bytes) : List Nat :=
  ((nibbles (slice (paramBytes d 0x14 11) 1 10)).take (field (paramBytes d 0x14 11) 0 1) ++ nibbles (paramBytes d 4 2)
    ++ (nibbles (paramBytes d 6 2)).take 3 ++ List.replicate 32 0).take 32

/-- The code of R342 under a key: B1 under single DES and its first half, exclusive-ored with B2, under two-key TDES; the first DIGITS
digits of the scan. -/
def cardCode (d key : Bytes) : List Nat :=
  (scanNibbles (nibbles (Config.tdesEnc key (xorBytes (Config.desEnc (key.take 8) ((packNibbles (cardDigits d)).take 8))
    ((packNibbles (cardDigits d)).drop 8)))) [] []).take (param d 0 1)

end Sys2Proof.Claims

/-- R337: MAC.GENERATE gives the leftmost MAC_LEN bytes of the algorithm's final value, in RESULT, or in the output buffer above 12;
MAC.VERIFY completes DONE/OK exactly on a match with MAC and returns nothing; so a MAC that one command generated is accepted by
the other under the same key material, fields and message, and no other MAC field is. R339, R340: ARQC.VERIFY returns the ARPC
of its method in 8 bytes (method 2 gives 4 and 4 zero bytes, method 0 zeros) only when the cryptogram matches, else DONE/FALSE
with RESULT zero. R335, R342: the scan takes the nibbles 0 to 9 in order, then the others less 10, and turns each nibble into
one decimal digit. CVV.COMPUTE returns the first DIGITS digits as a three-byte digit string filled with 0xF (R341), and
CVV.VERIFY accepts exactly that string as CODE. Every one of these commands completes, from every state where its entry is ready
on a basin. What the block ciphers compute is uninterpreted (log entry 1). Nothing else changes. -/
def Obligations.MacsCryptogramsAndCardCodes : Prop :=
  (∀ (bs : Bytes),
    scanDigits bs = scanNibbles (nibbles bs) [] [] ∧ (scanDigits bs).length = 2 * bs.length ∧ ∀ y ∈ scanDigits bs, y ≤ 9) ∧
  (∀ (ds : List Nat),
    ds.length ≤ 6 →
    (∀ x ∈ ds, x ≤ 9) →
    (codeString ds).length = 3 ∧ nibbles (codeString ds) = ds ++ List.replicate (6 - ds.length) 15) ∧
  (∀ (key msg : Bytes),
    (aesCmac key msg).length = 16 ∧ (tdesCmac key msg).length = 8) ∧
  (∀ (s : State) (e b : Nat) (c : Cmd) (m : Bytes),
    s.ready e (· == 0x0110) = some c →
    c.basin = some b →
    m = MacBytes c.desc (macKey c.desc (recOf s c (key1Of c.desc))).1 (macKey c.desc (recOf s c (key1Of c.desc))).2 c.input →
    m.length ≤ param c.desc 2 1 ∧
        (param c.desc 0 1 = 0 → m.length = min (param c.desc 2 1) (blockLen (macKey c.desc (recOf s c (key1Of c.desc))).1)) ∧
        ∃ t, exec (.macGenerate e) s = .next t ∧ DrewNothing s t ∧ Answered s t e c (if param c.desc 2 1 ≤ 12 then { result := m } else { output := m })) ∧
  (∀ (s : State) (e b : Nat) (c : Cmd),
    s.ready e (· == 0x0111) = some c →
    c.basin = some b →
    ∃ t, exec (.macVerify e) s = .next t ∧ DrewNothing s t ∧ Answered s t e c
        { status := if MacBytes c.desc (macKey c.desc (recOf s c (key1Of c.desc))).1 (macKey c.desc (recOf s c (key1Of c.desc))).2 c.input = paramBytes c.desc 0x30 (param c.desc 2 1) then 0 else 1 }) ∧
  (∀ (s v : State) (e k b a : Nat) (c g : Cmd),
    s.ready e (· == 0x0110) = some c →
    v.ready k (· == 0x0111) = some g →
    c.basin = some b →
    g.basin = some a →
    macKey g.desc (recOf v g (key1Of g.desc)) = macKey c.desc (recOf s c (key1Of c.desc)) →
    param g.desc 0 1 = param c.desc 0 1 →
    param g.desc 1 1 = param c.desc 1 1 →
    param g.desc 2 1 = param c.desc 2 1 →
    g.input = c.input →
    ∃ t u x, exec (.macGenerate e) s = .next t ∧ exec (.macVerify k) v = .next u ∧ (t.cmd e).map (fun y => y.result ++ y.output) = some x ∧
        (u.cmd k).bind (·.status) = some (if paramBytes g.desc 0x30 (param c.desc 2 1) = x then 0 else 1)) ∧
  (∀ (s : State) (e b : Nat) (c : Cmd) (r : Record) (m sk : Bytes),
    s.ready e (· == 0x0120) = some c →
    c.basin = some b →
    r = recOf s c (key1Of c.desc) →
    sk = arqcSession c.desc r →
    m = (if isTdes r.alg then macAlg3 sk (pad9797 (param c.desc 1 1) 8 c.input) else aesCmac sk c.input).take 8 →
    ∃ t x, exec (.arqcVerify e) s = .next t ∧ DrewNothing s t ∧
        x = padTo 8 (if param c.desc 0 1 = 1 then Config.tdesEnc sk (xorBytes (paramBytes c.desc 8 8) (paramBytes c.desc 0x10 2 ++ List.replicate 6 0))
          else if param c.desc 0 1 = 2 then
            (if isTdes r.alg then macAlg3 sk (pad9797 2 8 (paramBytes c.desc 8 8 ++ paramBytes c.desc 0x20 4 ++ paramBytes c.desc 0x28 (param c.desc 0x24 1)))
              else aesCmac sk (paramBytes c.desc 8 8 ++ paramBytes c.desc 0x20 4 ++ paramBytes c.desc 0x28 (param c.desc 0x24 1))).take 4
          else []) ∧
        x.length = 8 ∧ (param c.desc 0 1 = 2 → x.drop 4 = List.replicate 4 0) ∧ (param c.desc 0 1 = 0 → x = List.replicate 8 0) ∧
        Answered s t e c (if m = paramBytes c.desc 8 8 then { result := x } else { status := 1 })) ∧
  (∀ (s : State) (e b : Nat) (c : Cmd),
    s.ready e (· == 0x0130) = some c →
    c.basin = some b →
    ∃ t, exec (.cvvCompute e) s = .next t ∧ DrewNothing s t ∧ Answered s t e c { result := codeString (cardCode c.desc (recOf s c (key1Of c.desc)).key) }) ∧
  (∀ (s : State) (e b : Nat) (c : Cmd),
    s.ready e (· == 0x0131) = some c →
    c.basin = some b →
    ∃ t, exec (.cvvVerify e) s = .next t ∧ DrewNothing s t ∧
        Answered s t e c { status := if codeString (cardCode c.desc (recOf s c (key1Of c.desc)).key) = paramBytes c.desc 0x20 3 then 0 else 1 }) ∧
  (∀ (s v : State) (e k b a : Nat) (c g : Cmd),
    s.ready e (· == 0x0130) = some c →
    v.ready k (· == 0x0131) = some g →
    c.basin = some b →
    g.basin = some a →
    (recOf v g (key1Of g.desc)).key = (recOf s c (key1Of c.desc)).key →
    cardDigits g.desc = cardDigits c.desc →
    param g.desc 0 1 = param c.desc 0 1 →
    ∃ t u x, exec (.cvvCompute e) s = .next t ∧ exec (.cvvVerify k) v = .next u ∧ (t.cmd e).map (·.result) = some x ∧
        (u.cmd k).bind (·.status) = some (if paramBytes g.desc 0x20 3 = x then 0 else 1))

/-- R227 to R230, R355, R240: a GCM seal and a CCM seal write the ciphertext of those rules' counter blocks, their tag of TAG_LEN
bytes goes to TAG_ADDR and their drawn nonce is the RESULT; an XTS seal has no tag and a RESULT of zero, and is as long as its
payload where no data unit is shorter than 16 bytes. R356: an open writes the plaintext exactly when the tag verifies, else
DONE/FALSE with nothing written. R360: a token command with a numeral not below RADIX is DONE/FALSE with the first failing
record's index and no output, else it writes OUT_LEN bytes. AES and FF1 are uninterpreted (log entry 1). Nothing else changes. -/
def Obligations.SealsOpensAndTokens : Prop :=
  (∀ (s : State) (e b : Nat) (c : Cmd) (k n aad pt : Bytes),
    s.ready e (· == 0x0201) = some c →
    c.basin = some b →
    k = (recOf s c (key1Of c.desc)).key →
    n = c.nonce.getD [] →
    aad = c.input.take (param c.desc 2 2) →
    pt = c.input.drop (param c.desc 2 2) →
    ∃ t, exec (.aeadSeal e) s = .next t ∧ DrewNothing s t ∧
        (param c.desc 0 1 = 0 → Answered s t e c { result := n, output := padTo pt.length (gcmSeal k n aad pt).1, extra := [(param c.desc 8 8, padTo (param c.desc 1 1) (gcmSeal k n aad pt).2)] }) ∧
        (param c.desc 0 1 ≠ 0 → param c.desc 0 1 ≠ 2 → Answered s t e c { result := n, output := padTo pt.length (ccmSeal k n aad pt (param c.desc 1 1)).1, extra := [(param c.desc 8 8, padTo (param c.desc 1 1) (ccmSeal k n aad pt (param c.desc 1 1)).2)] }) ∧
        (param c.desc 0 1 = 2 → Answered s t e c { output := xtsAll s c pt true } ∧
          ((∀ u ∈ blocksOf (max 16 (param c.desc 4 4)) pt, 16 ≤ u.length) → (xtsAll s c pt true).length = pt.length))) ∧
  (∀ (s : State) (e b : Nat) (c : Cmd) (k n aad ct tag : Bytes),
    s.ready e (· == 0x0202) = some c →
    c.basin = some b →
    k = (recOf s c (key1Of c.desc)).key →
    n = paramBytes c.desc 0x10 12 →
    aad = c.input.take (param c.desc 2 2) →
    ct = c.input.drop (param c.desc 2 2) →
    tag = paramBytes c.desc 0x30 (param c.desc 1 1) →
    param c.desc 0 1 ≠ 2 →
    ∃ t, exec (.aeadOpen e) s = .next t ∧ DrewNothing s t ∧ Answered s t e c
        (match (if param c.desc 0 1 = 0 then gcmOpen k n aad ct tag else ccmOpen k n aad ct tag) with
         | some pt => { output := padTo ct.length pt }
         | none => { status := 1 })) ∧
  (∀ (s : State) (e b : Nat) (c : Cmd),
    s.ready e (· == 0x0202) = some c →
    c.basin = some b →
    param c.desc 0 1 = 2 →
    ∃ t, exec (.aeadOpen e) s = .next t ∧ DrewNothing s t ∧ Answered s t e c { output := xtsAll s c (c.input.drop (param c.desc 2 2)) false }) ∧
  (∀ (s : State) (e b radix : Nat) (c : Cmd) (rs : List (Bytes × List Nat)),
    s.ready e (· == 0x0210) = some c →
    c.basin = some b →
    radix = param c.desc 0 4 →
    rs = tokenRecords (param c.desc 7 1) (param c.desc 4 2) (param c.desc 6 1) (param c.desc 8 2) c.input →
    ((∀ r ∈ rs, ∀ x ∈ r.2, x < radix) → ∃ t o, exec (.tokenEncode e) s = .next t ∧ DrewNothing s t ∧
            o = padTo (outLenOf c.desc) ((rs.map (fun r => ((Config.ff1 (recOf s c (key1Of c.desc)).key r.1 radix r.2 true).map (natLe (param c.desc 6 1))).flatten)).flatten) ∧
            Answered s t e c { output := o }) ∧
          (∀ i, i < rs.length → (∀ j, j < i → ∀ x ∈ (rs.getD j ([], [])).2, x < radix) → (∃ x ∈ (rs.getD i ([], [])).2, radix ≤ x) →
            ∃ t, exec (.tokenEncode e) s = .next t ∧ DrewNothing s t ∧ Answered s t e c { status := 1, result := natLe 2 i })) ∧
  (∀ (s : State) (e b radix : Nat) (c : Cmd) (rs : List (Bytes × List Nat)),
    s.ready e (· == 0x0211) = some c →
    c.basin = some b →
    radix = param c.desc 0 4 →
    rs = tokenRecords (param c.desc 7 1) (param c.desc 4 2) (param c.desc 6 1) (param c.desc 8 2) c.input →
    ((∀ r ∈ rs, ∀ x ∈ r.2, x < radix) → ∃ t o, exec (.tokenDecode e) s = .next t ∧ DrewNothing s t ∧
            o = padTo (outLenOf c.desc) ((rs.map (fun r => ((Config.ff1 (recOf s c (key1Of c.desc)).key r.1 radix r.2 false).map (natLe (param c.desc 6 1))).flatten)).flatten) ∧
            Answered s t e c { output := o }) ∧
          (∀ i, i < rs.length → (∀ j, j < i → ∀ x ∈ (rs.getD j ([], [])).2, x < radix) → (∃ x ∈ (rs.getD i ([], [])).2, radix ≤ x) →
            ∃ t, exec (.tokenDecode e) s = .next t ∧ DrewNothing s t ∧ Answered s t e c { status := 1, result := natLe 2 i }))

namespace Sys2Proof.Claims

/-- A command c ended in its execution with a status and no output (R149): where its verdict is recorded it retires with that status, an open
verdict is awaited. -/
def EndsWith (c d : Cmd) (st : Nat) : Prop :=
  d.output = [] ∧ if c.verdict = .open then d.verdict = .open ∧ d.status = some st ∧ d.phase = .done else d.verdict = .deny st ∧ d.phase = .squashed

end Sys2Proof.Claims

/-- R362, R363: DIGEST writes OUT_LEN bytes and HMAC at most MAC_LEN, with no RESULT. R364: RANDOM without FRESH takes OUT_LEN bytes
of its basin's pool; with FRESH the basin's DRBG reseeds with the oldest seed of sources that pass, which leaves the buffer, and
gives OUT_LEN bytes. R366, R473: under the fatal alarm a FRESH request, or one the pool cannot serve whole, ends ENTROPY/FAILED
and nothing is drawn (R149: a command whose verdict is still open awaits it, since a denial comes first); without a seed it
waits. R365, R472: a held command whose deadline instant passes ends ENTROPY/NOT_SEEDED, and not before. -/
def Obligations.DigestsMacsAndRandomBytes : Prop :=
  (∀ (s : State) (e b : Nat) (c : Cmd),
    s.ready e (· == 0x0220) = some c →
    c.basin = some b →
    ∃ t o, exec (.digest e) s = .next t ∧ DrewNothing s t ∧ o.length = outLenOf c.desc ∧
        o = padTo (outLenOf c.desc) (Config.hash (param c.desc 0 1) (outLenOf c.desc) c.input) ∧ Answered s t e c { output := o }) ∧
  (∀ (s : State) (e b : Nat) (c : Cmd),
    s.ready e (· == 0x0221) = some c →
    c.basin = some b →
    ∃ t o, exec (.hmac e) s = .next t ∧ DrewNothing s t ∧ o.length ≤ param c.desc 1 1 ∧
        o = (Config.hmac (param c.desc 0 1) (recOf s c (key1Of c.desc)).key c.input).take (param c.desc 1 1) ∧ Answered s t e c { output := o }) ∧
  (∀ (s : State) (e b n : Nat) (c : Cmd),
    s.ready e (· == 0x0230) = some c →
    c.basin = some b →
    n = outLenOf c.desc →
    1 ≤ n →
    param c.desc 0 1 = 0 →
    (n ≤ (s.drbg b).pool.length → ∃ t, exec (.random e) s = .next t ∧ DrewFromPool s t b n ∧ Answered s t e c { output := (s.drbg b).pool.take n }) ∧
        ((s.drbg b).pool.length < n → s.spg.fatal = true → ∃ t d, exec (.random e) s = .next t ∧ t.cmd e = some d ∧ EndsWith c d 0x0502 ∧ t.spg = s.spg) ∧
        ((s.drbg b).pool.length < n → s.spg.fatal = false → (s.drbg b).inst = false → exec (.random e) s = .next s)) ∧
  (∀ (s : State) (e b n : Nat) (c : Cmd),
    s.ready e (· == 0x0230) = some c →
    c.basin = some b →
    n = outLenOf c.desc →
    1 ≤ n →
    param c.desc 0 1 = 1 →
    (∀ x rest, s.spg.buffer = x :: rest → seedFresh s x = true → (s.drbg b).inst = true → s.spg.fatal = false →
          ∃ t o, exec (.random e) s = .next t ∧ o.length = n ∧ Answered s t e c { output := o } ∧ t.spg.buffer = rest ∧ (t.drbg b).lastReseed = s.tbs.now ∧
            (t.drbg b).pool = (s.drbg b).pool ∧ (∀ k, k ≠ b → t.drbg k = s.drbg k)) ∧
        (s.spg.fatal = true → ∃ t d, exec (.random e) s = .next t ∧ t.cmd e = some d ∧ EndsWith c d 0x0502 ∧ t.spg = s.spg) ∧
        (s.spg.fatal = false → s.spg.buffer = [] → exec (.random e) s = .next s)) ∧
  (∀ (s : State) (e : Nat) (c : Cmd),
    s.cmd e = some c →
    heldForSeed s c = true →
    (c.deadlineAt ≠ 0 → c.deadlineAt ≤ s.tbs.now → ∃ t d, exec (.randomNotSeededDeadline e) s = .next t ∧ t.cmd e = some d ∧ EndsWith c d 0x0501 ∧
            d.basin = c.basin ∧ t.cis.records = s.cis.records) ∧
        (c.deadlineAt = 0 ∨ s.tbs.now < c.deadlineAt → exec (.randomNotSeededDeadline e) s = .next s))

namespace Sys2Proof.Claims

/-- The record a creating command makes carries its attribute block, the handle fixed at admission and its function. -/
def FromAttributes (s : State) (c : Cmd) (r : Record) : Prop :=
  r.handle = c.reserved.getD 0 ∧ r.cls = param c.desc 0 1 ∧ r.alg = param c.desc 1 1 ∧ r.session = (param c.desc 2 1 == 1) ∧ r.state = param c.desc 3 1 ∧
  r.nonceField = BitVec.ofNat 32 (param c.desc 4 4) ∧ r.label = paramBytes c.desc 0x10 16 ∧ r.part = (s.partOf c.fn).getD 0 ∧ r.fn = c.fn

/-- The command ended with a new record, written at its retirement: RESULT is the handle and the KCV. -/
def Creates (s t : State) (e : Nat) (c : Cmd) (r : Record) (output : Bytes) : Prop :=
  FromAttributes s c r ∧ Answered s t e c
    { result := natLe 8 r.handle.toNat ++ padTo 3 r.kcv, output := output, effect := .create (keySlot s r.handle), newRec := some r } ∧
  t.cis = s.cis

/-- The basin's DRBG took a fresh request (R472): the oldest seed, of sources that pass, left the buffer. -/
def DrewFresh (s t : State) (b : Nat) : Prop :=
  ∃ x rest, s.spg.buffer = x :: rest ∧ t.spg.buffer = rest ∧ (t.drbg b).lastReseed = s.tbs.now ∧ (t.drbg b).pool = (s.drbg b).pool ∧
    ∀ k, k ≠ b → t.drbg k = s.drbg k

/-- A seed of passing sources waits for the instantiated DRBG of basin b, and no fatal alarm holds. -/
def SeedWaits (s : State) (b : Nat) : Prop :=
  ∃ x rest, s.spg.buffer = x :: rest ∧ seedFresh s x = true ∧ (s.drbg b).inst = true ∧ s.spg.fatal = false

end Sys2Proof.Claims

/-- R379: SIGN writes OUT_LEN bytes; Ed25519 and SCHEME 1 of ML-DSA-65 draw nothing. R378: ECDSA with SCHEME 0 signs and verifies
the message's SHA-256 or SHA-384. R380: VERIFY is DONE/OK only for a signature that its scheme accepts and whose numbers are in
range: ECDSA's r and s from 1 to n − 1, Ed25519's R canonical and S below L, RSA's below the key's n; PAIRED.VERIFY returns one
bit for each half and is DONE/OK only for 3. R374, R375: a paired signature has 3,373 bytes and is valid only if both halves
are. R387, R388: ATTEST writes the 464-byte report, which holds the nonce and the user data as given, and its paired signature
of 3,373 bytes: 3,837 in all, or 14,807 with CHAIN, as RESULT says. What the algorithms compute is uninterpreted (log entry 1),
and the lengths of the draws are the model's (log entry 25). Nothing else changes. -/
def Obligations.SignaturesVerificationsAndReports : Prop :=
  (∀ (s : State) (e b n : Nat) (c : Cmd) (r : Record),
    s.ready e (· == 0x0301) = some c →
    c.basin = some b →
    r = recOf s c (key1Of c.desc) →
    n = signDraw s c →
    n ≤ (s.drbg b).pool.length →
    (r.alg = 0x22 ∨ (r.alg = 0x30 ∧ param c.desc 0 1 = 1) → n = 0) ∧ ∃ t o, exec (.sign e) s = .next t ∧ DrewFromPool s t b n ∧
        o.length = outLenOf c.desc ∧ Answered s t e c { output := o } ∧
        (r.alg = 0x38 → o = padTo (outLenOf c.desc) (pairedSign r.comps (paramBytes c.desc 8 (param c.desc 2 1)) c.input ((s.drbg b).pool.take n))) ∧
        (r.alg = 0x20 ∨ r.alg = 0x21 → o = padTo (outLenOf c.desc) (Config.sign r.alg r.comps 1 (paramBytes c.desc 8 (param c.desc 2 1))
          (if param c.desc 0 1 = 0 then (if r.alg = 0x20 then padTo 32 (Config.sha256 c.input) else padTo 48 (Config.sha384 c.input)) else c.input)
          ((s.drbg b).pool.take n))) ∧
        (r.alg ≠ 0x20 → r.alg ≠ 0x21 → r.alg ≠ 0x38 → o = padTo (outLenOf c.desc) (Config.sign r.alg r.comps (param c.desc 0 1 + 256 * param c.desc 1 1)
          (paramBytes c.desc 8 (param c.desc 2 1)) c.input ((s.drbg b).pool.take n)))) ∧
  (∀ (s : State) (e b n : Nat) (c : Cmd) (r : Record) (m sig : Bytes),
    s.ready e (· == 0x0302) = some c →
    c.basin = some b →
    r = recOf s c (key1Of c.desc) →
    n = param c.desc 4 4 →
    (m = (if (r.alg = 0x20 ∨ r.alg = 0x21) ∧ param c.desc 0 1 = 0 then (if r.alg = 0x20 then padTo 32 (Config.sha256 (c.input.take n)) else padTo 48 (Config.sha384 (c.input.take n))) else c.input.take n)) →
    sig = c.input.drop n →
    ∃ t ok, exec (.verify e) s = .next t ∧ DrewNothing s t ∧ Answered s t e c { status := if ok = true then 0 else 1 } ∧
        (ok = true → Config.verify r.alg (publicComps r.alg r.comps) (if r.alg = 0x20 ∨ r.alg = 0x21 then 1 else param c.desc 0 1 + 256 * param c.desc 1 1)
          (paramBytes c.desc 8 (param c.desc 2 1)) m sig = true) ∧
        (r.alg = 0x20 → ok = true → (1 ≤ beNat (sig.take 32) ∧ beNat (sig.take 32) < curveN 0x20) ∧ 1 ≤ beNat (slice sig 32 32) ∧ beNat (slice sig 32 32) < curveN 0x20) ∧
        (r.alg = 0x21 → ok = true → (1 ≤ beNat (sig.take 48) ∧ beNat (sig.take 48) < curveN 0x21) ∧ 1 ≤ beNat (slice sig 48 48) ∧ beNat (slice sig 48 48) < curveN 0x21) ∧
        (r.alg = 0x22 → ok = true → edCanonical (sig.take 32) = true ∧ leNat (slice sig 32 32) < edL) ∧
        (r.alg = 0x23 ∨ r.alg = 0x24 ∨ r.alg = 0x25 → ok = true → ∃ x ∈ publicComps r.alg r.comps, x.1 = 5 ∧ beNat sig < beNat x.2) ∧
        (r.alg = 0x30 → ok = Config.verify 0x30 (publicComps 0x30 r.comps) (param c.desc 0 1 + 256 * param c.desc 1 1) (paramBytes c.desc 8 (param c.desc 2 1)) m sig)) ∧
  (∀ (s : State) (e b n v : Nat) (c : Cmd) (pub : Bytes),
    s.ready e (· == 0x0303) = some c →
    c.basin = some b →
    pub = publicEncoding 0x38 (recOf s c (key1Of c.desc)).comps →
    n = param c.desc 4 4 →
    v = (if edValid pub (c.input.take n) (c.input.drop n) then 1 else 0) + (if mlValid pub (paramBytes c.desc 8 (param c.desc 2 1)) (c.input.take n) (c.input.drop n) then 2 else 0) →
    ∃ t, exec (.pairedVerify e) s = .next t ∧ DrewNothing s t ∧ Answered s t e c { status := if v = 3 then 0 else 1, result := natLe 1 v } ∧
        (v = 3 ↔ pairedValid pub (paramBytes c.desc 8 (param c.desc 2 1)) (c.input.take n) (c.input.drop n) = true)) ∧
  (∀ (comps : List (Nat × Bytes)) (ctx msg rnd : Bytes),
    (pairedSign comps ctx msg rnd).length = 3373) ∧
  (∀ (s : State) (e b : Nat) (c : Cmd),
    s.ready e (· == 0x0340) = some c →
    c.basin = some b →
    c.desc.length = 128 →
    32 ≤ (s.drbg b).pool.length →
    ∃ t rep o, exec (.attest e) s = .next t ∧ DrewFromPool s t b 32 ∧ rep.length = 464 ∧ (rep.drop 32).take 32 = paramBytes c.desc 8 32 ∧
        (rep.drop 64).take 24 = paramBytes c.desc 0x28 24 ∧ o.take 464 = rep ∧
        (o.drop 464).take 3373 = pairedSign (pairedComps s.fnt.dak) (ascii "OX-ATTEST") rep ((s.drbg b).pool.take 32) ∧
        o.length = (if param c.desc 0 1 % 2 = 1 then 14807 else 3837) ∧ Answered s t e c { result := natLe 4 o.length, output := o })

/-- R381: the new key is the leftmost key-length bytes of SHA-384 over 0x0000_0001, the shared secret, ALG and FIXED_INFO, in a
record that carries the attribute block at the handle fixed at admission; RESULT is the handle and the KCV, and nothing is in
the key region before retirement. R382: a peer point that is not on the curve with coordinates below p, or whose secret is the
identity, is DONE/FALSE and creates nothing; a point with a wrong length, first byte or coordinate is none. R383: ENCAPS draws
32 bytes and writes the 1,088-byte ciphertext; DECAPS always creates a key. R384: a key pair's KCV is zero and its public key is
written when OUT_LEN is not 0; a session pair draws from the pool, a persistent one a fresh seed. The arithmetic is
uninterpreted (log entry 1). -/
def Obligations.AgreementsAndKeyPairsCreateRecords : Prop :=
  (∀ (s : State) (e b : Nat) (c : Cmd) (r : Record),
    s.ready e (· == 0x0320) = some c →
    c.basin = some b →
    r = recOf s c (key1Of c.desc) →
    (ecPointOk r.alg c.input = false ∨ Config.ecdh r.alg r.comps c.input = none → ∃ t, exec (.ecdh e) s = .next t ∧ DrewNothing s t ∧ Answered s t e c { status := 1 }) ∧
        (∀ z, ecPointOk r.alg c.input = true → Config.ecdh r.alg r.comps c.input = some z → ∃ t k, exec (.ecdh e) s = .next t ∧ DrewNothing s t ∧ Creates s t e c k [] ∧
          k.comps = [(0, oneStep c.desc z)] ∧ oneStep c.desc z = (Config.sha384 (natBe 4 1 ++ z ++ natBe 1 (param c.desc 1 1) ++ paramBytes c.desc 0x28 (param c.desc 0x20 1))).take (agreedLen (param c.desc 1 1)))) ∧
  (∀ (alg : Nat) (bs : Bytes),
    (alg = 0x20 ∨ alg = 0x21) →
    ecPointOk alg bs = true →
    bs.length = (if alg = 0x20 then 65 else 97) ∧ bs.head? = some 4 ∧ beNat (slice bs 1 (curveLen alg)) < curveP alg ∧
        beNat (slice bs (1 + curveLen alg) (curveLen alg)) < curveP alg ∧
        beNat (slice bs (1 + curveLen alg) (curveLen alg)) ^ 2 % curveP alg =
          (beNat (slice bs 1 (curveLen alg)) ^ 3 + (curveP alg - 3) * beNat (slice bs 1 (curveLen alg)) + curveB alg) % curveP alg) ∧
  (∀ (s : State) (e b : Nat) (c : Cmd) (x : Bytes × Bytes),
    s.ready e (· == 0x0310) = some c →
    c.basin = some b →
    32 ≤ (s.drbg b).pool.length →
    x = Config.mlkemEncaps ((recOf s c (key1Of c.desc)).comp 2) ((s.drbg b).pool.take 32) →
    ∃ t k, exec (.kemEncaps e) s = .next t ∧ DrewFromPool s t b 32 ∧ Creates s t e c k (padTo 1088 x.1) ∧ k.comps = [(0, oneStep c.desc x.2)]) ∧
  (∀ (s : State) (e b : Nat) (c : Cmd),
    s.ready e (· == 0x0311) = some c →
    c.basin = some b →
    ∃ t k, exec (.kemDecaps e) s = .next t ∧ DrewNothing s t ∧ Creates s t e c k [] ∧
        k.comps = [(0, oneStep c.desc (Config.mlkemDecaps (recOf s c (key1Of c.desc)).comps c.input))]) ∧
  (∀ (s : State) (e b n : Nat) (c : Cmd),
    s.ready e (· == 0x0330) = some c →
    c.basin = some b →
    n = pairDraw (param c.desc 1 1) →
    (if param c.desc 2 1 = 1 then n ≤ (s.drbg b).pool.length else SeedWaits s b) →
    ∃ t k o, exec (.keypairGenerate e) s = .next t ∧ (if param c.desc 2 1 = 1 then DrewFromPool s t b n else DrewFresh s t b) ∧
        Creates s t e c k o ∧ k.kcv = [0, 0, 0] ∧ o.length = outLenOf c.desc ∧ k.comps.map (·.1) = (compTable (param c.desc 1 1) 0).map (·.1))

/-- R291 to R294, R373: an import whose block fails its authentication, or whose public key is no valid encoding (a point off its
curve, a modulus that is even or lacks its top bit, an exponent below 65,537, a coefficient not below 3,329), is DONE/FALSE and
creates nothing; a block whose header does not agree is MALFORMED/FIELD; a public import keeps public components only.
KEY.GENERATE draws the key's length, from the pool for a session key and as a fresh request for a persistent one; KEY.DERIVE
computes the key by METHOD 0, 1 or 2. RESULT of each is the handle and the KCV, and the record is written at retirement.
KEY.EXPORT writes the public encoding, or a key block of its length, and RESULT gives it. The cryptography is uninterpreted (log
entry 1). -/
def Obligations.KeysAreImportedExportedGeneratedAndDerived : Prop :=
  (∀ (s : State) (e b : Nat) (c : Cmd),
    s.ready e (· == 0x0401) = some c →
    c.basin = some b →
    param c.desc 0x20 1 = 1 →
    (publicImport (param c.desc 1 1) c.input = none → ∃ t, exec (.keyImport e) s = .next t ∧ DrewNothing s t ∧ Answered s t e c { status := 1 }) ∧
        (∀ l, publicImport (param c.desc 1 1) c.input = some l → ∃ t r, exec (.keyImport e) s = .next t ∧ DrewNothing s t ∧ Creates s t e c r [] ∧
          r.publicOnly = true ∧ r.comps = publicComps (param c.desc 1 1) l ∧ r.usage = BitVec.ofNat 64 (param c.desc 8 8))) ∧
  (∀ (alg : Nat) (bs : Bytes) (l : List (Nat × Bytes)),
    publicImport alg bs = some l →
    (alg = 0x20 ∨ alg = 0x21 → bs.length = 1 + 2 * curveLen alg ∧ bs.getD 0 0 = 4 ∧ beNat (slice bs 1 (curveLen alg)) < curveP alg ∧ beNat (slice bs (1 + curveLen alg) (curveLen alg)) < curveP alg ∧
          (beNat (slice bs (1 + curveLen alg) (curveLen alg)) ^ 2) % curveP alg = (beNat (slice bs 1 (curveLen alg)) ^ 3 + (curveP alg - 3) * beNat (slice bs 1 (curveLen alg)) + curveB alg) % curveP alg) ∧
        (isRsa alg = true → bs.length = rsaLen alg + 4 ∧ beNat (bs.take (rsaLen alg)) % 2 = 1 ∧ 2 ^ (8 * rsaLen alg - 1) ≤ beNat (bs.take (rsaLen alg)) ∧
          beNat (bs.drop (rsaLen alg)) % 2 = 1 ∧ 65537 ≤ beNat (bs.drop (rsaLen alg)) ∧ l = [(5, bs.take (rsaLen alg)), (6, bs.drop (rsaLen alg))]) ∧
        (alg = 0x31 → bs.length = 1184 ∧ ∀ i, i < 768 → leNat (bs.take 1152) / 2 ^ (12 * i) % 4096 < 3329)) ∧
  (∀ (s : State) (e b : Nat) (c : Cmd) (k : Record),
    s.ready e (· == 0x0401) = some c →
    c.basin = some b →
    param c.desc 0x20 1 = 0 →
    k = recOf s c (key2Of c.desc) →
    (blockAgrees c.desc c.input k = false → ∃ t, exec (.keyImport e) s = .next t ∧ DrewNothing s t ∧ Answered s t e c { status := 0x0403 }) ∧
        (blockAgrees c.desc c.input k = true → Config.keyBlockOpen (c.input.getD 0 0).toNat k.key c.input = none →
          ∃ t, exec (.keyImport e) s = .next t ∧ DrewNothing s t ∧ Answered s t e c { status := 1 }) ∧
        (∀ m l, blockAgrees c.desc c.input k = true → Config.keyBlockOpen (c.input.getD 0 0).toNat k.key c.input = some m → blockComps (param c.desc 1 1) m = some l →
          ∃ t r, exec (.keyImport e) s = .next t ∧ DrewNothing s t ∧ Creates s t e c r [] ∧ r.publicOnly = false ∧ r.comps = l ∧
            (param c.desc 8 8 ≠ 0 → ∀ i, i < 21 → r.usage.getLsbD i = (BitVec.ofNat 64 (param c.desc 8 8)).getLsbD i))) ∧
  (∀ (s : State) (e b n : Nat) (c : Cmd),
    s.ready e (· == 0x0403) = some c →
    c.basin = some b →
    n = (if param c.desc 1 1 = 8 then param c.desc 0x20 1 else symLen (param c.desc 1 1)) →
    1 ≤ n →
    (if param c.desc 2 1 = 1 then n ≤ (s.drbg b).pool.length else SeedWaits s b) →
    ∃ t r k, exec (.keyGenerate e) s = .next t ∧ k.length = n ∧ Creates s t e c r [] ∧ r.comps = [(0, k)] ∧ r.kcv = kcvOf (param c.desc 1 1) k ∧ r.publicOnly = false ∧
        (if param c.desc 2 1 = 1 then DrewFromPool s t b n ∧ k = (s.drbg b).pool.take n else DrewFresh s t b)) ∧
  (∀ (s : State) (e b m : Nat) (c : Cmd) (k x : Bytes),
    s.ready e (· == 0x0404) = some c →
    c.basin = some b →
    k = (recOf s c (key1Of c.desc)).key →
    m = param c.desc 0x20 1 →
    x = (if m = 0 then Config.kdf k (ascii "OX-DRV") (paramBytes c.desc 0x28 24) (agreedLen (param c.desc 1 1)) else if m = 1 then Config.dukptAesInitial k (paramBytes c.desc 0x28 8) else Config.dukptTdesInitial k (paramBytes c.desc 0x28 10)) →
    ∃ t r, exec (.keyDerive e) s = .next t ∧ DrewNothing s t ∧ Creates s t e c r [] ∧ r.comps = [(0, padTo (agreedLen (param c.desc 1 1)) x)] ∧ r.publicOnly = false) ∧
  (∀ (s : State) (e b f : Nat) (c : Cmd) (r : Record),
    s.ready e (· == 0x0402) = some c →
    c.basin = some b →
    r = recOf s c (key1Of c.desc) →
    f = param c.desc 0 1 →
    (f = 2 → ∃ t, exec (.keyExport e) s = .next t ∧ DrewNothing s t ∧ t.cis = s.cis ∧
            Answered s t e c { result := natLe 4 (publicEncoding r.alg r.comps).length, output := publicEncoding r.alg r.comps }) ∧
        (f ≠ 2 → exportRow r.usage.toNat ≠ none → ∃ t o, exec (.keyExport e) s = .next t ∧ o.length = exportLen r f ∧ t.cis = s.cis ∧ t.spg = s.spg ∧
            Answered s t e c { result := natLe 4 (exportLen r f), output := o }) ∧
        (f ≠ 2 → exportRow r.usage.toNat = none → ∃ t, exec (.keyExport e) s = .next t ∧ DrewNothing s t ∧ Answered s t e c { status := 0x0306 }))

/-- R276, R293: KEY.STATE asks for its change, or its arming with AT_INSTANT, and a request for the present state does nothing;
KEY.DESTROY asks for the destruction. R182, R192: at retirement the record takes the new state with this instant as its
STATE_TIME, or stays where R276 allows no such transition; a destroyed key has no record, and its slot's USE advances. R295: a
new record is in the key region from its retirement on. R289: the retirement of the command that drew the last counter value
makes the key RETIRED, and COUNTER_SPENT (bit 0 of CIS_EVENT) sets. -/
def Obligations.KeyStatesChangeAtRetirement : Prop :=
  (∀ (s : State) (e b t0 : Nat) (c : Cmd) (h : BitVec 64),
    s.ready e (· == 0x0405) = some c →
    c.basin = some b →
    h = key1Of c.desc →
    t0 = param c.desc 0 1 →
    ∃ t, exec (.keyState e) s = .next t ∧ DrewNothing s t ∧ t.cis = s.cis ∧ Answered s t e c
        { effect := if param c.desc 1 1 = 1 then .keyArm h (t0 == 1) (param c.desc 8 8) else if s.keyState h = t0 then .none else .keyTo h t0 }) ∧
  (∀ (s : State) (e b : Nat) (c : Cmd),
    s.ready e (· == 0x0406) = some c →
    c.basin = some b →
    ∃ t, exec (.keyDestroy e) s = .next t ∧ DrewNothing s t ∧ t.cis = s.cis ∧ Answered s t e c { effect := .destroy (key1Of c.desc) }) ∧
  (∀ (s : State) (e k : Nat) (c : Cmd) (h : BitVec 64) (r : Record),
    s.cmd e = some c →
    mayRetire s e c = true →
    stalls s c = false →
    c.verdict = .allow →
    c.effect = .keyTo h k →
    c.block = none →
    lastNonce c = false →
    s.record h = some r →
    (s.queue c.fn c.q).batchRecord = none →
    ∃ t, exec (.retirement e) s = .next t ∧ t.cmd e = none ∧
        t.record h = some (if stateMove r.state k then { r with state := k, stateTime := s.tbs.now } else r) ∧
        (r.session = false → stateMove r.state k = true → ∃ x ∈ t.vlt.dirty, x.1 = keySlot s h ∧ x.2.2 = s.tbs.now)) ∧
  (∀ (s : State) (e : Nat) (c : Cmd) (h : BitVec 64) (r : Record),
    s.cmd e = some c →
    mayRetire s e c = true →
    stalls s c = false →
    c.verdict = .allow →
    c.effect = .destroy h →
    c.block = none →
    lastNonce c = false →
    s.record h = some r →
    (s.queue c.fn c.q).batchRecord = none →
    ∃ t, exec (.retirement e) s = .next t ∧ t.cmd e = none ∧ t.record h = none ∧ t.keyState h = 4 ∧
        tabGet t.cis.use (keySlot s h) 0 = min 0xFFFF (tabGet s.cis.use (keySlot s h) 0 + 1) ∧
        (∀ n, n ≠ keySlot s h → tabFind t.cis.records n = tabFind s.cis.records n)) ∧
  (∀ (s : State) (e n : Nat) (c : Cmd) (r : Record),
    s.cmd e = some c →
    mayRetire s e c = true →
    stalls s c = false →
    c.verdict = .allow →
    c.effect = .create n →
    c.newRec = some r →
    c.block = none →
    lastNonce c = false →
    (s.queue c.fn c.q).batchRecord = none →
    ∃ t, exec (.retirement e) s = .next t ∧ t.cmd e = none ∧ tabFind t.cis.records n = some { r with created := s.tbs.now, stateTime := s.tbs.now } ∧
        (∀ m, m ≠ n → tabFind t.cis.records m = tabFind s.cis.records m) ∧ (∀ x ∈ t.cis.reserved, x.2.1 ≠ e)) ∧
  (∀ (s : State) (e : Nat) (c : Cmd) (r : Record),
    s.cmd e = some c →
    mayRetire s e c = true →
    stalls s c = false →
    c.verdict = .allow →
    c.effect = .none →
    c.block = none →
    c.spent ≠ 0 →
    s.record c.spent = some r →
    r.state < 3 →
    (s.queue c.fn c.q).batchRecord = none →
    ∃ t, exec (.retirement e) s = .next t ∧ t.record c.spent = some { r with state := 3, stateTime := s.tbs.now } ∧ t.cis.event = s.cis.event.set 0)

/-- R306 to R308: a write of a line raises its minor, or at 127 its block's major, seals the line under the new version and leaves
every MAC of its path equal to that of its child. R311, R312: a retrain that fails repeats at the next lower rate, and a second
failure within 1 s loses the die, with DEGRADED and DIE_LOST, and FAILED where another die is lost. R314: a re-wrap starts by GO
or at the threshold and ends with GENERATION + 1, REWRAP_DONE and every served die under the new keys. R316 to R318: the oldest
dirty slot's entry of 384 bytes is written at ring position SEQ mod 2^LOG2_ENTRIES while SEQ is below D + 2^LOG2_ENTRIES, and H
takes the slot's new P for its old. R320: an ACK not above D or not below SEQ is rejected; another one reads the entry back, and
D becomes its SEQ when the TAG checks. R321, R322: TAIL and END are discarded without RELOAD or after a failure; a failing entry
clears the persistent slots and names its cause; END with TAIL 0, where D and H are 0, succeeds at once; RESTART begins anew.
R325: ENABLE, LOG2_ENTRIES and PORT. -/
def Obligations.DiesRewrapMirrorAndReload : Prop :=
  (∀ (x : VaultDie) (k : LineKeys) (d line : Nat) (pt : Bytes) (c : CounterBlock) (v : Nat × Nat),
    c = tabGet x.counters (line / 64) {} →
    v = (if tabGet c.minors (line % 64) 0 < 127 then (c.major, tabGet c.minors (line % 64) 0 + 1) else (c.major + 1, 0)) →
    (tabGet (x.writeLine k d line pt).counters (line / 64) {}).version line = v ∧
        tabFind (x.writeLine k d line pt).lines line = some (sealLine k d line v pt) ∧
        (∀ n, n / 64 ≠ line / 64 → tabFind (x.writeLine k d line pt).lines n = tabFind x.lines n) ∧
        (tabGet c.minors (line % 64) 0 < 127 → ∀ n, n ≠ line → tabFind (x.writeLine k d line pt).lines n = tabFind x.lines n ∧
          (tabGet (x.writeLine k d line pt).counters (n / 64) {}).version n = (tabGet x.counters (n / 64) {}).version n) ∧
        (∀ i, i ≠ line / 64 → tabFind (x.writeLine k d line pt).counters i = tabFind x.counters i)) ∧
  (∀ (x : VaultDie) (k : LineKeys) (d line : Nat) (pt : Bytes),
    line < 2 ^ 26 →
    (∀ l i, 1 ≤ l → (x.content l i).length = 64) →
    ∀ l, l < 7 → heldMac (x.writeLine k d line pt) l (line / 64 / 8 ^ l) =
        nodeMac k d l (line / 64 / 8 ^ l) ((x.writeLine k d line pt).content l (line / 64 / 8 ^ l))) ∧
  (∀ (s : State) (d : Nat),
    d < 4 →
    (s.die d).present = true →
    (∀ n, n < 4 → n ≠ d → (s.die n).retraining = false) →
    ((s.die d).retraining = true ∨ ∀ t0, (s.die d).trainedAt = some t0 → t0 + 128000000 ≤ s.tbs.now) →
    exec (.dieRetrain d true) s = .next (s.setDie d { s.die d with retraining := false, trainedAt := some s.tbs.now }) ∧
          ((∀ t, (s.die d).failAt = some t → t + 1000000000 < s.tbs.now) → exec (.dieRetrain d false) s = .next (s.setDie d { s.die d with
            retraining := true, retrainFails := min 0xFF ((s.die d).retrainFails + 1), rate := max 1 ((s.die d).rate - 1), failAt := some s.tbs.now })) ∧
          (∀ t0, (s.die d).failAt = some t0 → s.tbs.now ≤ t0 + 1000000000 → ∃ t, exec (.dieRetrain d false) s = .next t ∧ (t.die d).present = false ∧
            (t.die d).lost = true ∧ t.vlt.degraded = true ∧ t.vlt.event.flags.getLsbD 2 = true)) ∧
  (∀ (s : State) (d : Nat) (ok : Bool),
    d < 4 →
    ((s.die d).present = false → exec (.dieRetrain d ok) s = .next s ∧ exec (.dieLost d) s = .next s ∧ exec (.rewrapThreshold d) s = .next s) ∧
          ((s.die d).present = true → ∃ t, exec (.dieLost d) s = .next t ∧ (t.die d).present = false ∧ (t.die d).lost = true ∧ t.vlt.degraded = true ∧
            (t.vlt.failed = true ↔ ∃ n, n < 4 ∧ n ≠ d ∧ (s.die n).lost = true) ∧ t.vlt.event.flags.getLsbD 2 = true ∧ t.cis.records = s.cis.records ∧ t.tbs = s.tbs ∧ t.lay = s.lay ∧
            t.vmem.dies = tabDel s.vmem.dies d ∧ (∀ k, (queuePosition s k).any (fun i => i % 4 == d) = false → tabFind t.queues k = tabFind s.queues k) ∧
            ((∀ x ∈ s.slu.retire, x.2.work = none) → t.slu = s.slu ∧ t.basins = s.basins)) ∧
          ((s.die d).present = true → s.vlt.unlocked = true → s.vlt.rewrap = false → exec (.rewrapThreshold d) s = .next { s with vlt := { s.vlt with rewrap := true } })) ∧
  (∀ (s : State) (f : FnId),
    f.vf = 0 →
    s.fnExists f = true →
    (s.vlt.unlocked = true → s.vlt.rewrap = false → exec (.rewrapGo f) s = .next { s with vlt := { s.vlt with rewrap := true } }) ∧
          (s.vlt.unlocked = false ∨ s.vlt.rewrap = true → exec (.rewrapGo f) s = .next s) ∧
          (s.vlt.rewrap = true → ∃ t, exec .rewrapDone s = .next t ∧
            t = { s with vlt := { s.vlt with rewrap := false, generation := (s.vlt.generation + 1) % 2 ^ 32, event := s.vlt.event.set 3 }, vmem := t.vmem } ∧
            ∀ d, d < 4 → t.vdie d = if s.dieServed d then (s.vdie d).rewrapped (s.lineKeys d s.vlt.generation) (s.lineKeys d ((s.vlt.generation + 1) % 2 ^ 32)) d else s.vdie d)) ∧
  (∀ (s : State) (d : Nat × Nat × Nat) (r : List (Nat × Nat × Nat)) (p : Nat),
    s.vlt.dirty = d :: r →
    s.vlt.mirrorEn = true →
    s.vlt.unlocked = true →
    s.vlt.mirrorSeq < s.vlt.durable + 2 ^ s.vlt.mirrorLog2 →
    p = tabGet s.vlt.pOf d.1 0 →
    p < 2 ^ 384 →
    ∃ t bs a, exec .mirrorEntryWrite s = .next t ∧ t.vlt.dirty = r ∧ t.vlt.mirrorSeq = s.vlt.mirrorSeq + 1 ∧ bs.length = 384 ∧
        a = s.vlt.mirrorBase.toNat + s.vlt.mirrorSeq % 2 ^ s.vlt.mirrorLog2 * 384 ∧
        t.out = s.out ++ s.writesOf ⟨s.vlt.mirrorPort, 0⟩ none a bs ∧
        (t.vlt.h + p) % 2 ^ 384 = (s.vlt.h + tabGet t.vlt.pOf d.1 0) % 2 ^ 384 ∧ t.vlt.h < 2 ^ 384 ∧
        (s.vlt.seqMark ≤ s.vlt.mirrorSeq → t.vlt.seqMark = s.vlt.seqMark + 65536) ∧ (s.vlt.mirrorSeq < s.vlt.seqMark → t.vlt.seqMark = s.vlt.seqMark) ∧
        t.vlt.durable = s.vlt.durable ∧ t = { s with vlt := t.vlt, out := t.out }) ∧
  (∀ (s : State),
    (s.vlt.dirty = [] ∨ s.vlt.mirrorEn = false ∨ s.vlt.durable + 2 ^ s.vlt.mirrorLog2 ≤ s.vlt.mirrorSeq) →
    exec .mirrorEntryWrite s = .next s) ∧
  (∀ (s : State) (f : FnId) (v : BitVec 64),
    f.vf = 0 →
    s.fnExists f = true →
    (v.toNat ≤ s.vlt.durable ∨ s.vlt.mirrorSeq ≤ v.toNat → exec (.mirrorAck f v) s = .next { s with vlt := { s.vlt with event := s.vlt.event.set 7 } }) ∧
          (s.vlt.durable < v.toNat → v.toNat < s.vlt.mirrorSeq → exec (.mirrorAck f v) s = .next (State.readHost { s with
            vlt := { s.vlt with mirrorAck := v.toNat, ackPending := true } } ⟨s.vlt.mirrorPort, 0⟩ (s.vlt.mirrorBase.toNat + v.toNat % 2 ^ s.vlt.mirrorLog2 * 384) 384))) ∧
  (∀ (s : State) (e : Bytes) (o : Option Bytes),
    s.vlt.ackPending = true →
    o = gcmOpen (mirrorKey s) (mirrorIv s.vlt.mirrorAck) (slice e 0 0x30) (slice e 0x40 320) (slice e 0x30 16) →
    (o = none → exec (.mirrorAckReadback e) s = .next { s with vlt := { s.vlt with ackPending := false, event := s.vlt.event.set 7 } }) ∧
          (∀ b, o = some b → ∃ t, exec (.mirrorAckReadback e) s = .next t ∧ t.vlt = { s.vlt with
              ackPending := false, durable := s.vlt.mirrorAck, hDurable := field b 256 48, written := s.vlt.written.filter (fun w => decide (s.vlt.mirrorAck < w.seq)) } ∧
            t.cis = { s.cis with journal := t.cis.journal } ∧ t = { s with vlt := t.vlt, cis := t.cis })) ∧
  (∀ (s : State) (f : FnId) (v : BitVec 32),
    f.vf = 0 →
    s.fnExists f = true →
    (s.vlt.mirrorEn = true → exec (.mirrorCtrlWrite f v) s = .next { s with vlt := { s.vlt with mirrorEn := v.getLsbD 0 } }) ∧
          (s.vlt.mirrorEn = false → v.getLsbD 0 = true → 10 ≤ v.toNat / 2 % 32 → v.toNat / 2 % 32 ≤ 22 →
            exec (.mirrorCtrlWrite f v) s = .next { s with vlt := { s.vlt with mirrorEn := true, mirrorLog2 := v.toNat / 2 % 32, mirrorPort := f.port } }) ∧
          (s.vlt.mirrorEn = false → v.getLsbD 0 = true → v.toNat / 2 % 32 < 10 ∨ 22 < v.toNat / 2 % 32 → exec (.mirrorCtrlWrite f v) s = .next s)) ∧
  (∀ (s : State) (f : FnId) (v : BitVec 32),
    f.vf = 0 →
    s.fnExists f = true →
    (s.vlt.reload = false → exec (.reloadTail f v) s = .next s ∧ exec (.reloadEnd f) s = .next s ∧ exec (.reloadRestart f) s = .next s) ∧
          (s.vlt.rlState = 3 → exec (.reloadTail f v) s = .next s ∧ exec (.reloadEnd f) s = .next s) ∧
          (s.vlt.reload = true → s.vlt.rlState ≠ 3 → s.vlt.endSet = false →
            exec (.reloadTail f v) s = .next { s with vlt := { s.vlt with tail := v.toNat, rlState := 1 } }) ∧
          (s.vlt.reload = true → s.vlt.rlState ≠ 3 → s.vlt.rlHead ≠ s.vlt.tail → exec (.reloadEnd f) s = .next { s with vlt := { s.vlt with endSet := true, rlState := 1 } }) ∧
          (s.vlt.reload = true → diesGone s = false → exec (.reloadRestart f) s = .next { s with vlt := { s.vlt with
            rlState := 1, rlCause := 0, rlHead := 0, tail := 0, endSet := false, rlSlots := [], rlSum := 0 } }) ∧
          (s.vlt.reload = true → diesGone s = true → ∃ t, exec (.reloadRestart f) s = .next t ∧ t.vlt.rlState = 3 ∧ t.vlt.rlCause = 6 ∧ t.vlt.event = s.vlt.event.set 5 ∧
            ∀ k r, tabFind t.cis.records k = some r → r.session = true)) ∧
  (∀ (s : State) (f : FnId),
    f.vf = 0 →
    s.fnExists f = true →
    s.vlt.reload = true →
    s.vlt.unlocked = true →
    s.vlt.rlState ≠ 3 →
    s.vlt.rlHead = s.vlt.tail →
    diesGone s = false →
    s.vlt.rlSlots = [] →
    s.vlt.rlSum = s.vlt.hDurable →
    ∃ t, exec (.reloadEnd f) s = .next t ∧ t.vlt.rlState = 2 ∧ t.vlt.reload = false ∧ t.vlt.loaded = true ∧ t.vlt.rlCause = 0 ∧ t.vlt.event = s.vlt.event.set 4 ∧
        (∀ k r, tabFind t.cis.records k = some r → r.session = true) ∧ (∀ k r, tabFind s.cis.records k = some r → r.session = true → tabFind t.cis.records k = some r) ∧
        t.fnt.op = (if s.fnt.op = .booting ∧ 13 ≤ s.pwr.bootStep then .serving else s.fnt.op)) ∧
  (∀ (s : State) (e : Bytes),
    s.vlt.reload = true →
    s.vlt.unlocked = true →
    s.vlt.rlState = 1 →
    s.vlt.rlHead < s.vlt.tail →
    (∀ c, checkEntry s e = .inl c → ∃ t, exec (.reloadEntry e) s = .next t ∧ t.vlt.rlState = 3 ∧ t.vlt.rlCause = c ∧ t.vlt.rlHead = s.vlt.rlHead + 1 ∧
            t.vlt.event = s.vlt.event.set 5 ∧ (∀ k r, tabFind t.cis.records k = some r → r.session = true) ∧
            (∀ k r, tabFind s.cis.records k = some r → r.session = true → tabFind t.cis.records k = some r)) ∧
          (∀ x, checkEntry s e = .inr x → s.vlt.endSet = false → ∃ t, exec (.reloadEntry e) s = .next t ∧ t.vlt = { s.vlt with
            rlHead := s.vlt.rlHead + 1, rlSlots := tabSet s.vlt.rlSlots x.1 x.2, rlSum := (s.vlt.rlSum + slotValue s x.1 x.2.1 x.2.2.1 x.2.2.2) % 2 ^ 384 } ∧
            t = { s with vlt := t.vlt, vmem := t.vmem }))

namespace Sys2Proof.Claims

/-- A word multiplied n times by H in GF(2^64) (R414). -/
def timesH (h w : BitVec 64) : Nat → BitVec 64
  | 0 => w
  | n + 1 => gf64Mul (timesH h w n) h

/-- Σ x_j · H^(n + 1 − j) over the words x_1 to x_n (R414). -/
def tagPolynomial (h : BitVec 64) : List (BitVec 64) → BitVec 64
  | [] => 0
  | w :: r => timesH h w (r.length + 1) ^^^ tagPolynomial h r

/-- The debug access that is under way after a DEBUG_ACCESS row: its answer is due 4,096 ns later; its request carried the epoch and the
live Weir set, and its tag. -/
def debugAccOf (s : State) (a : BitVec 40) (w : Bool) (n : Nat) (bs : Bytes) (denied : Bool) : DebugAcc :=
  { addr := a, write := w, lenM1 := n, data := bs, due := s.tbs.now + 4096, denied := denied, set := s.wei.live, epoch := s.lay.epoch,
    unit := unitAt a.toNat, respGen := s.genOf (unitAt a.toNat),
    tag := (s.sendTagged (s.request 9 (if w then 1 else 0) s.wei.live a.toNat (n + 1) (if w then padTo (n + 1) bs else []) none)).2 }

/-- The debug access returns what it asked for: it was not denied, and its target is not in RESETTING and was not reset since the check
(R200, R413). -/
abbrev Delivers (s : State) (x : DebugAcc) : Prop := x.denied = false ∧ s.unitResetting x.unit = false ∧ x.respGen = s.genOf x.unit

end Sys2Proof.Claims

/-- R414: the tag of a transfer is the low 32 bits of S ⊕ Σ x_j · H^(n + 1 − j). R415, R473: a re-key that is due, which none is
while the fatal entropy alarm holds, draws 16 bytes from DRBG 8, the other key index becomes current, the previous key stays
accepted for 4 us, so a transfer tagged before is still accepted, and is then zeroised. R410: a write of WEI_KSEL at ring 0 with
a value below 3 takes effect at the next context switch; any other write changes nothing. R412, R413: a debug access is checked
under the certificate's rights when it is made; a denial is counted and recorded and sets DEBUG_DENY (bit 3); the answer comes
4,096 ns later with the bytes, or as denied; R200: one whose target is in RESETTING, or was reset since the check, carries no
data. R398, R401: an address in no target is denied (cause 4), and without rights the debug port has no access. A permitted
write to MRAM or FRAM leaves its bytes there (`nvm`), one to the vault goes through its protected memory, and one to a place of
the peripheral space or the boot ROM where the spec puts nothing changes nothing (log entry 44). Memory elsewhere is as it was. -/
def Obligations.TagKeysSelectorsAndDebugAccesses : Prop :=
  (∀ (s u : State) (bs : Bytes),
    rekeyDue s = true →
    s.draw 8 16 = some (bs, u) →
    ∃ v, exec .weirRekey s = .next v ∧ v = { u with wei := { u.wei with
          key := bs, prevKey := some (s.wei.key, s.tbs.now + 4000), keyIndex := !s.wei.keyIndex, tagKey := true, rekeyMark := s.tbs.now / 2 ^ 30, event := u.wei.event.set 6 } } ∧
        ∀ t x, v.tagOk (v.sendTagged x).1 (v.sendTagged x).2 = true ∧
          (t ≤ s.tbs.now + 4000 → State.tagOk { v with tbs := { v.tbs with now := t } } (s.sendTagged x).1 (s.sendTagged x).2 = true) ∧
          (s.tbs.now + 4000 < t → State.tagOk { v with tbs := { v.tbs with now := t } } (s.sendTagged x).1 (s.sendTagged x).2 = false)) ∧
  (∀ (t : Transfer) (key : Bytes),
    t.tag key = (BitVec.ofNat 64 (leNat (slice key 8 8)) ^^^ tagPolynomial (BitVec.ofNat 64 (leNat (key.take 8))) t.words).setWidth 32 ∧
        t.words.length = 4 + (t.data.length + 7) / 8) ∧
  (∀ (s : State),
    (rekeyDue s = false → exec .weirRekey s = .next s) ∧ (s.wei.prevKey = none → exec .tagKeyRetire s = .next s) ∧
          (∀ k t, s.wei.prevKey = some (k, t) → (t ≤ s.tbs.now → exec .tagKeyRetire s = .next { s with wei := { s.wei with prevKey := none } }) ∧
            (s.tbs.now < t → exec .tagKeyRetire s = .next s)) ∧
          (s.spg.fatal = true → rekeyDue s = false) ∧ (s.spg.fatal = false → s.wei.tagKey = true → s.wei.rekeyMark < s.tbs.now / 2 ^ 30 → rekeyDue s = true) ∧
          (s.wei.tagKey = false → s.wei.seededAt = none → rekeyDue s = false)) ∧
  (∀ (s : State) (p : Nat) (v : BitVec 32),
    p ≤ 8 →
    ((s.pair p).ring = 0 → v.toNat % 4 ≠ 3 → exec (.weiKselWrite p v) s = .next (s.setPair p { s.pair p with kselNext := some (v.toNat % 4) })) ∧
          ((s.pair p).ring ≠ 0 ∨ v.toNat % 4 = 3 → exec (.weiKselWrite p v) s = .next s)) ∧
  (∀ (s : State) (a : BitVec 40) (w : Bool) (n : Nat) (bs : Bytes),
    s.wei.debugAcc = none →
    (weirCheck s 9 0 s.wei.live a.toNat (n + 1) w = none → exec (.debugAccess a w n bs) s = .next { s with wei := { s.wei with
            debugAcc := some (debugAccOf s a w n bs false) } }) ∧
          (∀ c o, weirCheck s 9 0 s.wei.live a.toNat (n + 1) w = some (c, o) → ∃ u : State, exec (.debugAccess a w n bs) s = .next (u.assertSource 15) ∧
            u.wei = { s.wei with debugAcc := some (debugAccOf s a w n bs true)
                                 denies := s.wei.denies + 1, lastDeny := denyBits s 9 0 s.wei.live a.toNat (n + 1) w c o, event := s.wei.event.set 3 } ∧
            u = { s with wei := u.wei }) ∧
          (n = 0 → targetOf a.toNat = none → weirCheck s 9 0 s.wei.live a.toNat (n + 1) w = some (4, 0)) ∧
          (n = 0 → s.wei.dbg = none → (weirCheck s 9 0 s.wei.live a.toNat (n + 1) w).isSome = true)) ∧
  (∀ (s : State) (x : DebugAcc),
    s.wei.debugAcc = some x →
    (∀ a w n bs, exec (.debugAccess a w n bs) s = .next s) ∧ (s.tbs.now < x.due → exec .debugAccessResponse s = .next s) ∧
          (x.due ≤ s.tbs.now → ¬ Delivers s x → exec .debugAccessResponse s = .next { s with wei := { s.wei with debugAcc := none }, out := s.out ++ [.debugReply none] }) ∧
          (x.due ≤ s.tbs.now → Delivers s x → x.write = true → isMemory x.addr.toNat = true → Memory.wf s.mem = true → ∃ t, exec .debugAccessResponse s = .next t ∧
            t = { s with wei := { s.wei with debugAcc := none }, mem := t.mem, out := s.out ++ [.debugReply (some [])] } ∧
            memReadN t.mem x.addr.toNat (x.lenM1 + 1) = padTo (x.lenM1 + 1) x.data ∧
            (∀ a, a < x.addr.toNat ∨ x.addr.toNat + x.lenM1 + 1 ≤ a → memRead t.mem a = memRead s.mem a)) ∧
          (x.due ≤ s.tbs.now → Delivers s x → x.write = true → isNvm x.addr.toNat = true → exec .debugAccessResponse s = .next { s with
            wei := { s.wei with debugAcc := none }, nvm := nvmWriteN s.nvm x.addr.toNat (padTo (x.lenM1 + 1) x.data), out := s.out ++ [.debugReply (some [])] }) ∧
          (x.due ≤ s.tbs.now → Delivers s x → x.write = true → isMemory x.addr.toNat = false → isVault x.addr.toNat = false → isNvm x.addr.toNat = false →
            (0x800000 ≤ x.addr.toNat ∨ regPlace x.addr.toNat = none) → exec .debugAccessResponse s = .next { s with
            wei := { s.wei with debugAcc := none }, out := s.out ++ [.debugReply (some [])] }) ∧
          (x.due ≤ s.tbs.now → Delivers s x → x.write = true → isVault x.addr.toNat = true → ∃ t, exec .debugAccessResponse s = .next t ∧
            t = { s with wei := { s.wei with debugAcc := none }, vmem := t.vmem, out := s.out ++ [.debugReply (some [])] } ∧
            t.vmem = (if s.dieServed (vaultPlace x.addr.toNat).1 then (s.vaultWrite (vaultPlace x.addr.toNat).1 (vaultPlace x.addr.toNat).2 (padTo (x.lenM1 + 1) x.data)).vmem else s.vmem)) ∧
          (∀ bs, x.due ≤ s.tbs.now → Delivers s x → x.write = false → isVault x.addr.toNat = true → s.dieServed (vaultPlace x.addr.toNat).1 = true →
            s.vaultRead (vaultPlace x.addr.toNat).1 (vaultPlace x.addr.toNat).2 (x.lenM1 + 1) = some bs → ∃ t, exec .debugAccessResponse s = .next t ∧
            t = { s with wei := { s.wei with debugAcc := none }, vmem := t.vmem, out := s.out ++ [.debugReply (some bs)] } ∧ t.vmem.dies = s.vmem.dies) ∧
          (x.due ≤ s.tbs.now → Delivers s x → x.write = true → isMemory x.addr.toNat = false → x.addr.toNat < 0x800000 → regPlace x.addr.toNat ≠ none →
            ∃ t, exec .debugAccessResponse s = .next t ∧ t.wei = { s.wei with debugAcc := none } ∧ t.mem = s.mem ∧ t.tbs = s.tbs ∧ t.lay = s.lay) ∧
          (x.due ≤ s.tbs.now → Delivers s x → x.write = false → isMemory x.addr.toNat = true → exec .debugAccessResponse s = .next { s with
            wei := { s.wei with debugAcc := none }, out := s.out ++ [.debugReply (some (memReadN s.mem x.addr.toNat (x.lenM1 + 1)))] }) ∧
          (x.due ≤ s.tbs.now → Delivers s x → x.write = false → isMemory x.addr.toNat = false → isVault x.addr.toNat = false → ∃ t bs, exec .debugAccessResponse s = .next t ∧
            t.out = s.out ++ [.debugReply (some bs)] ∧ t.mem = s.mem ∧ t.wei = { s.wei with debugAcc := none }))

namespace Sys2Proof.Claims

/-- The pair issues (R452) and every halfword of an instruction of `size` bytes at PC passes its fetch check (R420, R421). -/
abbrev Runs (s : State) (p size : Nat) : Prop :=
  issues s p = true ∧ s.fetchFault p (s.pair p).pc.toNat = none ∧
    (size = 4 → s.fetchFault p ((s.pair p).pc.toNat + 2) = none)

/-- What lies outside pair p's W, SP, ST and PC is as before: every other register of the pair, the other pairs, all else. -/
def OnlyCore (s t : State) (p : Nat) : Prop :=
  t = { s with pairs := t.pairs } ∧ (∀ q, q ≠ p → t.pair q = s.pair q) ∧
    t.pair p = { s.pair p with w := (t.pair p).w, sp := (t.pair p).sp, st := (t.pair p).st, pc := (t.pair p).pc }

/-- W_rd of pair p holds r afterwards (W15 is the low 32 bits as SP of the current ring, R417), and no other W or SP changes. -/
def Writes (s t : State) (p rd : Nat) (r : Nat) : Prop :=
  (∀ j, (t.pair p).reg j = if j = rd then BitVec.ofNat 128 (if rd = 15 then r % 2 ^ 32 else r) else (s.pair p).reg j) ∧
    (∀ q, q ≠ (s.pair p).ring → tabGet (t.pair p).sp q 0 = tabGet (s.pair p).sp q 0)

/-- No W and no SP changes. -/
def WritesNone (s t : State) (p : Nat) : Prop := (t.pair p).w = (s.pair p).w ∧ (t.pair p).sp = (s.pair p).sp

/-- C, Z, N and V as given, the other bits of ST as before (R418). -/
def Flags (s t : State) (p : Nat) (c z n v : Bool) : Prop :=
  ∀ j, j < 32 → (t.pair p).st.getLsbD j =
    if j = 0 then c else if j = 1 then z else if j = 2 then n else if j = 3 then v else (s.pair p).st.getLsbD j

/-- PC moves past an instruction of `size` bytes. -/
def Past (s t : State) (p size : Nat) : Prop := (t.pair p).pc = (s.pair p).pc + BitVec.ofNat 32 size

/-- An ALU instruction with result r at width w in rd, and C and V as given; Z and N follow r (R418, R429). -/
def Alu (s t : State) (p w rd r size : Nat) (c v : Bool) : Prop :=
  OnlyCore s t p ∧ Writes s t p rd r ∧ Flags s t p c (r == 0) (bitAt r (w - 1)) v ∧ Past s t p size

end Sys2Proof.Claims

/-- R427 to R429, for a pair that issues and in every form the instruction has: ADD, ADC and ADDI leave the sum modulo 2^w in rd
with C the carry out, SUB, SBB and NEG the difference with C the borrow out, CMP and CMPI only the flags of a difference; V is
signed overflow at the width, Z and N follow the result, PC moves past the instruction, and nothing else changes. A form that
does not exist takes vector 5. `aluIn` and `immIn` give the width, rd and the two operands. -/
def Obligations.KeeperAdditionsSubtractionsAndCompares : Prop :=
  (∀ (s : State) (p : Nat) (o : AluForm) (i : AluIn),
    aluIn (s.pair p) o true false false = some i →
    Runs s p i.size →
    (∃ t, exec (.add p o) s = .next t ∧
            Alu s t p i.w i.rd ((i.a + i.b) % 2 ^ i.w) i.size (decide (2 ^ i.w ≤ i.a + i.b)) (overflows i.w (signedOf i.w i.a + signedOf i.w i.b))) ∧
          (∃ t, exec (.sub p o) s = .next t ∧
            Alu s t p i.w i.rd ((i.a + 2 ^ (i.w + 1) - i.b) % 2 ^ i.w) i.size (decide (i.a < i.b)) (overflows i.w (signedOf i.w i.a - signedOf i.w i.b)))) ∧
  (∀ (s : State) (p : Nat) (o : AluForm) (i : AluIn),
    aluIn (s.pair p) o false false false = some i →
    Runs s p i.size →
    (∃ t, exec (.adc p o) s = .next t ∧
            Alu s t p i.w i.rd ((i.a + i.b + bitNat (s.pair p).c) % 2 ^ i.w) i.size (decide (2 ^ i.w ≤ i.a + i.b + bitNat (s.pair p).c))
              (overflows i.w (signedOf i.w i.a + signedOf i.w i.b + (bitNat (s.pair p).c : Nat)))) ∧
          (∃ t, exec (.sbb p o) s = .next t ∧
            Alu s t p i.w i.rd ((i.a + 2 ^ (i.w + 1) - i.b - bitNat (s.pair p).c) % 2 ^ i.w) i.size (decide (i.a < i.b + bitNat (s.pair p).c))
              (overflows i.w (signedOf i.w i.a - signedOf i.w i.b - (bitNat (s.pair p).c : Nat))))) ∧
  (∀ (s : State) (p rd rs : Nat),
    Runs s p 2 →
    ∃ t, exec (.neg p rd rs) s = .next t ∧ Alu s t p 128 rd ((2 ^ 129 - ((s.pair p).reg rs).toNat) % 2 ^ 128) 2
        (decide (0 < ((s.pair p).reg rs).toNat)) (overflows 128 (0 - signedOf 128 ((s.pair p).reg rs).toNat))) ∧
  (∀ (s : State) (p : Nat) (o : AluForm) (i : AluIn),
    aluIn (s.pair p) o true true false = some i →
    Runs s p i.size →
    ∃ t, exec (.cmp p o) s = .next t ∧ OnlyCore s t p ∧ WritesNone s t p ∧ Past s t p i.size ∧
        Flags s t p (decide (i.a < i.b)) (decide (i.a = i.b)) (bitAt ((i.a + 2 ^ i.w - i.b) % 2 ^ i.w) (i.w - 1))
          (overflows i.w (signedOf i.w i.a - signedOf i.w i.b))) ∧
  (∀ (s : State) (p : Nat) (o : ImmForm) (i : AluIn),
    immIn (s.pair p) o false = some i →
    Runs s p i.size →
    ∃ t, exec (.addi p o) s = .next t ∧
        Alu s t p 128 i.rd ((i.a + i.b) % 2 ^ 128) i.size (decide (2 ^ 128 ≤ i.a + i.b)) (overflows 128 (signedOf 128 i.a + signedOf 128 i.b))) ∧
  (∀ (s : State) (p : Nat) (o : ImmForm) (i : AluIn),
    immIn (s.pair p) o true = some i →
    Runs s p i.size →
    ∃ t, exec (.cmpi p o) s = .next t ∧ OnlyCore s t p ∧ WritesNone s t p ∧ Past s t p i.size ∧
        Flags s t p (decide (i.a < i.b)) (decide (i.a = i.b)) (bitAt ((i.a + 2 ^ 128 - i.b) % 2 ^ 128) 127)
          (overflows 128 (signedOf 128 i.a - signedOf 128 i.b))) ∧
  (∀ (s : State) (p : Nat) (o : AluForm),
    aluIn (s.pair p) o false false false = none →
    Runs s p (AluForm.size o) →
    exec (.adc p o) s = .next (s.undefinedAt p) ∧ exec (.sbb p o) s = .next (s.undefinedAt p))

/-- R427 to R429, for a pair that issues, in every form: AND, OR, XOR, ANDN, NOT, ANDI and ORI, the shifts and rotate with the
count's low seven bits taken modulo the width, BSWAP, CLZ and POPC write their result zero-extended into rd, set Z and N from it
and clear C and V; TST sets the flags of an AND and writes nothing. Nothing else changes but PC. -/
def Obligations.KeeperLogicShiftsAndCounts : Prop :=
  (∀ (s : State) (p : Nat) (o : AluForm) (i : AluIn),
    aluIn (s.pair p) o true false false = some i →
    Runs s p i.size →
    (∃ t, exec (.and p o) s = .next t ∧ Alu s t p i.w i.rd (i.a &&& i.b) i.size false false) ∧
          (∃ t, exec (.or p o) s = .next t ∧ Alu s t p i.w i.rd (i.a ||| i.b) i.size false false) ∧
          (∃ t, exec (.xor p o) s = .next t ∧ Alu s t p i.w i.rd (i.a ^^^ i.b) i.size false false) ∧
          (∃ t, exec (.shl p o) s = .next t ∧ Alu s t p i.w i.rd (i.a * 2 ^ (i.b % 128 % i.w) % 2 ^ i.w) i.size false false) ∧
          (∃ t, exec (.shr p o) s = .next t ∧ Alu s t p i.w i.rd (i.a / 2 ^ (i.b % 128 % i.w)) i.size false false) ∧
          (∃ t, exec (.sar p o) s = .next t ∧
            Alu s t p i.w i.rd ((signedOf i.w i.a / 2 ^ (i.b % 128 % i.w)) % 2 ^ i.w).toNat i.size false false) ∧
          (∃ t r, exec (.ror p o) s = .next t ∧ Alu s t p i.w i.rd r i.size false false ∧
            ∀ j, j < i.w → bitAt r j = bitAt i.a ((j + i.b % 128) % i.w))) ∧
  (∀ (s : State) (p : Nat) (o : AluForm) (i : AluIn),
    aluIn (s.pair p) o false false false = some i →
    Runs s p i.size →
    ∃ t, exec (.andn p o) s = .next t ∧ Alu s t p i.w i.rd (i.a &&& (2 ^ i.w - 1 - i.b)) i.size false false) ∧
  (∀ (s : State) (p : Nat) (o : AluForm) (i : AluIn),
    aluIn (s.pair p) o false false true = some i →
    Runs s p i.size →
    (∃ t, exec (.bswap p o) s = .next t ∧ Alu s t p i.w i.rd (leNat (natLe (i.w / 8) i.a).reverse) i.size false false) ∧
          (∃ t r, exec (.clz p o) s = .next t ∧ Alu s t p i.w i.rd r i.size false false ∧ r ≤ i.w ∧
            (∀ j, j < i.w → i.w - r ≤ j → bitAt i.a j = false) ∧ (r < i.w → bitAt i.a (i.w - 1 - r) = true)) ∧
          (∃ t, exec (.popc p o) s = .next t ∧
            Alu s t p i.w i.rd ((List.range i.w).filter (fun j => bitAt i.a j)).length i.size false false)) ∧
  (∀ (s : State) (p rd rs : Nat),
    Runs s p 2 →
    (∃ t, exec (.tst p rd rs) s = .next t ∧ OnlyCore s t p ∧ WritesNone s t p ∧ Past s t p 2 ∧
            Flags s t p false ((s.pair p).reg rd &&& (s.pair p).reg rs == 0) ((s.pair p).reg rd &&& (s.pair p).reg rs).msb false) ∧
          (∃ t, exec (.not p rd rs) s = .next t ∧ Alu s t p 128 rd (~~~ (s.pair p).reg rs).toNat 2 false false)) ∧
  (∀ (s : State) (p rd imm : Nat),
    imm < 2 ^ 16 →
    Runs s p 4 →
    (∃ t, exec (.andi p rd imm) s = .next t ∧ Alu s t p 128 rd (((s.pair p).reg rd).toNat &&& imm) 4 false false) ∧
          (∃ t, exec (.ori p rd imm) s = .next t ∧ Alu s t p 128 rd (((s.pair p).reg rd).toNat ||| imm) 4 false false))

/-- R428 and R429, for a pair that issues: MUL and MULH write the low or the unsigned high half of the product at the width, Z and N
follow it; V of MUL is signed overflow at the width (R418); C of both and V of MULH are free values, as the spec states no carry
of a product and no signed overflow of its high half (log entry 1); MOV, MOVI, MOVHI, EXTF and INSF write rd and leave all of
ST; a write of W15 goes to SP of the ring, cut to 32 bits. A field past bit 127 takes vector 5. -/
def Obligations.KeeperProductsMovesAndFields : Prop :=
  (∀ (s : State) (p : Nat) (o : AluForm) (i : AluIn),
    aluIn (s.pair p) o false false false = some i →
    Runs s p i.size →
    (∃ t c, exec (.mul p o) s = .next t ∧ t.freeCtr = s.freeCtr + 1 ∧
            Alu s { t with freeCtr := s.freeCtr } p i.w i.rd (i.a * i.b % 2 ^ i.w) i.size c (overflows i.w (signedOf i.w i.a * signedOf i.w i.b))) ∧
          (∃ t c v, exec (.mulh p o) s = .next t ∧ t.freeCtr = s.freeCtr + 2 ∧
            Alu s { t with freeCtr := s.freeCtr } p i.w i.rd (i.a * i.b / 2 ^ i.w) i.size c v)) ∧
  (∀ (s : State) (p rd rs : Nat),
    Runs s p 2 →
    ∃ t, exec (.mov p rd rs) s = .next t ∧ OnlyCore s t p ∧ Writes s t p rd ((s.pair p).reg rs).toNat ∧
        (t.pair p).st = (s.pair p).st ∧ Past s t p 2) ∧
  (∀ (s : State) (p rd imm : Nat),
    imm < 2 ^ 16 →
    Runs s p 4 →
    (∃ t, exec (.movi p (.ri16 rd imm)) s = .next t ∧ OnlyCore s t p ∧ Writes s t p rd imm ∧ (t.pair p).st = (s.pair p).st ∧ Past s t p 4) ∧
          (∃ t r, exec (.movhi p rd imm) s = .next t ∧ OnlyCore s t p ∧ Writes s t p rd r ∧ (t.pair p).st = (s.pair p).st ∧ Past s t p 4 ∧
            bitsAt r 16 16 = imm ∧ bitsAt r 0 16 = bitsAt ((s.pair p).reg rd).toNat 0 16 ∧ r / 2 ^ 32 = ((s.pair p).reg rd).toNat / 2 ^ 32)) ∧
  (∀ (s : State) (p rd imm : Nat),
    imm < 128 →
    Runs s p 2 →
    ∃ t, exec (.movi p (.ri rd imm)) s = .next t ∧ OnlyCore s t p ∧ Writes s t p rd imm ∧ (t.pair p).st = (s.pair p).st ∧ Past s t p 2) ∧
  (∀ (s : State) (p rd rs pos len : Nat),
    1 ≤ len →
    pos + len ≤ 128 →
    Runs s p 4 →
    (∃ t, exec (.extf p rd rs (pos + 128 * (len - 1))) s = .next t ∧ OnlyCore s t p ∧
            Writes s t p rd (((s.pair p).reg rs).toNat / 2 ^ pos % 2 ^ len) ∧ (t.pair p).st = (s.pair p).st ∧ Past s t p 4) ∧
          (∃ t r, exec (.insf p rd rs (pos + 128 * (len - 1))) s = .next t ∧ OnlyCore s t p ∧ Writes s t p rd r ∧
            (t.pair p).st = (s.pair p).st ∧ Past s t p 4 ∧
            ∀ j, j < 128 → bitAt r j = if pos ≤ j ∧ j < pos + len then bitAt ((s.pair p).reg rs).toNat (j - pos) else bitAt ((s.pair p).reg rd).toNat j)) ∧
  (∀ (s : State) (p rd rs pos len : Nat),
    1 ≤ len →
    pos < 128 →
    len ≤ 128 →
    128 < pos + len →
    Runs s p 4 →
    exec (.extf p rd rs (pos + 128 * (len - 1))) s = .next (s.undefinedAt p) ∧
        exec (.insf p rd rs (pos + 128 * (len - 1))) s = .next (s.undefinedAt p))

namespace Sys2Proof.Claims

/-- The pair's ST is as before. -/
def KeepsSt (s t : State) (p : Nat) : Prop := (t.pair p).st = (s.pair p).st

/-- Outside memory, pair p's W, SP, ST and PC, all is as before; memory holds `bs` at a and every byte outside them as before. -/
def OnlyCoreStores (s t : State) (p a : Nat) (bs : Bytes) : Prop :=
  OnlyCore { s with mem := t.mem } t p ∧ t.mem = memWriteN s.mem a bs ∧
    ∀ c, c < a ∨ a + bs.length ≤ c → memRead t.mem c = memRead s.mem c

/-- The tag of a pair's store, as its request carries it (R414). -/
def storeTag (s : State) (p a : Nat) (bs : Bytes) : BitVec 32 := (s.sendTagged (s.request p 1 (pairSet s p) a bs.length bs (s.servedBy p))).2

/-- The bytes at a read as `bs`. -/
def Holds (t : State) (a : Nat) (bs : Bytes) : Prop := memReadN t.mem a bs.length = bs

end Sys2Proof.Claims

/-- For a pair that issues, in every form: a load of n bytes whose access goes to the core-local window at a writes their
little-endian value zero-extended into rd; a store leaves the low n bytes of its register at a and every other byte as before;
LDL reads the literal at (PC AND NOT 0xF) + 16 disp20 through SG0; PUSH stores at SP - 16 and moves SP there, POP loads at SP
and moves it up by 16. The flags stay and PC moves past the instruction (R420, R421, R428, R431, R432). A load over the fabric
waits, and a reply of the current generations whose tag checks, under the key of either index while both are accepted, completes
it (R200, R414, R415, R453); one of other generations is discarded, one that fails its tag is a tag failure. A store to the
vault goes through its protected memory, one to a place that holds nothing changes nothing (log entry 44). A failed segment
check writes FLT and takes vector 3, or 2 for the stack. `memIn` gives rd, segment, offset, n and the size of the form,
`accessOf` the path. -/
def Obligations.KeeperLoadsAndStores : Prop :=
  (∀ (s : State) (p : Nat) (o : MemForm) (rd seg off n isz a : Nat),
    memIn (s.pair p) o = some (rd, seg, off, n, isz) →
    Runs s p isz →
    accessOf s p seg 0 off n n = .window a →
    ∃ t, exec (.ld p o) s = .next t ∧ OnlyCore s t p ∧ Writes s t p rd (leNat (memReadN s.mem a n)) ∧ KeepsSt s t p ∧ Past s t p isz) ∧
  (∀ (s : State) (p : Nat) (o : MemForm) (rd seg off n isz a : Nat),
    memIn (s.pair p) o = some (rd, seg, off, n, isz) →
    Runs s p isz →
    accessOf s p seg 0 off n n = .fabric a →
    exec (.ld p o) s = .next (s.setPair p { s.pair p with 
          load := some { kind := 0, rd := rd, addr := a, size := n, next := (s.pair p).pc + BitVec.ofNat 32 isz, set := pairSet s p, epoch := s.lay.epoch, req := (s.sendTagged (s.request p 0 (pairSet s p) a n [] (s.servedBy p))).1, tag := (s.sendTagged (s.request p 0 (pairSet s p) a n [] (s.servedBy p))).2 } })) ∧
  (∀ (s : State) (p : Nat) (g : ReplyGen) (tag : BitVec 32) (data : Bytes) (l : FabLoad),
    (s.pair p).load = some l →
    l.kind = 0 →
    isMemory l.addr = true →
    s.fresh (unitAt l.addr) p g = true →
    s.unitResetting (unitAt l.addr) = false →
    s.tagOkEither (l.reply g (memReadN s.mem l.addr l.size)) tag = true →
    ∃ t, exec (.fabricLoadReturn p ⟨g, tag, data⟩) s = .next t ∧ t.wei = { s.wei with retries := t.wei.retries } ∧ (p ≠ 8 → t.wei = s.wei) ∧
        OnlyCore { s with pairs := (s.setPair p { s.pair p with load := none }).pairs, wei := t.wei } t p ∧
        Writes s t p l.rd (leNat (memReadN s.mem l.addr l.size)) ∧ KeepsSt s t p ∧ (t.pair p).pc = l.next) ∧
  (∀ (s : State) (p : Nat) (g : ReplyGen) (tag : BitVec 32) (data : Bytes) (l : FabLoad),
    (s.pair p).load = some l →
    isMemory l.addr = true →
    (s.fresh (unitAt l.addr) p g = false → exec (.fabricLoadReturn p ⟨g, tag, data⟩) s = .next s) ∧
        (s.fresh (unitAt l.addr) p g = true → s.unitResetting (unitAt l.addr) = false → s.tagOkEither (l.reply g (memReadN s.mem l.addr l.size)) tag = false →
          ∃ t, exec (.fabricLoadReturn p ⟨g, tag, data⟩) s = .next t ∧ t.wei.tagFails = s.wei.tagFails + 1 ∧ t.wei.event.flags.getLsbD 5 = true ∧
            (p = 8 → 8 ≤ unitAt l.addr → tabGet s.wei.retries 8 0 < 3 → (t.pair 8).load = some l)) ∧
        (s.fresh (unitAt l.addr) p g = true → s.unitResetting (unitAt l.addr) = true → ∀ v, s.freeBytes l.size = v → s.tagOkEither (l.reply g v.1) tag = true →
          ∃ t, exec (.fabricLoadReturn p ⟨g, tag, data⟩) s = .next t ∧ (t.pair p).load = none ∧ (l.kind = 0 → l.rd < 15 → (t.pair p).reg l.rd = BitVec.ofNat 128 (leNat v.1)))) ∧
  (∀ (s : State) (p : Nat) (o : MemForm) (rd seg off n isz a : Nat),
    memIn (s.pair p) o = some (rd, seg, off, n, isz) →
    Runs s p isz →
    accessOf s p seg 1 off n n = .window a →
    ∃ t, exec (.st p o) s = .next t ∧ OnlyCoreStores s t p a (natLe n ((s.pair p).reg rd).toNat) ∧ WritesNone s t p ∧
        KeepsSt s t p ∧ Past s t p isz ∧ (Memory.wf s.mem = true → Holds t a (natLe n ((s.pair p).reg rd).toNat))) ∧
  (∀ (s : State) (p : Nat) (o : MemForm) (rd seg off n isz a : Nat),
    memIn (s.pair p) o = some (rd, seg, off, n, isz) →
    Runs s p isz →
    accessOf s p seg 1 off n n = .fabric a →
    isMemory a = true →
    ∃ t, exec (.st p o) s = .next t ∧ t.mem = memWriteN s.mem a (natLe n ((s.pair p).reg rd).toNat) ∧
        t = { s with mem := t.mem, pairs := t.pairs } ∧ (∀ q, q ≠ p → t.pair q = s.pair q) ∧
        t.pair p = { s.pair p with pc := (s.pair p).pc + BitVec.ofNat 32 isz, stores := (s.pair p).stores ++ [(a, natLe n ((s.pair p).reg rd).toNat, pairSet s p, s.lay.epoch, storeTag s p a (natLe n ((s.pair p).reg rd).toNat))] }) ∧
  (∀ (s : State) (p : Nat) (o : MemForm) (rd seg off n isz a : Nat),
    memIn (s.pair p) o = some (rd, seg, off, n, isz) →
    Runs s p isz →
    accessOf s p seg 1 off n n = .fabric a →
    isNvm a = true →
    ∃ t, exec (.st p o) s = .next t ∧ t.nvm = nvmWriteN s.nvm a (natLe n ((s.pair p).reg rd).toNat) ∧
        t = { s with nvm := t.nvm, pairs := t.pairs } ∧ (∀ q, q ≠ p → t.pair q = s.pair q) ∧
        t.pair p = { s.pair p with pc := (s.pair p).pc + BitVec.ofNat 32 isz, stores := (s.pair p).stores ++ [(a, natLe n ((s.pair p).reg rd).toNat, pairSet s p, s.lay.epoch, storeTag s p a (natLe n ((s.pair p).reg rd).toNat))] }) ∧
  (∀ (s : State) (p : Nat) (o : MemForm) (rd seg off n isz a : Nat),
    memIn (s.pair p) o = some (rd, seg, off, n, isz) →
    Runs s p isz →
    accessOf s p seg 1 off n n = .fabric a →
    isMemory a = false →
    isNvm a = false →
    (isVault a = true → ∃ t, exec (.st p o) s = .next t ∧ t.vmem = (s.vaultStore a (natLe n ((s.pair p).reg rd).toNat)).vmem ∧
            t = { s with vmem := t.vmem, pairs := t.pairs } ∧ (∀ q, q ≠ p → t.pair q = s.pair q) ∧ (t.pair p).pc = (s.pair p).pc + BitVec.ofNat 32 isz) ∧
          (isVault a = false → 0x800000 ≤ a ∨ regPlace a = none → ∃ t, exec (.st p o) s = .next t ∧ t = { s with pairs := t.pairs } ∧
            (∀ q, q ≠ p → t.pair q = s.pair q) ∧ (t.pair p).pc = (s.pair p).pc + BitVec.ofNat 32 isz)) ∧
  (∀ (s : State) (p : Nat) (o : MemForm) (rd seg off n isz c : Nat),
    memIn (s.pair p) o = some (rd, seg, off, n, isz) →
    Runs s p isz →
    accessOf s p seg 0 off n n = .seg c →
    accessOf s p seg 1 off n n = .seg c →
    exec (.ld p o) s = .next (s.segFault p seg off c false 3) ∧ exec (.st p o) s = .next (s.segFault p seg off c true 3)) ∧
  (∀ (s : State) (p rd disp a : Nat),
    Runs s p 4 →
    accessOf s p 0 2 (((s.pair p).pc.toNat / 16 * 16 + signedOff 20 disp 16) % 2 ^ 32) 16 1 = .window a →
    ∃ t, exec (.ldl p rd disp) s = .next t ∧ OnlyCore s t p ∧ Writes s t p rd (leNat (memReadN s.mem a 16)) ∧ KeepsSt s t p ∧ Past s t p 4) ∧
  (∀ (s : State) (p reg a : Nat),
    Runs s p 2 →
    accessOf s p 2 1 (((s.pair p).spOf (s.pair p).ring + 2 ^ 32 - 16) % 2 ^ 32) 16 16 = .window a →
    ∃ t, exec (.push p reg) s = .next t ∧ OnlyCoreStores s t p a (natLe 16 ((s.pair p).reg reg).toNat) ∧
        Writes s t p 15 (((s.pair p).spOf (s.pair p).ring + 2 ^ 32 - 16) % 2 ^ 32) ∧ KeepsSt s t p ∧ Past s t p 2) ∧
  (∀ (s : State) (p reg a : Nat),
    reg < 15 →
    Runs s p 2 →
    accessOf s p 2 0 ((s.pair p).spOf (s.pair p).ring) 16 16 = .window a →
    ∃ t, exec (.pop p reg) s = .next t ∧ OnlyCore s t p ∧ KeepsSt s t p ∧ Past s t p 2 ∧
        (∀ j, (t.pair p).reg j = if j = reg then BitVec.ofNat 128 (leNat (memReadN s.mem a 16))
          else if j = 15 then BitVec.ofNat 128 (((s.pair p).spOf (s.pair p).ring + 16) % 2 ^ 32) else (s.pair p).reg j)) ∧
  (∀ (s : State) (p reg c : Nat),
    Runs s p 2 →
    accessOf s p 2 1 (((s.pair p).spOf (s.pair p).ring + 2 ^ 32 - 16) % 2 ^ 32) 16 16 = .seg c →
    exec (.push p reg) s = .next (s.segFault p 2 (((s.pair p).spOf (s.pair p).ring + 2 ^ 32 - 16) % 2 ^ 32) c true 2))

/-- For a pair that issues: a short or long JCC goes to the next instruction's offset plus twice its signed displacement when its
condition holds, and past itself when it does not, and changes nothing else; the reserved cond3 takes vector 5; JR goes to bits
31:0 of rs; CALL and CALLR store the offset of the next instruction as a 16-byte element at SP - 16, move SP there and jump; RET
loads the element at SP, moves SP up by 16 and jumps to bits 31:0; NOP passes itself. -/
def Obligations.KeeperJumpsCallsAndReturns : Prop :=
  (∀ (s : State) (p c d : Nat) (b : Bool),
    cond3Holds (s.pair p) c = some b →
    Runs s p 2 →
    exec (.jcc p (.short c d)) s = .next (s.setPair p { s.pair p with
          pc := if b then (s.pair p).pc + 2 + BitVec.ofNat 32 (signedOff 8 d 2) else (s.pair p).pc + 2 })) ∧
  (∀ (s : State) (p c d : Nat),
    Runs s p 4 →
    exec (.jcc p (.long c d)) s = .next (s.setPair p { s.pair p with
          pc := if condHolds (s.pair p) c then (s.pair p).pc + 4 + BitVec.ofNat 32 (signedOff 20 d 2) else (s.pair p).pc + 4 })) ∧
  (∀ (s : State) (p d : Nat),
    Runs s p 2 →
    exec (.jcc p (.short 7 d)) s = .next (s.undefinedAt p) ∧
        exec (.keeperNop p) s = .next (s.setPair p { s.pair p with pc := (s.pair p).pc + 2 })) ∧
  (∀ (s : State) (p rs : Nat),
    Runs s p 4 →
    exec (.jr p rs) s = .next (s.setPair p { s.pair p with pc := BitVec.ofNat 32 (((s.pair p).reg rs).toNat % 2 ^ 32) })) ∧
  (∀ (s : State) (p rs disp a : Nat),
    Runs s p 4 →
    accessOf s p 2 1 (((s.pair p).spOf (s.pair p).ring + 2 ^ 32 - 16) % 2 ^ 32) 16 16 = .window a →
    (∃ t, exec (.call p disp) s = .next t ∧ OnlyCoreStores s t p a (natLe 16 ((s.pair p).pc + 4).toNat) ∧
            Writes s t p 15 (((s.pair p).spOf (s.pair p).ring + 2 ^ 32 - 16) % 2 ^ 32) ∧ KeepsSt s t p ∧
            (t.pair p).pc = (s.pair p).pc + 4 + BitVec.ofNat 32 (signedOff 20 disp 2)) ∧
          (∃ t, exec (.callr p rs) s = .next t ∧ OnlyCoreStores s t p a (natLe 16 ((s.pair p).pc + 4).toNat) ∧
            Writes s t p 15 (((s.pair p).spOf (s.pair p).ring + 2 ^ 32 - 16) % 2 ^ 32) ∧ KeepsSt s t p ∧
            (t.pair p).pc = BitVec.ofNat 32 (((s.pair p).reg rs).toNat % 2 ^ 32))) ∧
  (∀ (s : State) (p a : Nat),
    Runs s p 2 →
    accessOf s p 2 0 ((s.pair p).spOf (s.pair p).ring) 16 16 = .window a →
    ∃ t, exec (.ret p) s = .next t ∧ OnlyCore s t p ∧ KeepsSt s t p ∧
        Writes s t p 15 (((s.pair p).spOf (s.pair p).ring + 16) % 2 ^ 32) ∧
        (t.pair p).pc = BitVec.ofNat 32 (leNat (memReadN s.mem a 16)))

/-- R424, R425 and R455, for a pair that issues whose ring may use the bit's area: BTST copies the bit into BF and sets Z to its
inverse, BRD writes it zero-extended into Wd; on bit RAM BSET, BCLR and BNOT write 1, 0 or the inverse, BTAS copies the bit into
BF and sets it, BWR writes bit 0 of Wd, and every other bit of the byte and every other byte stay; on a pending bit of an
interrupt BSET clears it unless a set arrives during the clear, and BCLR leaves it; BNOT and BTAS of a mapped bit, and a ring
above 1 outside the shared part, write FLT and take vector 7. -/
def Obligations.KeeperBitInstructions : Prop :=
  (∀ (s : State) (p b rd : Nat),
    Runs s p 4 →
    bitAllowed (s.pair p).ring b = true →
    (∃ t, exec (.btst p b) s = .next t ∧ OnlyCore s t p ∧ WritesNone s t p ∧ Past s t p 4 ∧
            (∀ j, j < 32 → (t.pair p).st.getLsbD j = if j = 4 then readBit s p b else if j = 1 then !readBit s p b else (s.pair p).st.getLsbD j)) ∧
          (∃ t, exec (.brd p rd b) s = .next t ∧ OnlyCore s t p ∧ Writes s t p rd (bitNat (readBit s p b)) ∧ KeepsSt s t p ∧ Past s t p 4)) ∧
  (∀ (s : State) (p b rd : Nat) (arrived : Nat),
    Runs s p 4 →
    bitAllowed (s.pair p).ring b = true →
    b < 0x8000 →
    Memory.wf s.mem = true →
    (∃ t, exec (.bset p b arrived) s = .next t ∧ OnlyCore { s with mem := t.mem } t p ∧ WritesNone s t p ∧ KeepsSt s t p ∧ Past s t p 4 ∧
            t.mem = memWrite s.mem (bitByte p b) (memRead s.mem (bitByte p b) ||| BitVec.ofNat 8 (2 ^ (b % 8))) ∧ readBit t p b = true) ∧
          (∃ t, exec (.bclr p b) s = .next t ∧ OnlyCore { s with mem := t.mem } t p ∧ WritesNone s t p ∧ KeepsSt s t p ∧ Past s t p 4 ∧
            t.mem = memWrite s.mem (bitByte p b) (memRead s.mem (bitByte p b) &&& ~~~ BitVec.ofNat 8 (2 ^ (b % 8))) ∧ readBit t p b = false) ∧
          (∃ t v, exec (.bnot p b) s = .next t ∧ OnlyCore { s with mem := t.mem } t p ∧ WritesNone s t p ∧ KeepsSt s t p ∧ Past s t p 4 ∧
            t.mem = memWrite s.mem (bitByte p b) v ∧ readBit t p b = !readBit s p b) ∧
          (∃ t, exec (.btas p b) s = .next t ∧ OnlyCore { s with mem := t.mem } t p ∧ WritesNone s t p ∧ Past s t p 4 ∧
            t.mem = memWrite s.mem (bitByte p b) (memRead s.mem (bitByte p b) ||| BitVec.ofNat 8 (2 ^ (b % 8))) ∧
            (∀ j, j < 32 → (t.pair p).st.getLsbD j = if j = 4 then readBit s p b else (s.pair p).st.getLsbD j)) ∧
          (∃ t v, exec (.bwr p rd b arrived) s = .next t ∧ OnlyCore { s with mem := t.mem } t p ∧ WritesNone s t p ∧ KeepsSt s t p ∧ Past s t p 4 ∧
            t.mem = memWrite s.mem (bitByte p b) v ∧ readBit t p b = ((s.pair p).reg rd).getLsbD 0)) ∧
  (∀ (s : State) (p i : Nat) (arrived : Nat),
    Runs s p 4 →
    (s.pair p).ring ≤ 1 →
    i < irqSources p →
    (∃ t, exec (.bset p (0x8200 + i) arrived) s = .next t ∧ readBit t p (0x8200 + i) = (arrived != 0) ∧
            t = { s with pairs := t.pairs } ∧ (∀ q, q ≠ p → t.pair q = s.pair q) ∧
            t.pair p = { s.pair p with pc := (s.pair p).pc + 4, pend := (t.pair p).pend, intCount := tabSet (s.pair p).intCount i (min 0xFF arrived) }) ∧
          exec (.bclr p (0x8200 + i)) s = .next (s.setPair p { s.pair p with pc := (s.pair p).pc + 4 })) ∧
  (∀ (s : State) (p b : Nat),
    Runs s p 4 →
    (s.pair p).ring ≤ 1 →
    0x8000 ≤ b →
    exec (.bnot p b) s = .next (s.bitFault p b true) ∧ exec (.btas p b) s = .next (s.bitFault p b true)) ∧
  (∀ (s : State) (p b : Nat),
    Runs s p 4 →
    2 ≤ (s.pair p).ring →
    (b < 0x4000 ∨ 0x8000 ≤ b) →
    exec (.btst p b) s = .next (s.bitFault p b false) ∧ exec (.bclr p b) s = .next (s.bitFault p b true))

namespace Sys2Proof.Claims

/-- Pair p after the first 128-bit element of a block instruction's run: the pointers moved by 16 and RC less one; a source that becomes pending
during that element is pending (R434). -/
abbrev elemDone (s : State) (p : Nat) (ptrs : List Nat) (o : BlkForm) : State := (s.stepPtrs p ptrs o.dir).arriveIn p 0 o.irq

/-- The same instruction from the next element on: a source that becomes pending later is one element nearer. -/
abbrev goesOn (o : BlkForm) : BlkForm := { o with irq := match o.irq with | some (i, n + 1) => some (i, n) | _ => none }

/-- A frame's place is one whose bytes the state holds in the clear: the core-local window, or a memory over the fabric. -/
abbrev FramePlace (p a : Nat) : Prop := inWindow p a = true ∨ isMemory a = true

end Sys2Proof.Claims

/-- R433 to R435, for a pair that issues, over the core-local path: with RC 0 a block instruction passes itself, BCMP setting Z and
BSEEK clearing it; each element of BCOPY, BFILL, BXOR and BZERO writes its 16 bytes and steps the pointers by 16 (down when dir
is set) and RC by one; while RC stays above 0 and no vector is takeable, what follows is the same instruction on the state after
the element; a vector that is takeable then, be it of a source that became pending during the element, ends the run there with
PC still at the instruction and, for BCMP and BSEEK, Z written back; BCMP ends at a difference with Z clear and BSEEK at a match
with Z set, past that element; fields that the func does not use, or registers that are not distinct or W15, take vector 5; an
element whose check fails takes vector 3 with nothing performed and Z as it was. -/
def Obligations.KeeperBlockInstructions : Prop :=
  (∀ (s : State) (p : Nat) (o v z : BlkForm),
    Runs s p 4 →
    (s.pair p).rc = 0 →
    blkTwo o = true →
    blkVal v = true →
    blkOne z = true →
    exec (.bcopy p o) s = .next (s.setPair p ((s.pair p).past 4)) ∧ exec (.bxor p o) s = .next (s.setPair p ((s.pair p).past 4)) ∧
        exec (.bfill p v) s = .next (s.setPair p ((s.pair p).past 4)) ∧ exec (.bzero p z) s = .next (s.setPair p ((s.pair p).past 4)) ∧
        exec (.bcmp p o) s = .next (s.setPair p ({ s.pair p with st := putBit (s.pair p).st 1 true }.past 4)) ∧
        exec (.bseek p v) s = .next (s.setPair p ({ s.pair p with st := putBit (s.pair p).st 1 false }.past 4))) ∧
  (∀ (s u : State) (p a b : Nat) (o : BlkForm),
    Runs s p 4 →
    blkTwo o = true →
    0 < (s.pair p).rc.toNat →
    accessOf s p o.segS 0 (ptr s p o.pS) 16 16 = .window a →
    accessOf s p o.segD 1 (ptr s p o.pD) 16 16 = .window b →
    u = elemDone { s with mem := memWriteN s.mem b (memReadN s.mem a 16) } p [o.pS, o.pD] o →
    ((s.pair p).rc = 1 → exec (.bcopy p o) s = .next (u.setPair p ((u.pair p).past 4))) ∧
        ((s.pair p).rc ≠ 1 → takeable (u.pair p) = none → exec (.bcopy p o) s = exec (.bcopy p (goesOn o)) u) ∧
        ((s.pair p).rc ≠ 1 → takeable (u.pair p) ≠ none → exec (.bcopy p o) s = .next u)) ∧
  (∀ (s u x : State) (p b : Nat) (v z : BlkForm),
    Runs s p 4 →
    blkVal v = true →
    blkOne z = true →
    v.segD = z.segD →
    v.pD = z.pD →
    v.dir = z.dir →
    v.irq = z.irq →
    0 < (s.pair p).rc.toNat →
    accessOf s p v.segD 1 (ptr s p v.pD) 16 16 = .window b →
    u = elemDone { s with mem := memWriteN s.mem b (natLe 16 ((s.pair p).reg v.pV).toNat) } p [v.pD] v →
    x = elemDone { s with mem := memWriteN s.mem b (List.replicate 16 0) } p [z.pD] z →
    ((s.pair p).rc = 1 → exec (.bfill p v) s = .next (u.setPair p ((u.pair p).past 4)) ∧
            exec (.bzero p z) s = .next (x.setPair p ((x.pair p).past 4))) ∧
        ((s.pair p).rc ≠ 1 → takeable (u.pair p) = none → exec (.bfill p v) s = exec (.bfill p (goesOn v)) u ∧ exec (.bzero p z) s = exec (.bzero p (goesOn z)) x) ∧
        ((s.pair p).rc ≠ 1 → takeable (u.pair p) ≠ none → exec (.bfill p v) s = .next u ∧ exec (.bzero p z) s = .next x)) ∧
  (∀ (s u : State) (p a b : Nat) (o : BlkForm),
    Runs s p 4 →
    blkTwo o = true →
    0 < (s.pair p).rc.toNat →
    accessOf s p o.segS 0 (ptr s p o.pS) 16 16 = .window a →
    accessOf s p o.segD 0 (ptr s p o.pD) 16 16 = .window b →
    accessOf s p o.segD 1 (ptr s p o.pD) 16 16 = .window b →
    u = elemDone { s with mem := memWriteN s.mem b (xorBytes (memReadN s.mem b 16) (memReadN s.mem a 16)) } p [o.pS, o.pD] o →
    ((s.pair p).rc = 1 → exec (.bxor p o) s = .next (u.setPair p ((u.pair p).past 4))) ∧
        ((s.pair p).rc ≠ 1 → takeable (u.pair p) = none → exec (.bxor p o) s = exec (.bxor p (goesOn o)) u) ∧
        ((s.pair p).rc ≠ 1 → takeable (u.pair p) ≠ none → exec (.bxor p o) s = .next u)) ∧
  (∀ (s u : State) (p a b : Nat) (o : BlkForm),
    Runs s p 4 →
    blkTwo o = true →
    0 < (s.pair p).rc.toNat →
    accessOf s p o.segS 0 (ptr s p o.pS) 16 16 = .window a →
    accessOf s p o.segD 0 (ptr s p o.pD) 16 16 = .window b →
    u = elemDone s p [o.pS, o.pD] o →
    (memReadN s.mem a 16 ≠ memReadN s.mem b 16 → exec (.bcmp p o) s = .next ((u.setZ p false).setPair p (((u.setZ p false).pair p).past 4))) ∧
        ((s.pair p).rc = 1 → memReadN s.mem a 16 = memReadN s.mem b 16 → exec (.bcmp p o) s = .next ((u.setZ p true).setPair p (((u.setZ p true).pair p).past 4))) ∧
        ((s.pair p).rc ≠ 1 → memReadN s.mem a 16 = memReadN s.mem b 16 → takeable (u.pair p) = none → exec (.bcmp p o) s = exec (.bcmp p (goesOn o)) u) ∧
        ((s.pair p).rc ≠ 1 → memReadN s.mem a 16 = memReadN s.mem b 16 → takeable (u.pair p) ≠ none → exec (.bcmp p o) s = .next (u.setZ p true))) ∧
  (∀ (s u : State) (p b : Nat) (v : BlkForm),
    Runs s p 4 →
    blkVal v = true →
    0 < (s.pair p).rc.toNat →
    accessOf s p v.segD 0 (ptr s p v.pD) 16 16 = .window b →
    u = elemDone s p [v.pD] v →
    (memReadN s.mem b 16 = natLe 16 ((s.pair p).reg v.pV).toNat → exec (.bseek p v) s = .next ((u.setZ p true).setPair p (((u.setZ p true).pair p).past 4))) ∧
        ((s.pair p).rc = 1 → memReadN s.mem b 16 ≠ natLe 16 ((s.pair p).reg v.pV).toNat →
          exec (.bseek p v) s = .next ((u.setZ p false).setPair p (((u.setZ p false).pair p).past 4))) ∧
        ((s.pair p).rc ≠ 1 → memReadN s.mem b 16 ≠ natLe 16 ((s.pair p).reg v.pV).toNat → takeable (u.pair p) = none →
          exec (.bseek p v) s = exec (.bseek p (goesOn v)) u) ∧
        ((s.pair p).rc ≠ 1 → memReadN s.mem b 16 ≠ natLe 16 ((s.pair p).reg v.pV).toNat → takeable (u.pair p) ≠ none →
          exec (.bseek p v) s = .next (u.setZ p false))) ∧
  (∀ (s : State) (p c : Nat) (o : BlkForm),
    Runs s p 4 →
    0 < (s.pair p).rc.toNat →
    blkTwo o = true →
    accessOf s p o.segS 0 (ptr s p o.pS) 16 16 = .seg c →
    exec (.bcopy p o) s = .next (s.segFault p o.segS (ptr s p o.pS) c false 3) ∧ exec (.bcmp p o) s = .next (s.segFault p o.segS (ptr s p o.pS) c false 3) ∧
        exec (.bxor p o) s = .next (s.segFault p o.segS (ptr s p o.pS) c false 3)) ∧
  (∀ (s : State) (p : Nat) (o : BlkForm),
    Runs s p 4 →
    blkTwo o = false →
    exec (.bcopy p o) s = .next (s.undefinedAt p) ∧ exec (.bcmp p o) s = .next (s.undefinedAt p) ∧ exec (.bxor p o) s = .next (s.undefinedAt p))

/-- For a pair that issues: MOVSG at ring 0 loads a segment register from a descriptor whose reserved bits and BASE bits 3:0 are
zero, takes vector 5 for another, and vector 6 above ring 0; MOVGS reads one at any ring; MOVSR writes C, Z, N, V and BF of ST,
and IE at ring 0 only, or RC, or at ring 0 an SP, and takes vector 5 for FLT and PC; MOVRS reads every special register; RND
gives 128 bits of the pair's pool with BF set while ENT_READY, else zero with BF clear; FENCE passes at once without
unacknowledged fabric stores, else waits, and its completion passes it; WAIT at ring 0 waits until a vector is takeable or an
enabled source is pending with IE clear, and vector 6 is taken above ring 0. -/
def Obligations.KeeperSpecialRegistersFencesAndWaits : Prop :=
  (∀ (s : State) (p sr rs rd : Nat),
    Runs s p 4 →
    sr < 8 →
    (s.pair p).ring = 0 →
    ((s.pair p).reg rs).toNat % 16 = 0 →
    ((s.pair p).reg rs).toNat &&& descMask = ((s.pair p).reg rs).toNat →
    exec (.movsg p sr rs) s = .next (s.setPair p { s.pair p with
          sg := tabSet (s.pair p).sg sr ((s.pair p).reg rs), pc := (s.pair p).pc + 4 }) ∧
        ∃ t, exec (.movgs p rd sr) s = .next t ∧ OnlyCore s t p ∧ Writes s t p rd (tabGet (s.pair p).sg sr 0).toNat ∧ KeepsSt s t p ∧ Past s t p 4) ∧
  (∀ (s : State) (p sr rs : Nat),
    Runs s p 4 →
    sr < 8 →
    ((s.pair p).ring ≠ 0 → exec (.movsg p sr rs) s = .next (s.take p 6 0) ∧ exec (.wait p) s = .next (s.take p 6 0) ∧
            exec (.movsr p 4 rs) s = .next (s.take p 6 0)) ∧
        ((s.pair p).ring = 0 → ((s.pair p).reg rs).toNat % 16 ≠ 0 → exec (.movsg p sr rs) s = .next (s.undefinedAt p)) ∧
        exec (.movsr p 2 rs) s = .next (s.undefinedAt p) ∧ exec (.movsr p 7 rs) s = .next (s.undefinedAt p)) ∧
  (∀ (s : State) (p rs : Nat),
    Runs s p 4 →
    (∃ t, exec (.movsr p 0 rs) s = .next t ∧ OnlyCore s t p ∧ WritesNone s t p ∧ Past s t p 4 ∧
            ∀ j, j < 32 → (t.pair p).st.getLsbD j =
              if j < 5 ∨ (j = 5 ∧ (s.pair p).ring = 0) then ((s.pair p).reg rs).getLsbD j else (s.pair p).st.getLsbD j) ∧
        exec (.movsr p 1 rs) s = .next (s.setPair p { s.pair p with
          rc := BitVec.ofNat 32 (((s.pair p).reg rs).toNat % 2 ^ 32), pc := (s.pair p).pc + 4 }) ∧
        ∀ r, r < 4 → (s.pair p).ring = 0 → exec (.movsr p (3 + r) rs) s = .next (s.setPair p { s.pair p with
          sp := tabSet (s.pair p).sp r (BitVec.ofNat 32 (((s.pair p).reg rs).toNat % 2 ^ 32)), pc := (s.pair p).pc + 4 })) ∧
  (∀ (s : State) (p rd sr v : Nat),
    Runs s p 4 →
    specialOf (s.pair p) sr = some v →
    ∃ t, exec (.movrs p rd sr) s = .next t ∧ OnlyCore s t p ∧ Writes s t p rd v ∧ KeepsSt s t p ∧ Past s t p 4) ∧
  (∀ (s : State) (p rd : Nat),
    Runs s p 4 →
    (entReady s p = true → ∃ t, exec (.rnd p rd) s = .next t ∧ OnlyCore { s with spg := t.spg } t p ∧
            Writes s t p rd (leNat ((s.drbg p).pool.take 16)) ∧ (t.pair p).bf = true ∧ t.drbg p = { s.drbg p with pool := (s.drbg p).pool.drop 16 } ∧
            Past s t p 4) ∧
        (entReady s p = false → ∃ t, exec (.rnd p rd) s = .next t ∧ OnlyCore s t p ∧ Writes s t p rd 0 ∧ (t.pair p).bf = false ∧ Past s t p 4)) ∧
  (∀ (s : State) (p : Nat),
    Runs s p 4 →
    ((s.pair p).stores = [] → exec (.fence p) s = .next (s.setPair p { s.pair p with pc := (s.pair p).pc + 4 })) ∧
        ((s.pair p).stores ≠ [] → exec (.fence p) s = .next (s.setPair p { s.pair p with fencing := true })) ∧
        ((s.pair p).ring = 0 → exec (.wait p) s = .next (s.setPair p { s.pair p with waiting := !wakes (s.pair p), pc := (s.pair p).pc + 4 }))) ∧
  (∀ (s : State) (p : Nat),
    (s.pair p).fencing = true →
    exec (.fenceComplete p) s = .next (s.setPair p { s.pair p with stores := [], fencing := false, pc := (s.pair p).pc + 4 })) ∧
  (∀ (s : State) (p : Nat),
    (s.pair p).waiting = true →
    exec (.waitWake p) s = .next (if wakes (s.pair p) then s.setPair p { s.pair p with waiting := false } else s))

/-- R446 and R447: with REFUGE_DEPTH 0 and a frame push at SP0 - 32 that passes its check under ring-table entry 0, an undefined
instruction takes vector 5, and a takeable vector is entered at an instruction boundary: the 32 bytes of the frame stand at SP0
- 32 with the saved PC, ST, SP0, the vector, KIND 1, RC and DETAIL; SP0 is less 32, SG0 and SG2 are entry 0's, RING is 0 and IE
clear with the other bits of ST as before, and PC is vector times 0x20. Every other byte of memory, W register and SP is as
before. After a reset vector 0 is entered without a frame. R448: when the push fails its check, the frame stands at 0xE0 of the
Refuge stack with REFUGE set, SP0 is 0xE0, the depth 1 and PC vector 2's, with the vector in DETAIL; above depth 0 each
exception goes there at SP0 - 32 and to its own vector. A frame may lie in the core-local window or in a memory over the fabric
(log entry 45). -/
def Obligations.KeeperExceptionEntryFrames : Prop :=
  (∀ (s : State) (p sp a : Nat),
    Runs s p 2 →
    (s.pair p).refugeDepth = 0 →
    sp = ((s.pair p).spOf 0 + 2 ^ 32 - 32) % 2 ^ 32 →
    s.frameCause p (ringStack (s.pair p) p 0).toNat 1 0 sp = 0 →
    a = linear (ringStack (s.pair p) p 0).toNat sp →
    FramePlace p a →
    ∃ t, exec (.undefinedInstruction p) s = .next t ∧
        t.mem = memWriteN s.mem a (frameBytes (s.pair p).pc.toNat (s.pair p).st.toNat ((s.pair p).spOf 0) 5 true false (s.pair p).rc.toNat 0) ∧
        (∀ c, c < a ∨ a + 32 ≤ c → memRead t.mem c = memRead s.mem c) ∧
        (t.pair p).pc = 0xA0 ∧ (t.pair p).spOf 0 = sp ∧ (∀ r, r ≠ 0 → (t.pair p).spOf r = (s.pair p).spOf r) ∧ (t.pair p).w = (s.pair p).w ∧
        tabGet (t.pair p).sg 0 0 = ringCode (s.pair p) p 0 ∧ tabGet (t.pair p).sg 2 0 = ringStack (s.pair p) p 0 ∧
        (∀ j, j < 32 → (t.pair p).st.getLsbD j = (!(j == 5 || j == 6 || j == 7) && (s.pair p).st.getLsbD j)) ∧
        t = { s with mem := t.mem, pairs := t.pairs } ∧ (∀ q, q ≠ p → t.pair q = s.pair q)) ∧
  (∀ (s : State) (p sp : Nat),
    Runs s p 2 →
    (s.pair p).refugeDepth < 8 →
    sp = ((s.pair p).spOf 0 + 2 ^ 32 - 32) % 2 ^ 32 →
    ((s.pair p).refugeDepth = 0 → s.frameCause p (ringStack (s.pair p) p 0).toNat 1 0 sp ≠ 0 → ∃ t, exec (.undefinedInstruction p) s = .next t ∧
            t.mem = memWriteN s.mem (windowBase p + 0xFEFE0) (frameBytes (s.pair p).pc.toNat (s.pair p).st.toNat ((s.pair p).spOf 0) 2 true true (s.pair p).rc.toNat 5) ∧
            (t.pair p).pc = 0x40 ∧ (t.pair p).spOf 0 = 0xE0 ∧ (t.pair p).refugeDepth = 1 ∧ tabGet (t.pair p).sg 2 0 = refugeDesc p ∧
            (t.pair p).w = (s.pair p).w ∧ t = { s with mem := t.mem, pairs := t.pairs }) ∧
        (0 < (s.pair p).refugeDepth → sp < 0x100 → ∃ t, exec (.undefinedInstruction p) s = .next t ∧
            t.mem = memWriteN s.mem (windowBase p + 0xFEF00 + sp) (frameBytes (s.pair p).pc.toNat (s.pair p).st.toNat ((s.pair p).spOf 0) 5 true true (s.pair p).rc.toNat 0) ∧
            (t.pair p).pc = 0xA0 ∧ (t.pair p).spOf 0 = sp ∧ (t.pair p).refugeDepth = (s.pair p).refugeDepth + 1 ∧ tabGet (t.pair p).sg 2 0 = refugeDesc p ∧
            (t.pair p).w = (s.pair p).w ∧ t = { s with mem := t.mem, pairs := t.pairs })) ∧
  (∀ (s : State) (p v sp a : Nat),
    p ≤ 8 →
    (s.pair p).halted = false →
    (s.pair p).resetVector = false →
    takeable (s.pair p) = some v →
    (s.pair p).refugeDepth = 0 →
    sp = ((s.pair p).spOf 0 + 2 ^ 32 - 32) % 2 ^ 32 →
    s.frameCause p (ringStack (s.pair p) p 0).toNat 1 0 sp = 0 →
    a = linear (ringStack (s.pair p) p 0).toNat sp →
    FramePlace p a →
    ∃ t, exec (.interruptEntry p) s = .next t ∧
        t.mem = memWriteN s.mem a (frameBytes (s.pair p).pc.toNat (s.pair p).st.toNat ((s.pair p).spOf 0) v true false (s.pair p).rc.toNat
          (if v = 1 then (s.pair p).notice.getD 0 else 0)) ∧
        (t.pair p).notice = (if v = 1 then none else (s.pair p).notice) ∧ (t.pair p).wdogExpired = ((s.pair p).wdogExpired && v != 9) ∧
        (t.pair p).pc = BitVec.ofNat 32 (0x20 * v) ∧ (t.pair p).spOf 0 = sp ∧ (t.pair p).w = (s.pair p).w ∧ (t.pair p).pend = (s.pair p).pend ∧
        (t.pair p).load = none ∧ (t.pair p).fencing = false ∧ t = { s with mem := t.mem, pairs := t.pairs }) ∧
  (∀ (s : State) (p : Nat),
    p ≤ 8 →
    (s.pair p).halted = false →
    (s.pair p).resetVector = true →
    exec (.interruptEntry p) s = .next (s.setPair p { s.pair p with
          sg := tabSet (tabSet (s.pair p).sg 0 (ringCode (s.pair p) p 0)) 2 (ringStack (s.pair p) p 0), pc := 0, st := 0,
          resetVector := false, lastVector := 0 }))

/-- R443: a CALLG whose gate entry passes its checks, and whose frame push on the entered ring's stack passes, stores the frame with
KIND 0, moves that ring's SP down 32, loads SG0 and SG2 of the ring, sets RING and goes to TARGET; a gate index not below COUNT
takes vector 8 with cause 1, and a frame push that fails takes vector 2 on the empty Refuge stack. R444: a RETG whose frame
reads with no reserved bit and a ring not below the current one restores SP, ST (the present IE kept above ring 0), RC for an
exception's frame, SG0, SG2 and PC; a reserved bit takes vector 8 with cause 6, a lower ring with cause 5. R448: at ring 0 above
depth 0 it pops from the Refuge stack, counts the depth down and loads SG2 only when it reaches 0. The watchdog expires once
PERIOD_US after the latest kick and a kick at ring 0 restarts it; a timer whose instant has come disarms and sets its pending
bit (19). -/
def Obligations.KeeperGatesReturnsAndTimers : Prop :=
  (∀ (s : State) (p i g r sp a : Nat),
    Runs s p 4 →
    gateCause s p i = 0 →
    gateEntry s p i = some g →
    r = bitsAt g 32 2 →
    sp = ((s.pair p).spOf r + 2 ^ 32 - 32) % 2 ^ 32 →
    s.frameCause p (ringStack (s.pair p) p r).toNat 1 r sp = 0 →
    a = linear (ringStack (s.pair p) p r).toNat sp →
    FramePlace p a →
    ∃ t, exec (.callg p i) s = .next t ∧
        t.mem = memWriteN s.mem a (frameBytes ((s.pair p).pc.toNat + 4) (s.pair p).st.toNat ((s.pair p).spOf r) 0 false false (s.pair p).rc.toNat 0) ∧
        (t.pair p).pc = BitVec.ofNat 32 (bitsAt g 0 32) ∧ (t.pair p).ring = r ∧ (t.pair p).spOf r = sp ∧ (t.pair p).w = (s.pair p).w ∧
        tabGet (t.pair p).sg 0 0 = ringCode (s.pair p) p r ∧ tabGet (t.pair p).sg 2 0 = ringStack (s.pair p) p r ∧
        (∀ j, j < 32 → j ≠ 6 → j ≠ 7 → (t.pair p).st.getLsbD j = (s.pair p).st.getLsbD j) ∧ t = { s with mem := t.mem, pairs := t.pairs }) ∧
  (∀ (s : State) (p i g r : Nat),
    Runs s p 4 →
    gateCause s p i = 0 →
    gateEntry s p i = some g →
    r = bitsAt g 32 2 →
    s.frameCause p (ringStack (s.pair p) p r).toNat 1 r (((s.pair p).spOf r + 2 ^ 32 - 32) % 2 ^ 32) ≠ 0 →
    (s.pair p).refugeDepth = 0 →
    ∃ t, exec (.callg p i) s = .next t ∧
        t.mem = memWriteN s.mem (windowBase p + 0xFEFE0) (frameBytes (s.pair p).pc.toNat (s.pair p).st.toNat ((s.pair p).spOf 0) 2 true true (s.pair p).rc.toNat 0) ∧
        (t.pair p).pc = 0x40 ∧ (t.pair p).ring = 0 ∧ (t.pair p).spOf 0 = 0xE0 ∧ (t.pair p).refugeDepth = 1 ∧ tabGet (t.pair p).sg 2 0 = refugeDesc p ∧
        (t.pair p).w = (s.pair p).w ∧ t = { s with mem := t.mem, pairs := t.pairs }) ∧
  (∀ (s : State) (p i : Nat),
    Runs s p 4 →
    i < 4096 →
    bitsAt (s.pair p).gate.toNat 32 13 ≤ i →
    exec (.callg p i) s = .next (s.take p 8 (i + 4096))) ∧
  (∀ (s : State) (p : Nat) (f : Bytes),
    Runs s p 4 →
    ((s.pair p).ring ≠ 0 ∨ (s.pair p).refugeDepth = 0) →
    s.frameCause p ((s.pair p).seg 2) 0 (s.pair p).ring ((s.pair p).spOf (s.pair p).ring) = 0 →
    FramePlace p (linear ((s.pair p).seg 2) ((s.pair p).spOf (s.pair p).ring)) →
    f = memReadN s.mem (linear ((s.pair p).seg 2) ((s.pair p).spOf (s.pair p).ring)) 32 →
    (256 ≤ field f 4 4 → exec (.retg p) s = .next (s.take p 8 (6 * 4096))) ∧
        (field f 4 4 < 256 → bitsAt (field f 4 4) 6 2 < (s.pair p).ring → exec (.retg p) s = .next (s.take p 8 (5 * 4096))) ∧
        (field f 4 4 < 256 → (s.pair p).ring ≤ bitsAt (field f 4 4) 6 2 → ∃ t, exec (.retg p) s = .next t ∧
          (t.pair p).pc = BitVec.ofNat 32 (field f 0 4) ∧ (t.pair p).spOf (s.pair p).ring = field f 8 4 ∧
          (t.pair p).rc = (if bitAt (field f 12 4) 6 then BitVec.ofNat 32 (field f 16 4) else (s.pair p).rc) ∧
          (t.pair p).ie = (if (s.pair p).ring = 0 then bitAt (field f 4 4) 5 else (s.pair p).ie) ∧
          (t.pair p).ring = bitsAt (field f 4 4) 6 2 ∧ (t.pair p).w = (s.pair p).w ∧ (t.pair p).refugeDepth = (s.pair p).refugeDepth ∧
          tabGet (t.pair p).sg 0 0 = ringCode (s.pair p) p (bitsAt (field f 4 4) 6 2) ∧
          tabGet (t.pair p).sg 2 0 = ringStack (s.pair p) p (bitsAt (field f 4 4) 6 2) ∧ t = { s with pairs := t.pairs })) ∧
  (∀ (s : State) (p : Nat) (f : Bytes),
    Runs s p 4 →
    (s.pair p).ring = 0 →
    0 < (s.pair p).refugeDepth →
    s.frameCause p (refugeDesc p).toNat 0 0 ((s.pair p).spOf 0) = 0 →
    f = memReadN s.mem (windowBase p + 0xFEF00 + (s.pair p).spOf 0) 32 →
    field f 4 4 < 256 →
    ∃ t, exec (.retg p) s = .next t ∧ (t.pair p).pc = BitVec.ofNat 32 (field f 0 4) ∧ (t.pair p).spOf 0 = field f 8 4 ∧
        (t.pair p).refugeDepth = (s.pair p).refugeDepth - 1 ∧ (t.pair p).ring = bitsAt (field f 4 4) 6 2 ∧
        tabGet (t.pair p).sg 0 0 = ringCode (s.pair p) p (bitsAt (field f 4 4) 6 2) ∧
        tabGet (t.pair p).sg 2 0 = (if (s.pair p).refugeDepth = 1 then ringStack (s.pair p) p (bitsAt (field f 4 4) 6 2) else tabGet (s.pair p).sg 2 0) ∧
        t = { s with pairs := t.pairs }) ∧
  (∀ (s : State) (p : Nat),
    p ≤ 8 →
    ((s.pair p).wdogPeriod ≠ 0 → (s.pair p).wdogSpent = false → (s.pair p).wdogKick + 1000 * (s.pair p).wdogPeriod ≤ s.tbs.now →
            exec (.watchdogExpiry p) s = .next (s.setPair p { s.pair p with wdogExpired := true, wdogSpent := true })) ∧
        ((s.pair p).ring = 0 → exec (.watchdogKick p) s = .next (s.setPair p { s.pair p with
          wdogKick := s.tbs.now, wdogExpired := false, wdogSpent := false })) ∧
        (∀ k instant, k < 2 → tabGet (s.pair p).timers k (0, false) = (instant, true) → instant ≤ s.tbs.now → s.tbs.now < instant + 2 ^ 47 → instant < 2 ^ 48 →
          ∃ t, exec (.timerFire p k) s = .next t ∧ t = { s with pairs := t.pairs } ∧ tabGet (t.pair p).timers k (0, false) = (instant, false) ∧
            (t.pair p).pend.getLsbD (5 + k) = true))

/-- R459 to R463: a window whose longest run and proportion count stay below the cutoffs (61 and 814 for A, 39 and 685 for B) is no
failure: a start-up window that passes begins seeding and feeds nothing; one that reaches a cutoff is a failure: A_FAIL or
B_FAIL sets and the source settles for 100 us before a start-up window, and no block is conditioned; with two failures in the
last second before, it is excluded. The settle ends at its instant and not before; an excluded source rejoins after 1 s without
a failure; the estimates of the latest samples are kept, with DRIFT (bit 6) when one exceeds 0.0625 (2,048 in Q1.15), and change
nothing else. -/
def Obligations.SpringSourceTestsAndExclusion : Prop :=
  (∀ (s : State) (b : Bool) (bias l1 l2 l3 : Int),
    (bias.natAbs ≤ 2048 → l1.natAbs ≤ 2048 → l2.natAbs ≤ 2048 → l3.natAbs ≤ 2048 →
            exec (.sourceBlock b bias l1 l2 l3) s = .next (s.setSrc b { s.src b with bias := bias, lag1 := l1, lag2 := l2, lag3 := l3 })) ∧
          (2048 < bias.natAbs → ∃ t, exec (.sourceBlock b bias l1 l2 l3) s = .next t ∧ (t.src b).bias = bias ∧ t.spg.event = s.spg.event.set 6 ∧
            (t.src b).st = (s.src b).st ∧ t.spg.buffer = s.spg.buffer)) ∧
  (∀ (s : State) (b : Bool) (rct apt : Nat) (blocks : List Bytes),
    (s.src b).settle = none →
    rct < (if b then 39 else 61) →
    apt < (if b then 685 else 814) →
    (s.src b).startWin = true →
    ∃ t, exec (.sourceWindow b rct apt blocks) s = .next t ∧ (t.src b).startWin = false ∧
        (t.src b).st = (if (s.src b).st = 3 then 3 else 1) ∧ (t.src (!b)) = s.src (!b) ∧ t.spg.buffer = s.spg.buffer ∧ t.spg.cond = s.spg.cond ∧
        t.spg.event = s.spg.event ∧ t = { s with spg := t.spg }) ∧
  (∀ (s : State) (b : Bool) (rct apt : Nat) (blk : Bytes),
    (s.src b).settle = none →
    rct < (if b then 39 else 61) →
    apt < (if b then 685 else 814) →
    (s.src b).startWin = false →
    (s.src b).st = 1 →
    s.spg.raw = none →
    s.spg.fatal = false →
    s.spg.buffer.length < 16 →
    ∃ t, exec (.sourceWindow b rct apt [blk]) s = .next t ∧ t.spg.condState = Config.condition s.spg.condState blk ∧
        (s.spg.cond.length < 3 → t.spg.cond = s.spg.cond ++ [(Config.condition s.spg.condState blk, b)] ∧ t.spg.buffer = s.spg.buffer) ∧
        (s.spg.cond.length = 3 → t.spg.cond = [] ∧ ∃ x, t.spg.buffer = s.spg.buffer ++ [x] ∧ x.at_ = s.tbs.now ∧ (if b then x.fromB else x.fromA) = true) ∧
        t = { s with spg := t.spg }) ∧
  (∀ (s : State) (b : Bool) (rct apt : Nat) (blocks : List Bytes),
    (s.src b).settle = none →
    ((if b then 39 else 61) ≤ rct ∨ (if b then 685 else 814) ≤ apt) →
    s.spg.raw = none →
    (s.src b).st ≠ 3 →
    (s.src (!b)).st ≠ 3 →
    ∃ t, exec (.sourceWindow b rct apt blocks) s = .next t ∧ t.spg.cond = s.spg.cond ∧ t.spg.condState = s.spg.condState ∧
        (t.src b).settle = some (s.tbs.now + 100000) ∧ (t.src b).startWin = true ∧
        ((s.src b).fails.filter (fun x => decide (s.tbs.now < x + 1000000000)) = [] → (t.src b).st = 2 ∧ t.spg.event = s.spg.event.set (if b then 2 else 1)) ∧
        (((s.src b).fails.filter (fun x => decide (s.tbs.now < x + 1000000000))).length = 2 →
          (t.src b).st = 3 ∧ t.spg.event = (s.spg.event.set (if b then 2 else 1)).set (if b then 4 else 3)) ∧
        (∀ x ∈ t.spg.buffer, x ∈ s.spg.buffer ∧ ((if b then x.fromB else x.fromA) = true → x.at_ + 10000000 < s.tbs.now))) ∧
  (∀ (s : State) (b : Bool) (t0 : Nat),
    (s.src b).settle = some t0 →
    exec (.sourceSettleEnd b) s = .next (if t0 ≤ s.tbs.now then s.setSrc b { s.src b with settle := none } else s) ∧
        ∀ rct apt blocks, exec (.sourceWindow b rct apt blocks) s = .next s) ∧
  (∀ (s : State) (b : Bool),
    (s.src b).st = 3 →
    (∀ x ∈ (s.src b).fails, x + 1000000000 ≤ s.tbs.now) →
    ∃ t, exec (.sourceRejoin b) s = .next t ∧ t = { s with spg := t.spg } ∧ (t.src (!b)) = s.src (!b) ∧ (t.src b).st ≠ 3)

/-- R465 to R471 and R475: the DRBG whose turn it is takes the oldest seed, which leaves the buffer, and is instantiated with the
personalisation string; an instantiated DRBG reseeds when asked, after 2^16 calls or after 100 ms, which clears its request and
its count of calls; a request is kept for an instantiated DRBG only; a refill, once a pool is below half full and until it is
full, appends the DRBG's output to what the pool holds, within its capacity; ENTROPY.RAW begins its run with its end at COUNT
sample periods unless the other source is excluded or restarting, and the end restarts the source and gives the output. What the
conditioner and the DRBG compute is uninterpreted (log entry 1). -/
def Obligations.SpringDrbgsPoolsAndRawRuns : Prop :=
  (∀ (s : State) (n : Nat) (x : Seed) (rest : List Seed),
    s.spg.buffer = x :: rest →
    (s.drbg n).inst = false →
    s.spg.fatal = false →
    drbgPowered s n = true →
    drbgTurn s n = true →
    s.spg.seeded = true →
    ∃ t, exec (.drbgInstantiated n) s = .next t ∧ t.spg.buffer = rest ∧ (t.drbg n).inst = true ∧ (t.drbg n).calls = 0 ∧
        (t.drbg n).lastReseed = s.tbs.now ∧ (t.drbg n).state = Config.drbgInstantiate (x.bytes.take 48) (x.bytes.drop 48) (personalisation s n) ∧
        (∀ k, k ≠ n → t.drbg k = s.drbg k) ∧ t = { s with spg := t.spg, wei := t.wei }) ∧
  (∀ (s : State) (n : Nat) (x : Seed) (rest : List Seed),
    s.spg.buffer = x :: rest →
    (s.drbg n).inst = true →
    s.spg.fatal = false →
    (s.spg.reseed.getLsbD n = true ∨ 2 ^ 16 ≤ (s.drbg n).calls ∨ (s.drbg n).lastReseed + 100000000 ≤ s.tbs.now) →
    n < 9 →
    ∃ t, exec (.drbgReseed n) s = .next t ∧ t.spg.buffer = rest ∧ (t.drbg n).calls = 0 ∧ (t.drbg n).lastReseed = s.tbs.now ∧
        (t.drbg n).state = Config.drbgReseed (s.drbg n).state x.bytes (additional s) ∧ (t.drbg n).pool = (s.drbg n).pool ∧
        t.spg.reseed.getLsbD n = false ∧ t = { s with spg := t.spg }) ∧
  (∀ (s : State) (f : FnId) (v : BitVec 32),
    f.vf = 0 →
    s.spg.fatal = false →
    ∃ t, exec (.reseedRequest f v) s = .next t ∧ t = { s with spg := { s.spg with reseed := t.spg.reseed, eventMsg := v.getLsbD 9 } } ∧
        ∀ n, n < 9 → t.spg.reseed.getLsbD n = (s.spg.reseed.getLsbD n || (v.getLsbD n && (s.drbg n).inst))) ∧
  (∀ (s : State) (n len : Nat),
    canGenerate s n = true →
    (s.drbg n).pool.length ≤ randomPool n →
    (2 * (s.drbg n).pool.length < randomPool n ∨ (s.drbg n).filling = true) →
    ∃ t g, exec (.poolRefill n len) s = .next t ∧ (t.drbg n).pool = (s.drbg n).pool ++ g ∧ (t.drbg n).pool.length ≤ randomPool n ∧
        (len ≤ randomPool n - (s.drbg n).pool.length → g.length = len) ∧
        (t.drbg n).filling = decide ((t.drbg n).pool.length < randomPool n) ∧ (entReady s n = false → 16 ≤ len → 16 ≤ randomPool n - (s.drbg n).pool.length → (t.pair n).pend.getLsbD 7 = true) ∧
        t = { s with spg := t.spg, pairs := t.pairs }) ∧
  (∀ (s : State) (e n : Nat) (c : Cmd) (b : Bool),
    s.ready e (· == 0x0570) = some c →
    s.spg.raw = none →
    b = (param c.desc 0 1 == 1) →
    n = param c.desc 4 4 →
    ((s.src (!b)).st < 2 ∨ s.spg.fatal = true → exec (.entropyRaw e) s = .next { s with spg := { s.spg with
            raw := some (b, n, e, s.tbs.now + (if b then 250 else 125) * n) } }) ∧
        (2 ≤ (s.src (!b)).st → s.spg.fatal = false → ∃ t, exec (.entropyRaw e) s = .next t ∧ t.spg.raw = none ∧ ∃ d, t.cmd e = some d ∧ d.status = some 0x0230)) ∧
  (∀ (s : State) (samples : Bytes) (rct apt n e till : Nat) (c : Cmd) (b : Bool),
    s.spg.raw = some (b, n, e, till) →
    till ≤ s.tbs.now →
    s.ready e (· == 0x0570) = some c →
    ∃ t d, exec (.rawRunEnd samples rct apt) s = .next t ∧ t.spg.raw = none ∧ (t.src b).settle = some (s.tbs.now + 100000) ∧ (t.src b).startWin = true ∧
        t.cmd e = some d ∧ d.status = some 0 ∧ d.output = padTo (n / 8) samples ∧ d.result = rawResult samples n rct apt)

/-- R244 to R246: with no job running, a word that fails a check of R245 ends in ERROR with its code, JOB_DONE and JOB_ERROR, and no
jet runs; one that passes runs: once the jets it needs are free, with the mask generators of cipher jets (R235), exactly those
jets read BUSY with its ALG, MODE and ENTRY, and a job that draws a nonce has its key's next one in JET_NONCE (R239); until then
it waits without any (the model's choice, log entry 142), and a later JOB_DONE tries again. A start while a job runs is
discarded. The end of a hash job stores the digest of its LEN bytes at SRC in DST, that of a verifying MAC job one byte that
says equal or not equal and nothing else (R238), its jets are zeroised and free, JOB_DONE sets, and every byte outside DST is as
before. The accesses pass Weir's default map (R402). -/
def Obligations.KeeperJetJobs : Prop :=
  (∀ (s : State) (b err : Nat) (j : BitVec 256),
    b < 8 →
    (s.basin b).jobState ≠ 1 →
    jobFails s b j.toNat = err →
    err ≠ 0 →
    ∃ t, exec (.jetJob b j) s = .next t ∧ (t.basin b).jobState = 3 ∧ (t.basin b).jobError = err ∧
        (t.basin b).jobDone = true ∧ (t.basin b).jobErr = true ∧ (t.basin b).lanes = (s.basin b).lanes ∧ (t.pair b).pend.getLsbD 2 = true ∧
        t = { s with basins := t.basins, pairs := t.pairs } ∧ (∀ c, c ≠ b → t.basin c = s.basin c)) ∧
  (∀ (s : State) (b : Nat) (j : BitVec 256) (ls : List Nat),
    b < 8 →
    (s.basin b).jobState ≠ 1 →
    jobFails s b j.toNat = 0 →
    s.hwCheck (0x10 + b) (localBase b + jobSrc j.toNat) (max 1 (jobLen j.toNat)) false (some (jobEntry j.toNat)) = none →
    ls = (freeLanes (s.basin b) (jobHashes j.toNat)).take (jobLaneCount j.toNat) →
    (jobFits s b j.toNat = true → jobDraws j.toNat = false → ls.length = jobLaneCount j.toNat ∧ ∃ t, exec (.jetJob b j) s = .next t ∧
            (t.basin b).jobState = 1 ∧ (t.basin b).job = j ∧ (t.basin b).jobError = 0 ∧ (∀ i, i < 10 → ((t.basin b).jobLanes.getLsbD i = true ↔ i ∈ ls)) ∧
            (∀ i ∈ ls, (tabGet (t.basin b).lanes i {}).busy = true ∧ (tabGet (t.basin b).lanes i {}).alg = jobAlg j.toNat ∧
              (tabGet (t.basin b).lanes i {}).mode = jobMode j.toNat ∧ (tabGet (t.basin b).lanes i {}).entry = jobEntry j.toNat) ∧
            (∀ i, i ∉ ls → tabGet (t.basin b).lanes i {} = tabGet (s.basin b).lanes i {}) ∧
            t = { s with basins := t.basins, slu := t.slu, spg := t.spg, freeCtr := t.freeCtr } ∧ (∀ c, c ≠ b → t.basin c = s.basin c) ∧
            ∀ e, e ≠ jobEntry j.toNat → t.cmd e = s.cmd e) ∧
          (jobFits s b j.toNat = false → ∃ t, exec (.jetJob b j) s = .next t ∧ (t.basin b).jobState = 1 ∧ (t.basin b).job = j ∧ (t.basin b).jobLanes = 0 ∧
            (t.basin b).lanes = (s.basin b).lanes ∧ t = { s with basins := t.basins, slu := t.slu }) ∧
          (∀ r k, jobFits s b j.toNat = true → jobDraws j.toNat = true → jobRecord s b j.toNat = some k → (s.basin b).copyOf k.handle = some r → s.canDraw r.handle = true →
            ∃ t, exec (.jetJob b j) s = .next t ∧ (t.basin b).jobState = 1 ∧ (t.basin b).jobNonce = BitVec.ofNat 96 (leNat (s.drawNonce r.handle r.nonceField).1) ∧
            (∀ i ∈ ls, (tabGet (t.basin b).lanes i {}).busy = true ∧ (tabGet (t.basin b).lanes i {}).secret.key = r.key))) ∧
  (∀ (s : State) (b : Nat) (j : BitVec 256),
    (s.basin b).jobState = 1 →
    exec (.jetJob b j) s = .next s ∧ (b < 8 → (s.basin b).jobLanes = 0 → jobFits s b (s.basin b).job.toNat = false → exec (.jobDone b) s = .next s)) ∧
  (∀ (s : State) (b n j : Nat),
    b < 8 →
    (s.basin b).jobState = 1 →
    (s.basin b).jobLanes ≠ 0 →
    j = (s.basin b).job.toNat →
    jobDigest (jobAlg j) = some n →
    jobMode j = 0 →
    jobDst j + n ≤ 0x400000 →
    weirCheck s (0x10 + b) 0 s.wei.live (localBase b + jobDst j) n true = none →
    ∃ t h, exec (.jobDone b) s = .next t ∧ h = padTo n (Config.hash (jobAlg j) n (memReadN s.mem (localBase b + jobSrc j) (jobLen j))) ∧
        t.mem = memWriteN s.mem (localBase b + jobDst j) h ∧
        (∀ a, a < localBase b + jobDst j ∨ localBase b + jobDst j + n ≤ a → memRead t.mem a = memRead s.mem a) ∧
        (t.basin b).jobState = 2 ∧ (t.basin b).jobDone = true ∧ (t.pair b).pend.getLsbD 2 = true ∧
        (∀ i, i < 10 → (s.basin b).jobLanes.getLsbD i = true → (tabGet (t.basin b).lanes i {}).busy = false ∧ (tabGet (t.basin b).lanes i {}).secret = {}) ∧
        (∀ i, i < 10 → (s.basin b).jobLanes.getLsbD i = false → tabGet (t.basin b).lanes i {} = tabGet (s.basin b).lanes i {}) ∧
        t = { s with basins := t.basins, pairs := t.pairs, mem := t.mem, slu := t.slu, freeCtr := t.freeCtr }) ∧
  (∀ (s : State) (b j : Nat),
    b < 8 →
    (s.basin b).jobState = 1 →
    (s.basin b).jobLanes ≠ 0 →
    j = (s.basin b).job.toNat →
    jobHashes j = false →
    (jobMode j = 7 ∨ jobMode j = 8 ∨ jobMode j = 9) →
    jobDir j = true →
    jobDst j + 1 ≤ 0x400000 →
    weirCheck s (0x10 + b) 0 s.wei.live (localBase b + jobDst j) 1 true = none →
    ∃ t v, exec (.jobDone b) s = .next t ∧ (v = 0 ∨ v = 1) ∧ t.mem = memWrite s.mem (localBase b + jobDst j) v ∧
        (t.basin b).jobState = 2 ∧ t = { s with basins := t.basins, pairs := t.pairs, mem := t.mem, slu := t.slu, freeCtr := t.freeCtr })

namespace Sys2Proof.Claims

/-- Nothing changed but Fountainhead, the retire window, DRBG 8 and what was sent out; a session that ends may also resolve a slot's
unknown write, with its flag and its interrupt. -/
def OnlyFnt (s t : State) : Prop :=
  t = { s with fnt := t.fnt, slu := t.slu, fns := t.fns, out := t.out, spg := t.spg, ccb := t.ccb, pairs := t.pairs }

end Sys2Proof.Claims

/-- R487, R488: OPEN answers QUORUM_SESSION while a session is open, outside the purpose's states or without its precondition, or a
LIFE_CYCLE certificate's reason; else the session gets the next number, 32 challenge bytes of DRBG 8 and 600 s for LIFETIME_S 0;
BACKUP also draws BK afresh and M - 1 coefficients (R491). R489, R490: CLOSE names the open session; a commit of purpose 1, 3 or
6 is MALFORMED/FIELD, one short of M QUORUM_SESSION, an UNSEAL with an active Seal source SEALED; else its effect is kept for
the retirement, where the session ends. R481, R486, R491: MAINTENANCE, an accepted image and the new escrow are such effects.
R492: VAULT.RESTORE needs a RESTORE session with M shares; it restores the root half, or ends the session and writes nothing.
The order of CLOSE's checks is the model's (log entry 53). -/
def Obligations.QuorumSessionsOpenCommitAndEnd : Prop :=
  (∀ (s : State) (e p : Nat) (c : Cmd),
    s.ready e (· == 0x0530) = some c →
    c.basin = none →
    param c.desc 1 1 = 0 →
    p = param c.desc 0 1 →
    (s.fnt.session.isSome = true ∨ purposeAllowed p s.gateOp = false ∨ (p ≠ 8 ∧ purposeReady s c = false) →
          ∃ t, exec (.quorumOpen e) s = .next t ∧ EndedWith t e 0x0231 [] ∧ t.fnt = s.fnt ∧ OnlyFnt s t) ∧
        (∀ r, p = 8 → s.fnt.session = none → purposeAllowed p s.gateOp = true → certReason s 2 c.input = some r →
          ∃ t, exec (.quorumOpen e) s = .next t ∧ EndedWith t e 1 (natLe 1 r) ∧ t.fnt = s.fnt ∧ OnlyFnt s t) ∧
        (∀ m, s.fnt.session = none → purposeAllowed p s.gateOp = true → purposeReady s c = true → p ≠ 8 ∨ certReason s 2 c.input = none →
          approvalsFor s p c.input = some m → p ≠ 4 → 32 ≤ (s.drbg 8).pool.length → ∃ t x, exec (.quorumOpen e) s = .next t ∧
            EndedWith t e 0 (natLe 8 x.number) ∧ t.fnt = { s.fnt with session := some x, sessions := x.number } ∧
            x.number = (s.fnt.sessions + 1) % 2 ^ 64 ∧ x.purpose = p ∧ x.arg = param c.desc 8 8 ∧ x.subject = paramBytes c.desc 0x10 48 ∧
            x.challenge = (s.drbg 8).pool.take 32 ∧ x.m = m ∧ x.ends = s.tbs.now + (if param c.desc 4 2 = 0 then 600 else param c.desc 4 2) * 1000000000 ∧
            x.counted = [] ∧ x.held = false ∧ DrewFromPool s t 8 32 ∧ OnlyFnt s t) ∧
        (∀ m, s.fnt.session = none → purposeAllowed 4 s.gateOp = true → purposeReady s c = true → approvalsFor s 4 c.input = some m → p = 4 →
          32 + 32 * (m - 1) ≤ (s.drbg 8).pool.length → SeedWaits s 8 → ∃ t x, exec (.quorumOpen e) s = .next t ∧ EndedWith t e 0 (natLe 8 x.number) ∧
            t.fnt = { s.fnt with session := some x, sessions := x.number } ∧ x.m = m ∧ x.challenge = (s.drbg 8).pool.take 32 ∧ x.bk.length = 32 ∧
            x.poly = entriesOf 32 (((s.drbg 8).pool.drop 32).take (32 * (m - 1))) ∧ x.shares = [] ∧ x.confirmed = [] ∧
            t.spg.buffer = s.spg.buffer.drop 1 ∧ (t.drbg 8).lastReseed = s.tbs.now ∧ OnlyFnt s t)) ∧
  (∀ (s : State) (e n : Nat) (c : Cmd),
    s.ready e (· == 0x0531) = some c →
    c.basin = none →
    param c.desc 0 1 = 0 →
    n = param c.desc 8 8 →
    (∀ x, s.fnt.session = some x → x.number = n → ∃ t, exec (.quorumAbort e) s = .next t ∧ EndedWith t e 0 [] ∧
            t.fnt = { s.fnt with session := none, event := s.fnt.event.set 3 } ∧ (∀ k, k < 4 → (t.slot k).pending = false) ∧ OnlyFnt s t) ∧
        ((∀ x, s.fnt.session = some x → x.number ≠ n) → ∃ t, exec (.quorumAbort e) s = .next t ∧ EndedWith t e 0x0231 [] ∧ t.fnt = s.fnt ∧ OnlyFnt s t)) ∧
  (∀ (s : State) (e n : Nat) (c : Cmd) (x : Session),
    s.ready e (· == 0x0531) = some c →
    c.basin = none →
    param c.desc 0 1 = 1 →
    n = param c.desc 8 8 →
    s.fnt.session = some x →
    (x.number ≠ n → ∃ t, exec (.quorumCommit e) s = .next t ∧ EndedWith t e 0x0231 [] ∧ t.fnt = s.fnt ∧ OnlyFnt s t) ∧
        (x.number = n → x.purpose = 1 ∨ x.purpose = 3 ∨ x.purpose = 6 → ∃ t, exec (.quorumCommit e) s = .next t ∧ EndedWith t e 0x0403 [] ∧ t.fnt = s.fnt ∧ OnlyFnt s t) ∧
        (x.number = n → x.purpose ∉ [1, 3, 6] → x.counted.length < x.m → ∃ t, exec (.quorumCommit e) s = .next t ∧ EndedWith t e 0x0231 [] ∧ t.fnt = s.fnt ∧ OnlyFnt s t) ∧
        (x.number = n → x.purpose = 5 → x.m ≤ x.counted.length → ∀ i, i < 16 → s.gro.active.getLsbD i = true → s.gro.off i = false → s.response i = 1 →
          ∃ t, exec (.quorumCommit e) s = .next t ∧ EndedWith t e 0x0203 [] ∧ t.fnt = s.fnt ∧ OnlyFnt s t) ∧
        (x.number = n → x.purpose ∉ [1, 3, 6] → commitEnough s x = true → x.purpose ≠ 5 ∨ sealSourceActive s = false → x.purpose ≠ 8 ∨ SeedWaits s 8 →
          ∃ t d, exec (.quorumCommit e) s = .next t ∧ t.cmd e = some d ∧ d.phase = .done ∧ d.status = some 0 ∧ d.effect = .quorum n ∧ t.fnt = s.fnt ∧ OnlyFnt s t)) ∧
  (∀ (s : State) (x : Session) (rnd : Bytes),
    s.fnt.session = some x →
    (∀ i, x.purpose = 2 → tabFind s.fnt.staged (x.arg % 256) = some i → ∃ t, s.commitQuorum x.number rnd = some t ∧ t.fnt.session = none ∧
            tabFind t.fnt.staged (x.arg % 256) = some { i with accepted := true } ∧ (∀ k, k ≠ x.arg % 256 → tabFind t.fnt.staged k = tabFind s.fnt.staged k) ∧
            t.fnt.event = (s.fnt.event.set 4).set 3 ∧ t.fnt.escrow = s.fnt.escrow ∧ OnlyFnt s t) ∧
        (x.purpose = 4 → ∃ t v, s.commitQuorum x.number rnd = some t ∧ t.fnt.session = none ∧ t.fnt.escrow = some (bkId x.bk, v) ∧ t.gro = s.gro ∧ OnlyFnt s t) ∧
        (x.purpose = 7 → s.gateOp = .serving → ∃ t, s.commitQuorum x.number rnd = some t ∧ t.fnt.session = none ∧ t.fnt.op = .maintenance ∧
            t.gro.ok = true ∧ t.slu = s.slu ∧ t.lay = s.lay) ∧
        (∀ n, n ≠ x.number → s.commitQuorum n rnd = none)) ∧
  (∀ (s : State),
    (∀ x, s.fnt.session = some x → x.ends ≤ s.tbs.now → ∃ t, exec .sessionExpiry s = .next t ∧
            t.fnt = { s.fnt with session := none, event := s.fnt.event.set 3 } ∧ (∀ k, k < 4 → (t.slot k).pending = false) ∧ t.slu = s.slu ∧ OnlyFnt s t) ∧
        (s.fnt.session = none → exec .sessionExpiry s = .next s) ∧
        (∀ x, s.fnt.session = some x → s.tbs.now < x.ends → exec .sessionExpiry s = .next s)) ∧
  (∀ (s : State) (e n : Nat) (c : Cmd),
    s.ready e (· == 0x0580) = some c →
    c.basin = none →
    n = param c.desc 0 8 →
    ((∀ x, s.fnt.session = some x → x.number = n → x.purpose = 6 → x.shares.length < x.m) →
          ∃ t, exec (.vaultRestore e) s = .next t ∧ EndedWith t e 0x0231 [] ∧ t.fnt = s.fnt ∧ OnlyFnt s t) ∧
        (∀ x, s.fnt.session = some x → x.number = n → x.purpose = 6 → x.m ≤ x.shares.length →
          match openEscrow s x with
          | none => ∃ t, exec (.vaultRestore e) s = .next t ∧ EndedWith t e 1 [] ∧ t.fnt.session = none ∧ t.fnt.op = s.fnt.op ∧ OnlyFnt s t
          | some half => ∃ t, exec (.vaultRestore e) s = .next t ∧ EndedWith t e 0 [] ∧ t.fnt.session = none ∧ t.gro.rootHalf = some half ∧ t.gro.retained = true))

/-- R494, R495: a certificate that validates replaces the installed one and places its rights; one that fails answers the first
reason and changes nothing; IN_LEN 0, and the check of each second once NOT_AFTER has passed or the era has changed, remove it.
R485: the first chunk of a kind starts its staging, the next must follow it or SEQUENCE discards it, and LAST verifies: an image
that passes R484 is complete with its version in RESULT, else it is discarded with its reason. R481: LEAVE_MAINT returns
MAINTENANCE to SERVING and does nothing in any other state. R486, R496: FW_SWITCH restarts the pair on an accepted image and
does nothing without one; 40 ms later re-verification ends with the image running and its count raised to its ROLLBACK, or in
HALTED with the keys zeroised. The version of an applet or a DIK certificate is an open value (log entry 1). -/
def Obligations.DebugCertificatesFirmwareAndThePairRestart : Prop :=
  (∀ (s : State) (e : Nat) (c : Cmd),
    s.ready e (· == 0x0560) = some c →
    c.basin = none →
    (inLenOf c.desc ≠ 0 →
            match certReason s 1 c.input with
            | some r => ∃ t, exec (.debugInstall e) s = .next t ∧ EndedWith t e 1 (natLe 1 r) ∧ t.wei = s.wei ∧ t.fnt = s.fnt ∧ OnlyFnt s t
            | none => ∃ t d, exec (.debugInstall e) s = .next t ∧ EndedWith t e 0 [] ∧ t.wei = { s.wei with dbg := some d } ∧
                d.serial = field c.input 0x28 8 ∧ d.notAfter = field c.input 0x20 8 ∧ d.era = field c.input 0x14 2 ∧
                d.slotRd = BitVec.ofNat 128 (field c.input 0x80 16) ∧ d.slotWr = BitVec.ofNat 128 (field c.input 0x90 16) ∧
                t.fnt = { s.fnt with event := s.fnt.event.set 5 } ∧ OnlyFnt { s with wei := t.wei } t) ∧
        (inLenOf c.desc = 0 → ∃ t, exec (.debugRemove e) s = .next t ∧ EndedWith t e 0 [] ∧ t.wei = { s.wei with dbg := none } ∧
            t.fnt = { s.fnt with event := if s.wei.dbg.isSome then s.fnt.event.set 6 else s.fnt.event } ∧ OnlyFnt { s with wei := t.wei } t) ∧
        (c.input.length ≠ 3885 → certReason s 1 c.input = some 1)) ∧
  (∀ (s : State),
    (∀ u, s.fnt.debugCheck = some u → u + 1000000000 ≤ s.tbs.now) →
    (s.wei.dbg = none ∨ (∃ d, s.wei.dbg = some d ∧ s.tbs.now ≤ d.notAfter ∧ d.era = s.tbs.era) →
          exec .debugCertCheck s = .next { s with fnt := { s.fnt with debugCheck := some s.tbs.now } }) ∧
        (∀ d, s.wei.dbg = some d → d.notAfter < s.tbs.now ∨ d.era ≠ s.tbs.era → ∃ t, exec .debugCertCheck s = .next t ∧
          t.wei = { s.wei with dbg := none } ∧ t.fnt = { s.fnt with debugCheck := some s.tbs.now, event := s.fnt.event.set 6 } ∧
          t = { s with wei := t.wei, fnt := t.fnt, fns := t.fns, out := t.out })) ∧
  (∀ (s : State) (e kind off : Nat) (c : Cmd) (held all : Bytes),
    s.ready e (· == 0x0510) = some c →
    c.basin = none →
    kind = param c.desc 0 1 →
    off = param c.desc 4 4 →
    kind ≤ 3 →
    (kind ≠ 3 ∨ s.life = 2) →
    all = (if off = 0 then [] else held) ++ c.input →
    (off ≠ 0 → (∀ i, tabFind s.fnt.staged kind = some i → i.complete = true ∨ i.bytes.length ≠ off) → ∃ t, exec (.firmwareStage e) s = .next t ∧
            EndedWith t e 0x0407 [] ∧ t.fnt = { s.fnt with staged := tabDel s.fnt.staged kind } ∧ OnlyFnt s t) ∧
        (off = 0 ∨ (∃ i, tabFind s.fnt.staged kind = some i ∧ i.complete = false ∧ i.bytes = held ∧ held.length = off) →
          (bitAt (param c.desc 1 1) 0 = false → ∃ t, exec (.firmwareStage e) s = .next t ∧ EndedWith t e 0 [] ∧
            t.fnt = { s.fnt with staged := tabSet s.fnt.staged kind { bytes := all } } ∧ OnlyFnt s t) ∧
          (bitAt (param c.desc 1 1) 0 = true → kind ≤ 1 → fwReason s kind all ≠ 0 → ∃ t, exec (.firmwareStage e) s = .next t ∧
            EndedWith t e 1 (natLe 1 (fwReason s kind all)) ∧ tabFind t.fnt.staged kind = none ∧ OnlyFnt s t) ∧
          (bitAt (param c.desc 1 1) 0 = true → kind ≤ 1 →
            if fwReason s kind all = 0 then ∃ t i, exec (.firmwareStage e) s = .next t ∧ EndedWith t e 0 (natLe 4 (field all 8 4)) ∧
              tabFind t.fnt.staged kind = some i ∧ i.bytes = all ∧ i.complete = true ∧ i.version = field all 8 4 ∧ i.rollback = field all 7 1 ∧ i.accepted = false ∧
              (∀ j, j ≠ kind → tabFind t.fnt.staged j = tabFind s.fnt.staged j) ∧ OnlyFnt s t
            else fwReason s kind all ≤ 3) ∧
          (bitAt (param c.desc 1 1) 0 = true → kind = 2 →
            if appletReason s all = 0 then ∃ t r i, exec (.firmwareStage e) s = .next t ∧ EndedWith t e 0 r ∧ r.length = 4 ∧
              tabFind t.fnt.staged 2 = some i ∧ i.bytes = all ∧ i.complete = true ∧ OnlyFnt { s with freeCtr := s.freeCtr + 1 } t
            else ∃ t, exec (.firmwareStage e) s = .next t ∧ EndedWith t e 1 (natLe 1 (appletReason s all)) ∧ tabFind t.fnt.staged 2 = none ∧ OnlyFnt s t) ∧
          (bitAt (param c.desc 1 1) 0 = true → kind = 3 →
            if dikReason s all = 0 then ∃ t r, exec (.firmwareStage e) s = .next t ∧ EndedWith t e 0 r ∧ r.length = 4 ∧
              t.fnt.dikCert = all ∧ tabFind t.fnt.staged 3 = none ∧ OnlyFnt { s with freeCtr := s.freeCtr + 1 } t
            else ∃ t, exec (.firmwareStage e) s = .next t ∧ EndedWith t e 1 (natLe 1 (dikReason s all)) ∧ t.fnt.dikCert = s.fnt.dikCert ∧
              tabFind t.fnt.staged 3 = none ∧ OnlyFnt s t))) ∧
  (∀ (s : State) (f : FnId),
    f.vf = 0 →
    s.fnExists f = true →
    (s.gateOp = .maintenance → ∃ t, exec (.leaveMaint f) s = .next t ∧ t.fnt = { s.fnt with op := .serving } ∧
            t.gro = { s.gro with ok := true, alarm := false } ∧ t = { s with fnt := t.fnt, gro := t.gro, psp := t.psp }) ∧
        (s.gateOp ≠ .maintenance → exec (.leaveMaint f) s = .next s) ∧
        ((∀ i, tabFind s.fnt.staged 1 = some i → i.accepted = false) ∨ s.fnt.restartAt.isSome = true → exec (.fwSwitch f) s = .next s) ∧
        (∀ i, tabFind s.fnt.staged 1 = some i → i.accepted = true → s.fnt.restartAt = none → ∃ t, exec (.fwSwitch f) s = .next t ∧
          t.fnt = { s.fnt with generation := (s.fnt.generation + 1) % 2 ^ 32, restartAt := some s.tbs.now, restartSwitch := true, collect := none, session := none, event := t.fnt.event } ∧
          t.fnt.event.flags.getLsbD 7 = true ∧ t.tbs = s.tbs ∧ t.lay = s.lay ∧ (∀ n, n < 8 → t.pair n = s.pair n) ∧
          (∀ e c, s.slu.mgmt.head? = some e → s.cmd e = some c → c.execStart.isSome = true → c.status = none →
            ∃ d, t.cmd e = some d ∧ EndsWith c d 0x0601 ∧ d.effect = .none))) ∧
  (∀ (s : State) (f : FnId),
    f.vf ≠ 0 →
    exec (.leaveMaint f) s = .next s ∧ exec (.fwSwitch f) s = .next s) ∧
  (∀ (s : State),
    s.fnt.op ≠ .halted →
    (∃ r, s.fnt.restartAt = some r ∧ r + 40000000 ≤ s.tbs.now) →
    (∃ t, exec (.restartVerifyDone false) s = .next t ∧ t.fnt.op = .halted ∧ t.fnt.session = none ∧ t.cis.records = [] ∧ t.cis.rootReady = false ∧
            t.vlt.unlocked = false ∧ t.tbs = s.tbs ∧ t.lay = s.lay) ∧
        (s.fnt.pendingLc = none → s.slu.mgmt = [] → s.fnt.restartSwitch = false → runningListed s = true → ∃ t, exec (.restartVerifyDone true) s = .next t ∧
            t.fnt = { s.fnt with restartAt := none } ∧ OnlyFnt s t) ∧
        (∀ i, s.fnt.pendingLc = none → s.slu.mgmt = [] → s.fnt.restartSwitch = true → tabFind s.fnt.staged 1 = some i → s.lay.active = none ∨ listedFw s 1 i.version i.digest = true →
            ∃ t, exec (.restartVerifyDone true) s = .next t ∧ t.fnt = { s.fnt with restartAt := none, restartSwitch := false, running := i.version, runningDigest := i.digest, runningRollback := i.rollback, rbFnt := max s.fnt.rbFnt i.rollback, staged := tabDel s.fnt.staged 1 } ∧ OnlyFnt s t)) ∧
  (∀ (s : State) (b : Bool),
    ((∀ r, s.fnt.restartAt = some r → s.tbs.now < r + 40000000) ∨ s.fnt.op = .halted) →
    exec (.restartVerifyDone b) s = .next s)

/-- R498 to R502: an assertion of a source that is not fused off sets its sticky flag, counts, and opens an event; with response
Record only Gauge notes it; with Seal the seal bit sets, ST_ALARM rises and the keys go; an Erase waits for corroboration as a
Seal, both meshes at once erase the Reservoir. A pending source still active after 10 ms erases; one inactive after its window
leaves UNCORROBORATED (bit 3). R503, R504: the Seal ends in SEALED, the Erase in a warm reset and RESTORE_ONLY. R508, R511: on
battery each sample, one per 128 ticks of the night count, sets the flags of the sources that assert, seals or wipes by the
copied responses; the loss of both supplies erases the domain, whose seal bit is then open (log entry 1). R507, R512, R513: the
hold-up recharges, sticky flags clear only in MAINTENANCE and never while active, fuses burn where the life cycle or MAINTENANCE
allows. -/
def Obligations.TamperSourcesSealEraseAndTheBattery : Prop :=
  (∀ (s : State) (i : Nat),
    i < 16 →
    s.pwr.main = true →
    s.pwr.por = false →
    s.gro.active.getLsbD i = false →
    s.gro.disabled.getLsbD i = false →
    s.gro.open_ = none →
    ∃ t v, exec (.tamperSourceAssert i) s = .next t ∧ t.gro.sticky = s.gro.sticky ||| BitVec.ofNat 16 (2 ^ i) ∧ t.gro.active = s.gro.active ||| BitVec.ofNat 16 (2 ^ i) ∧
        tabGet t.gro.counts i 0 = min 0xFFFF (tabGet s.gro.counts i 0 + 1) ∧ t.gro.open_ = some v ∧ v.opened = s.tbs.now ∧ v.night = s.gro.night ∧ t.tbs = s.tbs ∧
        (s.response i = 0 → (i ≤ 1 → s.gro.active.getLsbD (1 - i) = false) → v.applied = 0 ∧ t.gau.eventSeq = s.gau.eventSeq + 1 ∧ t.gro.sealBit = s.gro.sealBit ∧
          t.gro.rootHalf = s.gro.rootHalf ∧ t = { s with gro := t.gro, gau := t.gau }) ∧
        (s.response i = 1 → (i ≤ 1 → s.gro.active.getLsbD (1 - i) = false) → v.applied = 1 ∧ t.gro.sealBit = true ∧ t.gro.rootHalf = s.gro.rootHalf ∧ t.gro.alarm = true ∧ t.gro.ok = false) ∧
        (s.response i = 2 → 2 ≤ i → (∀ o, o < 16 → corroborates s o i = false) → v.applied = 1 ∧ t.gro.sealBit = true ∧ t.gro.rootHalf = s.gro.rootHalf) ∧
        (s.response i = 2 → 2 ≤ i → (∃ o, o < 16 ∧ corroborates s o i = true) → v.applied = 2 ∧ t.gro.sealBit = true ∧ t.gro.rootHalf = none ∧ t.gro.erasing = true) ∧
        (i ≤ 1 → s.gro.active.getLsbD (1 - i) = true → s.gro.disabled.getLsbD (1 - i) = false → v.applied = 2 ∧ t.gro.sealBit = true ∧ t.gro.rootHalf = none ∧ t.gro.erasing = true) ∧
        (0 < v.applied → s.gro.sealAt = none → s.fnt.op = .serving → t.gro.sealAt = some s.tbs.now ∧ t.cis.records = [] ∧ t.cis.rootReady = false ∧ t.vlt.unlocked = false)) ∧
  (∀ (s : State) (i : Nat),
    (i < 12 → s.gro.active.getLsbD i = true → exec (.tamperSourceAssert i) s = .next s) ∧
          (16 ≤ i ∨ s.pwr.main = false → exec (.tamperSourceAssert i) s = .next s) ∧
          (i < 16 → s.pwr.main = true → s.gro.active.getLsbD i = false → s.gro.disabled.getLsbD i = true →
            exec (.tamperSourceAssert i) s = .next { s with gro := { s.gro with active := s.gro.active ||| BitVec.ofNat 16 (2 ^ i) } }) ∧
          (i < 16 → s.gro.active.getLsbD i = true → exec (.tamperSourceDeassert i) s = .next { s with gro := { s.gro with
            active := s.gro.active &&& ~~~ BitVec.ofNat 16 (2 ^ i), endedAt := tabSet s.gro.endedAt i (groNow s), samples := tabSet s.gro.samples i 0 } }) ∧
          (i < 16 → s.gro.active.getLsbD i = false → exec (.tamperSourceDeassert i) s = .next s)) ∧
  (∀ (s : State) (v : TamperEvent) (i : TamperItem),
    s.pwr.main = true →
    s.pwr.por = false →
    s.gro.open_ = some v →
    v.items = [i] →
    i.pending = true →
    i.corroborated = false →
    v.applied = 1 →
    i.reached = 1 →
    (s.gro.active.getLsbD i.source = true → i.asserted + 10000000 ≤ s.tbs.now → ∃ t, exec .corroborationTimeout s = .next t ∧ t.gro.rootHalf = none ∧ t.gro.sealBit = true ∧
            t.gro.erasing = true ∧ t.gro.event.flags.getLsbD 2 = true) ∧
          (s.gro.active.getLsbD i.source = false → i.asserted + 1000000 < s.tbs.now → v.opened + 1000000 < s.tbs.now → ∃ t, exec .corroborationTimeout s = .next t ∧
            t.gro.open_ = none ∧ t.gro.event = s.gro.event.set 3 ∧ t.gro.rootHalf = s.gro.rootHalf ∧ t.gro.sealBit = s.gro.sealBit ∧ t.fnt = s.fnt ∧ t.slu = s.slu) ∧
          (s.tbs.now ≤ i.asserted + 1000000 → exec .corroborationTimeout s = .next s)) ∧
  (∀ (s : State),
    (∀ t0, s.gro.sealAt = some t0 → ∃ t, exec .sealComplete s = .next t ∧ t.fnt.op = .sealed ∧ t.gro.sealAt = none ∧ t.gro.alarm = true ∧
            ((∀ x, s.fnt.session = some x → x.purpose ≠ 5) → t.fnt.session = none) ∧ t.gau.acc.commitSeq = (s.gau.acc.commitSeq + 1) % 2 ^ 32 ∧ t.gro.sealBit = s.gro.sealBit ∧ t.slu = s.slu) ∧
          (s.gro.sealAt = none → exec .sealComplete s = .next s) ∧ (s.gro.erasing = false ∨ s.gro.sealAt ≠ none → exec .eraseWarmReset s = .next s) ∧
          (s.gro.erasing = true → s.gro.sealAt = none → s.gro.rootHalf = none → 3 ≤ s.life → s.life < 5 → s.fnt.pendingLc = none → s.fnt.rbFnt ≤ s.fnt.runningRollback →
            ∃ t, exec .eraseWarmReset s = .next t ∧ t.fnt.op = .restoreOnly ∧ t.tbs.now = s.tbs.now ∧ t.queues = [] ∧ t.cis.records = [])) ∧
  (∀ (s : State) (a w : BitVec 16),
    s.pwr.main = false →
    s.gro.night / 128 ≠ s.gro.sampleMark →
    w = a &&& 0x027F &&& ~~~ s.gro.disabled →
    ∃ t, exec (.batterySample a) s = .next t ∧ t.gro.night = s.gro.night ∧ exec (.batterySample a) t = .next t ∧ t.gro.active = a &&& 0x027F ∧
        (∀ i, i < 16 → t.gro.sticky.getLsbD i = (s.gro.sticky.getLsbD i || (w.getLsbD i && !s.gro.active.getLsbD i))) ∧
        (s.gro.open_ = none → w &&& ~~~ s.gro.active = 0 → t.gro.sealBit = s.gro.sealBit ∧ t.gro.rootHalf = s.gro.rootHalf ∧ t.gro.beb = s.gro.beb ∧ t.gro.open_ = none) ∧
        (s.gro.open_ = none → w.getLsbD 0 = true → w.getLsbD 1 = true → s.gro.active.getLsbD 0 = false ∨ s.gro.active.getLsbD 1 = false → t.gro.sealBit = true ∧ t.gro.rootHalf = none) ∧
        (∀ i, i < 16 → s.gro.open_ = none → w.getLsbD i = true → s.gro.active.getLsbD i = false → 1 ≤ s.gro.copied i → t.gro.sealBit = true) ∧
        ((∀ i, i < 16 → s.gro.copied i ≤ 1) → w.getLsbD 0 = false → s.gro.open_ = none → t.gro.rootHalf = s.gro.rootHalf) ∧ t = { s with gro := t.gro }) ∧
  (∀ (s : State) (a : BitVec 16),
    s.pwr.main = true →
    exec (.batterySample a) s = .next s ∧ exec .vbatRetentionLoss s = .next s ∧
        ∃ t, exec .mainPowerLoss s = .next t ∧ t.pwr.main = false ∧ t.pwr.por = true ∧ t.queues = [] ∧ t.slu = {} ∧ t.cis.records = [] ∧ t.gro.sealBit = s.gro.sealBit ∧
          t.gro.rootHalf = s.gro.rootHalf ∧ t.gro.sticky = s.gro.sticky ∧ t.gro.sync = s.gro.sync ∧ t.gro.night = s.gro.night ∧ t.gro.active = s.gro.active &&& 0x027F ∧ (s.gro.open_ = none → t.gro.open_ = none) ∧
          (∀ v, s.gro.open_ = some v → s.pwr.por = false → ∃ w, t.gro.open_ = some w ∧ w.night = v.night ∧ w.applied = v.applied ∧ w.opened = min v.opened (startValue s) ∧
            w.items = v.items.map (fun i => { i with asserted := startValue s + i.asserted - s.tbs.now }))) ∧
  (∀ (s : State),
    s.pwr.main = false →
    (∃ t, exec .vbatRetentionLoss s = .next t ∧ t.gro.rootHalf = none ∧ t.gro.retained = false ∧ t.gro.night = 0 ∧ t.gro.sync = none ∧ t.gro.sticky = 0 ∧ t.gro.counts = [] ∧
            t.gro.beb = [] ∧ t.gro.copy = s.gro.floors ∧ t.gro.floors = s.gro.floors ∧ t.gro.disabled = s.gro.disabled ∧ t = { s with gro := t.gro, freeCtr := t.freeCtr }) ∧
          exec .mainPowerLoss s = .next s) ∧
  (∀ (s : State) (f : FnId) (v : BitVec 32) (r : BitVec 16),
    f.vf = 0 →
    exec .holdupRecharged s = .next { s with gro := { s.gro with holdupOk := true } } ∧ (s.fnt.op ≠ .maintenance → exec (.stickyClear f v r) s = .next s) ∧
          (s.fnt.op = .maintenance → ∃ t, exec (.stickyClear f v r) s = .next t ∧ t.gro = { s.gro with sticky := t.gro.sticky } ∧
            (∀ i, i < 16 → t.gro.sticky.getLsbD i = (s.gro.sticky.getLsbD i && !(v.getLsbD i && !((s.gro.active.getLsbD i || r.getLsbD i) && !s.gro.disabled.getLsbD i)))) ∧ t = { s with gro := t.gro, gau := t.gau }) ∧
          (s.life = 1 ∨ s.life = 2 → exec (.fuseOff f v) s = .next { s with gro := { s.gro with disabled := s.gro.disabled ||| v.truncate 16 } }) ∧
          (s.life ≠ 1 → s.life ≠ 2 → s.fnt.op = .maintenance → ∃ t, exec (.fuseOff f v) s = .next t ∧ t = { s with gro := { s.gro with disabled := t.gro.disabled } } ∧
            t.gro.disabled.getLsbD 0 = s.gro.disabled.getLsbD 0 ∧ t.gro.disabled.getLsbD 1 = s.gro.disabled.getLsbD 1 ∧
            (∀ i, 2 ≤ i → i < 16 → t.gro.disabled.getLsbD i = (s.gro.disabled.getLsbD i || v.getLsbD i))) ∧
          (s.life ≠ 1 → s.life ≠ 2 → s.fnt.op ≠ .maintenance → exec (.fuseOff f v) s = .next s))

namespace Sys2Proof.Claims

/-- Fountainhead's command e is done with an answer; besides it only the retire window, what was sent and the index of free values
may differ, and no other command where none waits for Fountainhead. -/
def FntAnswered (s t : State) (e : Nat) (c : Cmd) (a : Answer) : Prop :=
  t.cmd e = some { c with
    status := some a.status, result := a.result, output := a.output, extraOut := a.extra, effect := a.effect, newRec := a.newRec,
    phase := .done, onJets := false } ∧
  (s.slu.mgmt = [e] → ∀ k, k ≠ e → t.cmd k = s.cmd k) ∧
  t = { s with slu := t.slu, out := t.out, freeCtr := t.freeCtr }

end Sys2Proof.Claims

/-- R516: each second while VDD_CORE is present, once, adds one count to the temperature bin of the sample, 5 C wide from -40 C with
open ends, and an extreme is replaced only by a value strictly beyond it. R515: 60 s after the latest commit the block goes to
the copy that its COMMIT_SEQ selects. R514, R517, R522: 3,600 powered seconds make an operating hour, with a summary entry under
the next SEQ, and CONDITION is staged for the passport. R520: GAUGE.READ returns the 4 KiB block, or consecutive 64-byte entries
from the larger of FIRST and the oldest SEQ held, with zeros for slots beyond; RESULT gives the first SEQ, the count and the
newest SEQ (for region 0 the spec states no RESULT: a free value, log entry 1). R75: while the device is powered, at each
multiple of 2^30 ns the sync pair is the Timebase value with the night count. -/
def Obligations.GaugeCommitsSamplesHoursAndReads : Prop :=
  (∀ (s : State) (temp : Int) (mv : Nat),
    s.pwr.main = true →
    s.pwr.por = false →
    s.tbs.now / 1000000000 ≠ s.gau.secondMark →
    ∃ t, exec (.temperatureSample temp mv) s = .next t ∧ t.gau.acc.seconds = min 0xFFFFFFFF (s.gau.acc.seconds + 1) ∧
        (∀ i : Nat, i < 32 → (i = 0 ∨ -320 + 40 * (i : Int) ≤ temp) → (i = 31 ∨ temp < -280 + 40 * (i : Int)) →
          tabGet t.gau.acc.tempHist i 0 = min 0xFFFFFFFF (tabGet s.gau.acc.tempHist i 0 + 1) ∧ ∀ j, j ≠ i → tabGet t.gau.acc.tempHist j 0 = tabGet s.gau.acc.tempHist j 0) ∧
        (∀ x h c, tabFind s.gau.acc.extremes 0 = some (x, h, c) → tabFind t.gau.acc.extremes 0 = some (if x < temp then (temp, s.gau.acc.hours, s.gau.acc.cycles) else (x, h, c))) ∧
        (∀ x h c, tabFind s.gau.acc.extremes 6 = some (x, h, c) → tabFind t.gau.acc.extremes 6 = some (if (mv : Int) < x then ((mv : Int), s.gau.acc.hours, s.gau.acc.cycles) else (x, h, c))) ∧
        t.gro = { s.gro with temp := temp, vbat := mv } ∧ exec (.temperatureSample temp mv) t = .next t ∧ t = { s with gau := t.gau, gro := t.gro }) ∧
  (∀ (s : State),
    (s.tbs.now < s.gau.commitAt + 60000000000 → exec .accumulatorCommit s = .next s) ∧
          (s.gau.commitAt + 60000000000 ≤ s.tbs.now → ∃ t, exec .accumulatorCommit s = .next t ∧ t.gau.acc = { s.gau.acc with commitSeq := (s.gau.acc.commitSeq + 1) % 2 ^ 32 } ∧
            tabGet t.gau.copies (t.gau.acc.commitSeq % 2) {} = t.gau.acc ∧ tabGet t.gau.copies (1 - t.gau.acc.commitSeq % 2) {} = tabGet s.gau.copies (1 - t.gau.acc.commitSeq % 2) {} ∧
            t.gau.commitAt = s.tbs.now ∧ t = { s with gau := { s.gau with acc := t.gau.acc, copies := t.gau.copies, commitAt := t.gau.commitAt } }) ∧
          (s.pwr.por = true ∨ s.pwr.main = false ∨ s.tbs.now / 2 ^ 30 = s.tbs.syncMark → exec .syncPairWrite s = .next s) ∧
          (s.pwr.por = false → s.pwr.main = true → s.tbs.now / 2 ^ 30 ≠ s.tbs.syncMark → exec .syncPairWrite s =
            .next { s with gro := { s.gro with sync := some (s.tbs.now, s.gro.night) }, tbs := { s.tbs with syncMark := s.tbs.now / 2 ^ 30 } })) ∧
  (∀ (s : State),
    (s.gau.acc.seconds < 3600 → exec .hourEnd s = .next s) ∧
          (3600 ≤ s.gau.acc.seconds → ∃ t e, exec .hourEnd s = .next t ∧ t.gau.acc.hours = min 0xFFFFFFFF (s.gau.acc.hours + 1) ∧ t.gau.acc.seconds = s.gau.acc.seconds - 3600 ∧
            t.gau.acc.cycles = s.gau.acc.cycles ∧ t.gau.acc.lifePpm = min 0xFFFFFFFF (lifePpm s.gau.acc.tempHist) ∧ t.gau.summaries = (e :: s.gau.summaries).take 8192 ∧
            e.seq = s.gau.summarySeq + 1 ∧ t.gau.summarySeq = e.seq ∧ e.hours = t.gau.acc.hours ∧ e.lifePpm = t.gau.acc.lifePpm ∧ t.gau.events = s.gau.events ∧
            t = { s with gau := t.gau, psp := t.psp })) ∧
  (∀ (s : State) (e region first n : Nat) (c : Cmd),
    s.ready e (· == 0x0540) = some c →
    c.basin = none →
    region = param c.desc 0 1 →
    first = param c.desc 4 4 →
    n = param c.desc 8 4 →
    (region = 0 → ∃ t bs, exec (.gaugeRead e) s = .next t ∧ FntAnswered s t e c { result := bs, output := accBytes s.gau.acc }) ∧
          (region = 1 → ∃ t, exec (.gaugeRead e) s = .next t ∧ FntAnswered s t e c (ringAnswer GaugeSummary.seq summaryBytes s.gau.summaries s.gau.summarySeq first n)) ∧
          (2 ≤ region → ∃ t a, exec (.gaugeRead e) s = .next t ∧ FntAnswered s t e c a ∧ a.output.length = 64 * n ∧
            (∀ y, s.gau.events.getLast? = some y → a.result = natLe 4 (max first y.seq) ++ natLe 4 (ringCount GaugeEvent.seq s.gau.events (max first y.seq) n) ++ natLe 4 s.gau.eventSeq ∧
              (∀ i, i < n → (∀ x, s.gau.events.find? (fun x => x.seq == max first y.seq + i) = some x → slice a.output (64 * i) 64 = eventBytes x) ∧
                (s.gau.events.find? (fun x => x.seq == max first y.seq + i) = none → slice a.output (64 * i) 64 = List.replicate 64 0)))))

namespace Sys2Proof.Claims

/-- Slot n holds y and every other slot is as it was. -/
def SlotIs (s t : State) (n : Nat) (y : CardSlot) : Prop := t.slot n = y ∧ ∀ m, m ≠ n → t.slot m = s.slot m

/-- The device sends a command of transaction x over the bus; the transaction waits for its answer. -/
def Sends (s t : State) (x : CardTrans) (op : Nat) (ps : Bytes) : Prop :=
  t.ccb.trans = some { x with opcode := op, params := ps, resent := 0, busyFrom := none } ∧ t.out = s.out ++ [.cardCommand x.slot op ps]

/-- Only the card bus changed, with its flags, its interrupt and its messages. -/
def OnlyCard (s t : State) : Prop := t = { s with ccb := t.ccb, pairs := t.pairs, fns := t.fns, out := t.out }

/-- Only the card bus, the reader, Fountainhead, its DRBG, the retire window and the outputs changed. -/
def OnlyTokens (s t : State) : Prop :=
  t = { s with ccb := t.ccb, cls := t.cls, fnt := t.fnt, lay := t.lay, slu := t.slu, spg := t.spg, pairs := t.pairs, fns := t.fns, out := t.out }

/-- COLLECT k ends with a status and a RESULT; no approval is counted. -/
def CollectEnds (s t : State) (k : Collect) (st : Nat) (r : Bytes) : Prop :=
  t.fnt.collect = none ∧ EndedWith t k.entry st r ∧ t.fnt.session = s.fnt.session ∧ t.lay = s.lay ∧ OnlyTokens s t

/-- COLLECT k counts a token for session v: DONE/OK with the count and M; at M a LAYOUT session ends, a DEBUG or RESTORE one is held. -/
def Counted (s t : State) (k : Collect) (v : Session) : Prop :=
  t.fnt.collect = none ∧ EndedWith t k.entry 0 (natLe 1 (v.counted.length + 1) ++ natLe 1 v.m) ∧ t.fnt.event.flags.getLsbD 2 = true ∧
  (v.purpose ≠ 1 ∨ v.counted.length + 1 < v.m → t.lay = s.lay ∧ t.fnt.session = some { v with
    counted := v.counted ++ [idNum k.tokenId], held := v.held || ((v.purpose == 3 || v.purpose == 6) && decide (v.m ≤ v.counted.length + 1)) }) ∧
  (v.purpose = 1 → v.m ≤ v.counted.length + 1 → t.fnt.session = none ∧
    (∀ l, s.lay.stage = .verified → s.lay.image = some l → padTo 48 l.digest = v.subject →
      t.lay = { s.lay with stage := .approved, approvedAt := some s.lay.activeSerial })) ∧ OnlyTokens s t

end Sys2Proof.Claims

/-- R525: insertion sets INSERTED; removal empties the slot at once, ends its transaction and sets REMOVED; with the bus free the
lowest waiting slot is powered and gets HELLO, then ASSIGN_TAG, SET_LINK, STATUS, GETs and COMMIT_SEQ, each after the answer to
the one before; a failed step gives ERROR, tried again after 100 ms and at most three times. R526: a command is sent up to three
times; the third failure in a bring-up is a failed step, in a COLLECT a removal followed by bring-up. R528: REFUSED or a first
block that fails twice reduces the link (a card that shows REFUSED on the slowest link goes on, log entry 171). R536: an unknown
write is committed where the same card reports its number, else not. R489, R531: a COLLECT is turned down by the token's
certificate, listing and life, or has it sign; a signature that verifies counts, after the share's write in BACKUP (R534). R535:
a removal in the busy hold of PUT_SHARE is outcome 0, once the hold has been seen released 1, any other 2, and counts nothing; a
committed share counts at the next tick or presentation (log entry 146). R532: EMPTY and ERROR give NO_TOKEN. -/
def Obligations.CardsAreBroughtUpAndSignOverTheBus : Prop :=
  (∀ (s : State) (n : Nat),
    n < 4 →
    ((s.slot n).present = false → ∃ t, exec (.cardInserted n) s = .next t ∧ SlotIs s t n { s.slot n with present := true, st := 1, fails := 0 } ∧
            t.ccb.event = s.ccb.event.set 0 ∧ t.ccb.trans = s.ccb.trans ∧ OnlyCard s t) ∧
        ((s.slot n).present = true → exec (.cardInserted n) s = .next s) ∧ ((s.slot n).present = false → exec (.cardRemoved n) s = .next s) ∧
        ((s.slot n).present = true → (∀ k, s.fnt.collect = some k → k.source ≠ n) → ∃ t, exec (.cardRemoved n) s = .next t ∧
            SlotIs s t n { pending := (s.slot n).pending, resolved := (s.slot n).resolved, pendingSeq := (s.slot n).pendingSeq, pendingId := (s.slot n).pendingId } ∧
            t.ccb.event = s.ccb.event.set 1 ∧ (∀ x, s.ccb.trans = some x → t.ccb.trans = if x.slot = n then none else some x) ∧ OnlyCard s t) ∧
        (∀ k c, (s.slot n).present = true → s.fnt.collect = some k → k.source = n → s.cmd k.entry = some c → c.basin = none →
          ∃ t o, exec (.cardRemoved n) s = .next t ∧ CollectEnds s t k 0x0801 (natLe 1 o) ∧ (t.slot n).st = 0 ∧ (t.slot n).pwr = false ∧ t.ccb.event = s.ccb.event.set 1 ∧
            o = (if k.stage = 8 then 1 else if k.stage = 5 ∧ (s.ccb.trans.any (fun x => x.busyFrom.isSome)) = true then 0 else 2) ∧
            (o = 0 → (t.slot n).pending = true ∧ (t.slot n).pendingSeq = k.seq) ∧ (o ≠ 0 → (t.slot n).pending = (s.slot n).pending))) ∧
  (∀ (s : State) (n : Nat),
    n < 4 →
    (s.ccb.trans = none → (s.slot n).st = 1 → (∀ m, m < n → (s.slot m).st ≠ 1) → ∃ t, exec (.cardBringUp n) s = .next t ∧
            Sends s t { slot := n, forCollect := false, opcode := 1, params := [] } 1 [] ∧ SlotIs s t n { s.slot n with st := 2, pwr := true } ∧ OnlyCard s t) ∧
        (s.ccb.trans.isSome = true ∨ (s.slot n).st ≠ 1 ∨ (∃ m, m < n ∧ (s.slot m).st = 1) → exec (.cardBringUp n) s = .next s) ∧
        (∀ t0, (s.slot n).st = 4 → (s.slot n).fails < 3 → (s.slot n).holdFrom = some t0 → t0 + 100000000 ≤ s.tbs.now →
            exec (.bringUpRetry n) s = .next (s.setSlot n { s.slot n with st := 1, holdFrom := none })) ∧
        ((s.slot n).st ≠ 4 ∨ 3 ≤ (s.slot n).fails ∨ (s.slot n).holdFrom = none → exec (.bringUpRetry n) s = .next s)) ∧
  (∀ (s : State) (n : Nat) (x : CardTrans) (st : BitVec 32) (y : CardSlot) (ex : Bytes),
    s.ccb.trans = some x →
    x.slot = n →
    x.busyFrom = none →
    x.forCollect = false →
    y = { s.slot n with authUsed := bitsAt st.toNat 0 17, refused := st.getLsbD 20 } →
    (x.opcode = 1 → ∃ t, exec (.cardResponse n (.long 1 st ex)) s = .next t ∧ Sends s t x 2 (ex.take 4 ++ [BitVec.ofNat 8 (0x50 + n)]) ∧
            SlotIs s t n { y with tokenId := padTo 16 ex } ∧ OnlyCard s t) ∧
        (x.opcode = 2 → ∃ t, exec (.cardResponse n (.short 2 st)) s = .next t ∧ Sends s t x 3 (BitVec.ofNat 8 (0x50 + n) :: natLe 1 1 ++ natLe 1 s.ccb.clockLimit) ∧
            SlotIs s t n { y with tag := 0x50 + n, width4 := true, clock := s.ccb.clockLimit } ∧ OnlyCard s t) ∧
        (x.opcode = 3 → st.getLsbD 20 = false → ∃ t, exec (.cardResponse n (.short 3 st)) s = .next t ∧ Sends s t x 4 [BitVec.ofNat 8 (0x50 + n)] ∧
            SlotIs s t n y ∧ OnlyCard s t) ∧
        (x.opcode = 3 → st.getLsbD 20 = true → (s.slot n).width4 = true → ∃ t, exec (.cardResponse n (.short 3 st)) s = .next t ∧
            Sends s t x 3 (BitVec.ofNat 8 (0x50 + n) :: (if (s.slot n).clock = 2 then natLe 1 1 ++ natLe 1 1 else natLe 1 0 ++ natLe 1 0)) ∧
            SlotIs s t n { y with width4 := decide ((s.slot n).clock = 2), clock := if (s.slot n).clock = 2 then 1 else 0 } ∧ OnlyCard s t) ∧
        (x.opcode = 3 → st.getLsbD 20 = true → (s.slot n).width4 = false → ∃ t, exec (.cardResponse n (.short 3 st)) s = .next t ∧
            Sends s t x 4 [BitVec.ofNat 8 (0x50 + n)] ∧ SlotIs s t n y ∧ OnlyCard s t) ∧
        (x.opcode = 4 → ∃ t, exec (.cardResponse n (.short 4 st)) s = .next t ∧ SlotIs s t n y ∧ OnlyCard s t ∧
            Sends s t { x with object := 0, block := 0, data := [], blockRetry := false } 0x10 (BitVec.ofNat 8 (0x50 + n) :: natLe 1 0 ++ natLe 2 0)) ∧
        (x.opcode = 5 → (s.slot n).pending = false → ∃ t, exec (.cardResponse n (.long 5 st ex)) s = .next t ∧ SlotIs s t n { y with st := 3, fails := 0 } ∧
            t.ccb.trans = none ∧ t.ccb.event = s.ccb.event.set 2 ∧ OnlyCard s t) ∧
        (x.opcode = 5 → (s.slot n).pending = true → (s.slot n).pendingId = (s.slot n).tokenId → (s.slot n).pendingSeq = field ex 0 4 →
          ∃ t, exec (.cardResponse n (.long 5 st ex)) s = .next t ∧ SlotIs s t n { y with st := 3, fails := 0, pending := false, resolved := 1 } ∧
            t.ccb.trans = none ∧ t.ccb.event = (s.ccb.event.set 4).set 2 ∧ (∀ v, s.fnt.session = some v → v.purpose = 4 →
              t.fnt = { s.fnt with session := some { v with confirmed := v.confirmed ++ [idNum (s.slot n).tokenId] } }) ∧ OnlyTokens s t) ∧
        (x.opcode = 5 → (s.slot n).pending = true → (s.slot n).pendingId ≠ (s.slot n).tokenId ∨ (s.slot n).pendingSeq ≠ field ex 0 4 →
          ∃ t, exec (.cardResponse n (.long 5 st ex)) s = .next t ∧ SlotIs s t n { y with st := 3, fails := 0, pending := false, resolved := 2 } ∧
            t.ccb.trans = none ∧ t.ccb.event = (s.ccb.event.set 4).set 2 ∧ OnlyCard s t)) ∧
  (∀ (s : State) (n : Nat) (x : CardTrans) (i : Instr),
    s.ccb.trans = some x →
    x.slot = n →
    x.busyFrom = none →
    (i = .cardResponseTimeout n ∨ i = .cardResponse n .badCrc) →
    (x.resent < 2 → exec (.cardResponseTimeout n) s = exec (.cardResponse n .badCrc) s ∧
          exec (.cardResponseTimeout n) s = .next { s with ccb := { s.ccb with trans := some { x with resent := x.resent + 1 } }, out := s.out ++ [.cardCommand n x.opcode x.params] } ∧ exec i s = .next { s with ccb := { s.ccb with trans := some { x with resent := x.resent + 1 } }, out := s.out ++ [.cardCommand n x.opcode x.params] }) ∧
        (2 ≤ x.resent → x.forCollect = false → ∃ t, exec i s = .next t ∧ t.ccb.trans = none ∧ t.ccb.event = s.ccb.event.set 3 ∧
          SlotIs s t n { s.slot n with st := 4, pwr := false, fails := (s.slot n).fails + 1, holdFrom := some s.tbs.now, tag := 0, width4 := false, clock := 0 } ∧ OnlyCard s t) ∧
        (∀ k c, 2 ≤ x.resent → x.forCollect = true → s.fnt.collect = some k → k.source = n → s.cmd k.entry = some c → c.basin = none → ∃ t, exec i s = .next t ∧
          CollectEnds s t k 0x0801 [2] ∧ t.ccb.trans = none ∧ t.ccb.event = (s.ccb.event.set 1).set 3 ∧ (t.slot n).st = 1 ∧ (t.slot n).present = true ∧ (t.slot n).pwr = false)) ∧
  (∀ (s : State) (n : Nat) (x : CardTrans) (st : BitVec 32) (y : CardSlot) (e : Bool),
    s.ccb.trans = some x →
    x.slot = n →
    x.busyFrom = none →
    y = { s.slot n with authUsed := bitsAt st.toNat 0 17, refused := st.getLsbD 20 } →
    (x.toSend = [] → exec (.receipt n st e) s = .next s) ∧
        (∀ b, x.toSend = [b] → ∃ t, exec (.receipt n st false) s = .next t ∧ SlotIs s t n y ∧ OnlyCard s t ∧ t.out = s.out ∧
            t.ccb.trans = some { x with toSend := [], blockRetry := false, busyFrom := some s.tbs.now }) ∧
        (∀ b b2 r, x.toSend = b :: b2 :: r → ∃ t, exec (.receipt n st false) s = .next t ∧ SlotIs s t n y ∧ OnlyCard s t ∧
            t.ccb.trans = some { x with toSend := b2 :: r, blockRetry := false } ∧ t.out = s.out ++ [.cardBlock n b2]) ∧
        (∀ b r, x.toSend = b :: r → x.blockRetry = false → ∃ t, exec (.receipt n st true) s = .next t ∧ SlotIs s t n y ∧ OnlyCard s t ∧
            t.ccb.trans = some { x with blockRetry := true } ∧ t.out = s.out ++ [.cardBlock n b])) ∧
  (∀ (s : State) (n : Nat) (x : CardTrans) (b d : Bytes),
    s.ccb.trans = some x →
    x.slot = n →
    x.opcode = 0x10 →
    d = x.data ++ padTo 256 b →
    ((x.object = 0 ∧ x.block < 25) ∨ (x.object = 1 ∧ x.block < 13) ∨ (x.object = 2 ∧ x.block < 4) → ∃ t, exec (.dataBlock n b true) s = .next t ∧ t.ccb.slots = s.ccb.slots ∧
            Sends s t { x with block := x.block + 1, data := d, blockRetry := false } 0x10 (BitVec.ofNat 8 (0x50 + n) :: natLe 1 x.object ++ natLe 2 (x.block + 1)) ∧ OnlyCard s t) ∧
        (x.forCollect = false → x.object = 0 → x.block = 25 → ∃ t, exec (.dataBlock n b true) s = .next t ∧ Sends s t { x with data := [] } 5 [BitVec.ofNat 8 (0x50 + n)] ∧
            (if tokenCertOk (d.take 6637) = true then SlotIs s t n { s.slot n with cert := some (tokenCertOf (d.take 6637)) } ∧ t.ccb.timeFloor = max s.ccb.timeFloor (field (d.take 6637) 0x18 8)
             else SlotIs s t n { s.slot n with cert := none } ∧ t.ccb.timeFloor = s.ccb.timeFloor) ∧ OnlyCard s t) ∧
        (x.blockRetry = false → exec (.dataBlock n b false) s = .next { s with
            ccb := { s.ccb with trans := some { x with blockRetry := true, resent := 0 } }, out := s.out ++ [.cardCommand n 0x10 x.params] }) ∧
        (x.blockRetry = true → x.forCollect = false → x.block = 0 → (s.slot n).width4 = true → (s.slot n).clock = 2 → ∃ t, exec (.dataBlock n b false) s = .next t ∧
            Sends s t x 3 (BitVec.ofNat 8 (0x50 + n) :: natLe 1 1 ++ natLe 1 1) ∧ SlotIs s t n { s.slot n with width4 := true, clock := 1 } ∧ OnlyCard s t) ∧
        (∀ k c v y, x.forCollect = true → x.object = 1 → x.block = 13 → s.fnt.collect = some k → s.cmd k.entry = some c → c.basin = none → s.fnt.session = some v → (s.slot n).cert = some y →
          if pairedValid y.signKey (ascii "OX-QUORUM") (approvalMessage s v k.tokenId) (d.take 3373) = true then
            (v.purpose ≠ 4 ∨ idNum k.tokenId ∈ v.confirmed → v.purpose ≠ 6 → ∃ t, exec (.dataBlock n b true) s = .next t ∧ Counted s t k v) ∧
            (v.purpose = 4 → idNum k.tokenId ∉ v.confirmed → ∃ t z, exec (.dataBlock n b true) s = .next t ∧ t.ccb.trans = some z ∧ z.opcode = 5 ∧ z.slot = n ∧
              t.out = s.out ++ [.cardCommand n 5 [BitVec.ofNat 8 (0x50 + n)]] ∧ t.fnt = { s.fnt with collect := some { k with stage := 4 } } ∧ OnlyTokens s t)
          else ∃ t, exec (.dataBlock n b true) s = .next t ∧ CollectEnds s t k 0x0805 [] ∧ t.ccb.trans = none)) ∧
  (∀ (s : State) (n : Nat) (x : CardTrans) (k : Collect) (c : Cmd) (v : Session) (st : BitVec 32) (ex : Bytes),
    s.ccb.trans = some x →
    x.slot = n →
    x.busyFrom = none →
    x.forCollect = true →
    s.fnt.collect = some k →
    s.cmd k.entry = some c →
    c.basin = none →
    s.fnt.session = some v →
    (x.opcode = 4 →
            match tokenDenied s v (s.slot n).cert (s.slot n).tokenId false (bitsAt st.toNat 0 17) with
            | some d => ∃ t, exec (.cardResponse n (.short 4 st)) s = .next t ∧ CollectEnds s t k d [] ∧ t.ccb.trans = none
            | none => ∃ t, exec (.cardResponse n (.short 4 st)) s = .next t ∧
                Sends s t { x with toSend := entriesOf 256 (padTo 256 (approvalMessage s v (s.slot n).tokenId)) } 0x12 [BitVec.ofNat 8 (0x50 + n)] ∧
                t.fnt = { s.fnt with collect := some { k with stage := 2, authUsed := bitsAt st.toNat 0 17, tokenId := (s.slot n).tokenId } } ∧ OnlyTokens s t) ∧
        (x.opcode = 0x12 → st.getLsbD 20 = true → ∃ t, exec (.cardResponse n (.short 0x12 st)) s = .next t ∧ CollectEnds s t k 0x0804 [] ∧ t.ccb.trans = none) ∧
        (∀ b r, x.opcode = 0x12 → st.getLsbD 20 = false → x.toSend = b :: r → ∃ t, exec (.cardResponse n (.short 0x12 st)) s = .next t ∧
            t.ccb.trans = some x ∧ t.out = s.out ++ [.cardBlock n b] ∧ t.fnt = s.fnt ∧ OnlyCard s t) ∧
        (x.opcode = 5 → (s.slot n).cert.isSome = true → 32 ≤ (s.drbg 8).pool.length → ∃ t z, exec (.cardResponse n (.long 5 st ex)) s = .next t ∧
            t.fnt = { s.fnt with collect := some { k with stage := 5, seq := (field ex 0 4 + 1) % 2 ^ 32 } } ∧ t.ccb.trans = some z ∧ z.opcode = 0x11 ∧ z.slot = n ∧
            z.toSend.length = 5 ∧ (z.toSend.getD 0 []).take 4 = natLe 4 ((field ex 0 4 + 1) % 2 ^ 32) ∧
            t.out = s.out ++ [.cardCommand n 0x11 (BitVec.ofNat 8 (0x50 + n) :: natLe 1 5)] ∧ DrewFromPool s t 8 32 ∧ OnlyTokens s t)) ∧
  (∀ (s : State) (n t0 : Nat) (x : CardTrans) (k : Collect) (c : Cmd) (v : Session),
    s.ccb.trans = some x →
    x.slot = n →
    x.forCollect = true →
    x.busyFrom = some t0 →
    s.fnt.collect = some k →
    k.source = n →
    s.cmd k.entry = some c →
    c.basin = none →
    s.fnt.session = some v →
    (∀ o, (k.stage = 2 ∧ o = 1) ∨ (k.stage = 6 ∧ o = 2) → ∃ t, exec (.busyHoldRelease n) s = .next t ∧ t.fnt = { s.fnt with collect := some { k with stage := k.stage + 1 } } ∧
            Sends s t { x with object := o, block := 0, data := [], blockRetry := false } 0x10 (BitVec.ofNat 8 (0x50 + n) :: natLe 1 o ++ natLe 2 0) ∧ OnlyTokens s t) ∧
        (k.stage = 5 → ∃ u, exec (.busyHoldRelease n) s = .next u ∧ u.ccb.trans = none ∧ u.cmd k.entry = s.cmd k.entry ∧
            u.fnt = { s.fnt with collect := some { k with stage := 8 }, session := some { v with confirmed := v.confirmed ++ [idNum k.tokenId] } } ∧ OnlyTokens s u) ∧
        (t0 + (if x.opcode = 0x12 then 2000000000 else 500000000) < s.tbs.now → ∃ t, exec (.busyHoldTimeout n) s = .next t ∧ t.ccb.trans = none ∧
            CollectEnds s t k 0x0801 [if k.stage = 8 then 1 else if k.stage = 5 then 0 else 2] ∧ (t.slot n).st = 1 ∧ (t.slot n).present = true ∧ (k.stage = 5 → (t.slot n).pending = true ∧ (t.slot n).pendingSeq = k.seq)) ∧
        (s.tbs.now ≤ t0 + (if x.opcode = 0x12 then 2000000000 else 500000000) → exec (.busyHoldTimeout n) s = .next s)) ∧
  (∀ (s : State) (e : Nat) (c : Cmd) (k : Collect) (v : Session),
    s.ready e (· == 0x0530) = some c →
    c.basin = none →
    param c.desc 1 1 = 1 →
    s.fnt.collect = some k →
    s.fnt.session = some v →
    (k.entry = e → k.stage = 8 → ∃ t, exec (.quorumCollect e) s = .next t ∧ Counted s t k v) ∧
        (k.entry ≠ e ∨ (k.stage ≠ 0 ∧ k.stage ≠ 8) → exec (.quorumCollect e) s = .next s)) ∧
  (∀ (s : State) (e : Nat) (c : Cmd),
    s.ready e (· == 0x0530) = some c →
    c.basin = none →
    param c.desc 1 1 = 1 →
    s.fnt.collect = none →
    ((∀ v, s.fnt.session = some v → v.purpose ≠ param c.desc 0 1 ∨ v.subject ≠ paramBytes c.desc 0x10 48) → ∃ t, exec (.quorumCollect e) s = .next t ∧ EndedWith t e 0x0231 [] ∧ t.fnt = s.fnt) ∧
        (∀ v k, s.fnt.session = some v → v.purpose = param c.desc 0 1 → v.subject = paramBytes c.desc 0x10 48 → k = { entry := e, source := param c.desc 2 1, since := s.tbs.now } →
          (k.source < 4 → (s.slot k.source).st = 0 ∨ (s.slot k.source).st = 4 → ∃ t, exec (.quorumCollect e) s = .next t ∧ CollectEnds s t k 0x0806 []) ∧
          (k.source < 4 → (s.slot k.source).st = 3 → s.ccb.trans = none → ∃ t, exec (.quorumCollect e) s = .next t ∧
            t.fnt = { s.fnt with collect := some { k with stage := 1, tokenId := (s.slot k.source).tokenId } } ∧
            Sends s t { slot := k.source, forCollect := true, opcode := 4, params := [] } 4 [BitVec.ofNat 8 (0x50 + k.source)] ∧ OnlyTokens s t) ∧
          (k.source < 4 → (s.slot k.source).st = 1 ∨ (s.slot k.source).st = 2 → exec (.quorumCollect e) s = .next { s with fnt := { s.fnt with collect := some k } }) ∧
          (4 ≤ k.source → v.purpose = 4 ∨ v.purpose = 6 → ∃ t, exec (.quorumCollect e) s = .next t ∧ CollectEnds s t k 0x0805 []) ∧
          (4 ≤ k.source → v.purpose ≠ 4 → v.purpose ≠ 6 → s.cls.mode = 3 → ∃ t, exec (.quorumCollect e) s = .next t ∧ CollectEnds s t k 0x0806 []) ∧
          (4 ≤ k.source → v.purpose ≠ 4 → v.purpose ≠ 6 → s.cls.mode ≠ 3 → s.cls.extField = false →
            exec (.quorumCollect e) s = .next { s with fnt := { s.fnt with collect := some { k with stage := 10 } }, cls := { s.cls with mode := 2, rate := 0, lastCycle := none } })))

/-- R539: a burst that deviates from the mean of the last eight by more than PING_THRESH % starts a cycle, any other joins the mean.
R541: a cycle records at most eight UIDs, each once, the branch whose first differing bit is 1 first; BADGE_SEEN sets. R542: for
a COLLECT, one UID is activated, two or more give MULTIPLE_BADGES and MULTIPLE, and none NO_TOKEN once 1 s has passed. R538: an
external field silences the reader, sets EXT_FIELD and ends a badge COLLECT with NO_TOKEN; it resumes after 1 s without one.
R540, R543: a bad frame above 106 kbit/s returns the badge to 106 once; the third in a row at 106 ends AMBIGUOUS_FIELD with the
carrier off. R544: IDENTIFY, the certificate's blocks, SIGN and the signature's blocks follow each other; 0x6985 gives
TOKEN_EXPIRED, a UID that differs NOT_COUNTED. R545: a badge that is gone gives NO_TOKEN. -/
def Obligations.BadgesAreEnumeratedAndSignOverTheAntenna : Prop :=
  (∀ (s : State) (a n m : Nat),
    readerOn s = true →
    s.fnt.collect = none →
    (s.cls.pingEn = true ∨ s.fnt.session.isSome = true) →
    (∀ t, s.cls.lastPing = some t → t + 1000000 * s.cls.pingPeriod ≤ s.tbs.now) →
    n = s.cls.bursts.length →
    m = s.cls.bursts.sum →
    (n ≠ 0 → s.cls.pingThresh * m + 100 * m < 100 * (a * n) ∨ s.cls.pingThresh * m + 100 * (a * n) < 100 * m →
          exec (.ping a) s = .next { s with cls := { s.cls with lastPing := some s.tbs.now, cycle := true } }) ∧
        (n = 0 ∨ (100 * (a * n) ≤ s.cls.pingThresh * m + 100 * m ∧ 100 * m ≤ s.cls.pingThresh * m + 100 * (a * n)) →
          exec (.ping a) s = .next { s with cls := { s.cls with lastPing := some s.tbs.now, bursts := (a :: s.cls.bursts).take 8 } })) ∧
  (∀ (s : State) (a : Nat),
    (readerOn s = false ∨ s.fnt.collect.isSome = true ∨ (s.cls.pingEn = false ∧ s.fnt.session = none)) →
    exec (.ping a) s = .next s) ∧
  (∀ (l : List (BitVec 80)) (a b : BitVec 80),
    (recorded l).length ≤ 8 ∧ (∀ u ∈ recorded l, u ∈ l) ∧ (recorded l).Pairwise (fun x y => foundBefore x y = true) ∧
        (∀ i, i < 80 → (∀ j, j < i → a.getLsbD j = b.getLsbD j) → a.getLsbD i = true → b.getLsbD i = false → recorded [b, a] = [a, b])) ∧
  (∀ (s : State) (l : List (BitVec 80)) (k : Collect) (c : Cmd),
    readerOn s = true →
    s.fnt.collect = some k →
    k.stage = 10 →
    (∀ u, s.cls.lastCycle = some u → u + 20000000 ≤ s.tbs.now) →
    s.cmd k.entry = some c →
    c.basin = none →
    (recorded l = [] → k.since + 1000000000 ≤ s.tbs.now → ∃ t, exec (.enumerationCycle l) s = .next t ∧ CollectEnds s t k 0x0806 [] ∧ t.cls.event = s.cls.event) ∧
        (recorded l = [] → s.tbs.now < k.since + 1000000000 → exec (.enumerationCycle l) s = .next { s with cls := { s.cls with uids := [], cycle := false, offFrom := none, lastCycle := some s.tbs.now } }) ∧
        (∀ u, recorded l = [u] → ∃ t, exec (.enumerationCycle l) s = .next t ∧ t.fnt = { s.fnt with collect := some { k with stage := 11, uid := u, badFrames := 0 } } ∧
            t.cls = { s.cls with uids := [u], cycle := false, offFrom := none, lastCycle := some s.tbs.now, event := s.cls.event.set 0 } ∧ t = { s with cls := t.cls, fnt := t.fnt, pairs := t.pairs, fns := t.fns, out := t.out }) ∧
        (2 ≤ (recorded l).length → ∃ t, exec (.enumerationCycle l) s = .next t ∧ CollectEnds s t k 0x0802 [] ∧ t.cls.uids = recorded l ∧ t.cls.event = (s.cls.event.set 0).set 1)) ∧
  (∀ (s : State) (l : List (BitVec 80)) (k : Collect) (u : Nat),
    s.fnt.collect = some k →
    (k.stage ≠ 10 ∨ (s.cls.lastCycle = some u ∧ s.tbs.now < u + 20000000)) →
    exec (.enumerationCycle l) s = .next s) ∧
  (∀ (s : State) (l : List (BitVec 80)),
    s.fnt.collect = none →
    (readerOn s = true → s.cls.cycle = true → ∃ t, exec (.enumerationCycle l) s = .next t ∧ t.cls = { s.cls with uids := recorded l, cycle := false, offFrom := none, lastCycle := some s.tbs.now, event := t.cls.event } ∧
            t.cls.event = (if recorded l = [] then s.cls.event else s.cls.event.set 0) ∧ t = { s with cls := t.cls, pairs := t.pairs, fns := t.fns, out := t.out }) ∧
        (readerOn s = false ∨ s.cls.cycle = false → exec (.enumerationCycle l) s = .next s)) ∧
  (∀ (s : State) (k : Collect) (c : Cmd),
    s.pwr.main = true →
    s.fnt.op ≠ .halted →
    s.fnt.collect = some k →
    s.cmd k.entry = some c →
    c.basin = none →
    ∃ t, exec .externalFieldDetected s = .next t ∧ t.cls.mode = 3 ∧ t.cls.extField = true ∧ t.cls.quietFrom = some s.tbs.now ∧ t.cls.cycle = false ∧
        t.cls.event = s.cls.event.set 3 ∧ (10 ≤ k.stage → CollectEnds s t k 0x0806 []) ∧ (k.stage < 10 → t.fnt = s.fnt ∧ t.slu = s.slu ∧ t.ccb = s.ccb)) ∧
  (∀ (s : State),
    (s.pwr.main = true → s.fnt.op ≠ .halted → s.fnt.collect = none → ∃ t, exec .externalFieldDetected s = .next t ∧
            t.cls = { s.cls with mode := 3, extField := true, quietFrom := some s.tbs.now, cycle := false, event := s.cls.event.set 3 } ∧
            t = { s with cls := t.cls, pairs := t.pairs, fns := t.fns, out := t.out }) ∧
        (s.pwr.main = false ∨ s.fnt.op = .halted → exec .externalFieldDetected s = .next s) ∧
        (s.cls.mode = 3 → (∀ t, s.cls.quietFrom = some t → t + 1000000000 ≤ s.tbs.now) → s.psp.field = false →
            exec .readerResume s = .next { s with cls := { s.cls with mode := 0, extField := false, quietFrom := none } }) ∧
        (s.cls.mode ≠ 3 ∨ s.psp.field = true ∨ (∃ t, s.cls.quietFrom = some t ∧ s.tbs.now < t + 1000000000) → exec .readerResume s = .next s)) ∧
  (∀ (s : State) (k : Collect) (c : Cmd),
    s.fnt.collect = some k →
    11 ≤ k.stage →
    s.cmd k.entry = some c →
    c.basin = none →
    (∃ t, exec .badgeTimeout s = .next t ∧ CollectEnds s t k 0x0806 []) ∧
        (0 < s.cls.rate → k.retriedRate = false → exec (.badgeResponse .bad) s = .next { s with
            cls := { s.cls with rate := 0 }, fnt := { s.fnt with collect := some { k with retriedRate := true, stage := 11, seq := k.stage, badFrames := 0 } } }) ∧
        (s.cls.rate = 0 → k.badFrames < 2 → exec (.badgeResponse .bad) s = .next { s with fnt := { s.fnt with collect := some { k with badFrames := k.badFrames + 1 } } }) ∧
        (s.cls.rate = 0 → 2 ≤ k.badFrames → ∃ t, exec (.badgeResponse .bad) s = .next t ∧ CollectEnds s t k 0x0803 [] ∧ t.cls.offFrom = some s.tbs.now ∧
            t.cls.mode = 0 ∧ t.cls.event = s.cls.event.set 2) ∧
        (∀ r, k.stage = 11 → k.seq = 0 → k.retriedRate = false → exec (.badgeResponse (.activated r)) s = .next { s with
            cls := { s.cls with rate := min (r % 4) s.cls.rateLimit }, fnt := { s.fnt with collect := some { k with stage := 12, badFrames := 0 } }
            out := s.out ++ [.badgeApdu 0x10 0 0 []] }) ∧
        (∀ x, k.stage ≠ 11 → ∃ t, exec (.badgeResponse (.apdu x 0x6985)) s = .next t ∧ CollectEnds s t k 0x0804 []) ∧
        (∀ x w, k.stage ≠ 11 → w ≠ 0x6985 → w ≠ 0x9000 → ∃ t, exec (.badgeResponse (.apdu x w)) s = .next t ∧ CollectEnds s t k 0x0805 [])) ∧
  (∀ (s : State) (k : Collect) (c : Cmd) (v : Session) (x d : Bytes),
    s.fnt.collect = some k →
    s.cmd k.entry = some c →
    c.basin = none →
    s.fnt.session = some v →
    d = k.data ++ padTo 256 x →
    (k.stage = 12 → k.uid ≠ BitVec.ofNat 80 (field (padTo 16 x) 6 10) → ∃ t, exec (.badgeResponse (.apdu x 0x9000)) s = .next t ∧ CollectEnds s t k 0x0805 []) ∧
        (k.stage = 12 → k.uid = BitVec.ofNat 80 (field (padTo 16 x) 6 10) → exec (.badgeResponse (.apdu x 0x9000)) s = .next { s with
            fnt := { s.fnt with collect := some { k with stage := 13, tokenId := padTo 16 x, authUsed := bitsAt (field x 16 4) 0 17, data := [], blocksLeft := 0, badFrames := 0 } }
            out := s.out ++ [.badgeApdu 0x12 0 0 []] }) ∧
        (∀ o, (k.stage = 13 ∧ k.blocksLeft < 25 ∧ o = 0) ∨ (k.stage = 15 ∧ k.blocksLeft < 13 ∧ o = 1) → exec (.badgeResponse (.apdu x 0x9000)) s = .next { s with
            fnt := { s.fnt with collect := some { k with data := d, blocksLeft := k.blocksLeft + 1, badFrames := 0 } }, out := s.out ++ [.badgeApdu 0x12 o (k.blocksLeft + 1) []] }) ∧
        (k.stage = 13 → k.blocksLeft = 25 → tokenCertOk (d.take 6637) = false → ∃ t, exec (.badgeResponse (.apdu x 0x9000)) s = .next t ∧ CollectEnds s t k 0x0805 []) ∧
        (k.stage = 13 → k.blocksLeft = 25 →
          if tokenCertOk (d.take 6637) = true then
            ∃ u, u = { s with ccb := { s.ccb with timeFloor := max s.ccb.timeFloor (field (d.take 6637) 0x18 8) } } ∧
            match tokenDenied u v (some (tokenCertOf (d.take 6637))) k.tokenId true k.authUsed with
            | some st => ∃ t, exec (.badgeResponse (.apdu x 0x9000)) s = .next t ∧ CollectEnds s t k st []
            | none => ∃ t, exec (.badgeResponse (.apdu x 0x9000)) s = .next t ∧ t.out = s.out ++ [.badgeApdu 0x14 0 0 (approvalMessage s v k.tokenId)] ∧
                t.fnt = { s.fnt with collect := some { k with stage := 14, cert := d.take 6637, data := [], blocksLeft := 0, badFrames := 0 } } ∧ t = { u with fnt := t.fnt, out := t.out }
          else ∃ t, exec (.badgeResponse (.apdu x 0x9000)) s = .next t ∧ CollectEnds s t k 0x0805 []) ∧
        (k.stage = 14 → exec (.badgeResponse (.apdu x 0x9000)) s = .next { s with
            fnt := { s.fnt with collect := some { k with stage := 15, data := [], blocksLeft := 0, badFrames := 0 } }, out := s.out ++ [.badgeApdu 0x12 1 0 []] }) ∧
        (k.stage = 15 → k.blocksLeft = 13 →
          if pairedValid (tokenCertOf k.cert).signKey (ascii "OX-QUORUM") (approvalMessage s v k.tokenId) (d.take 3373) = true then
            ∃ t, exec (.badgeResponse (.apdu x 0x9000)) s = .next t ∧ Counted s t k v
          else ∃ t, exec (.badgeResponse (.apdu x 0x9000)) s = .next t ∧ CollectEnds s t k 0x0805 [])) ∧
  (∀ (s : State) (f : BadgeFrame),
    (∀ k, s.fnt.collect = some k → k.stage < 11) →
    exec (.badgeResponse f) s = .next s ∧ exec .badgeTimeout s = .next s)

namespace Sys2Proof.Claims

/-- The tag answers and owns the FRAM until its response is over; nothing else changes. -/
def Says (s t : State) (err : Option Nat) (body : Bytes) : Prop :=
  t = { s with psp := { s.psp with fieldBusy := true }, out := s.out ++ [.tagReply err body] }

/-- A write of wire or of the passport's own to target k joins the staged blocks. -/
def StagedNow (s : State) (k : Nat) (x : Bytes) : State := { s with psp := { s.psp with staged := s.psp.staged ++ stagedBlocks k x s.tbs.now } }

/-- The same waits 100 us as BUSY while the tag owns the FRAM. -/
def BusyNow (s : State) (k : Nat) (x : Bytes) : State := { s with psp := { s.psp with busy := s.psp.busy ++ [(k, x, s.tbs.now + 100000)] } }

/-- The oldest staged block is committed; the last of its target ends UPDATING, takes effect whole and completes the command that waits for it. -/
def Commits (s t : State) (k : Nat) (fst lst : Bool) (x : Bytes) (rest : List (Nat × Bool × Bool × Bytes × Nat)) : Prop :=
  t.psp.staged.map (·.1) = rest.map (·.1) ∧ (fst = true → lst = false → k ∈ t.psp.updating) ∧ (lst = true → k ∉ t.psp.updating) ∧
  (lst = false → t.psp.records = s.psp.records ∧ t.psp.notes = s.psp.notes ∧ t.psp.counters = s.psp.counters ∧ t.psp.pws = s.psp.pws ∧ t.slu = s.slu) ∧
  (lst = true → (k ≤ 15 → tabGet t.psp.records k [] = x ∧ ∀ j, j ≠ k → tabGet t.psp.records j [] = tabGet s.psp.records j []) ∧ (16 ≤ k → k ≤ 31 → tabGet t.psp.notes k [] = []) ∧
    (k = 64 ∨ k = 65 → tabGet t.psp.pws (k - 64) [] = x ∧ tabGet t.psp.fails (k - 64) 0 = 0) ∧ (16 ≤ k → t.psp.records = s.psp.records) ∧
    (∀ e c, s.slu.mgmt.head? = some e → s.ready e (· == 0x0550) = some c → wireTarget c = k → ∃ y, t.cmd e = some y ∧ y.status = some 0 ∧ y.phase = .done)) ∧
  t.tbs = s.tbs ∧ t.lay = s.lay ∧ t.cis = s.cis

end Sys2Proof.Claims

/-- R546, R547: a request that the tag hears (field on, high rate, its mode naming the tag) is answered; blocks 0 to 15 map record
0; other commands answer code 0x01; STAY_QUIET has no response. R548, R550 to R554: the custom commands answer RANGE,
NOT_VISIBLE, UPDATING, AUTH_REQUIRED, LOCKED, FULL or LOW_FIELD by their conditions; a match of the password authorises and
clears its count, a mismatch counts (its code is the model's choice, log entry 31); a note takes the next index; a counter rises
by AMOUNT, saturating, in the copy that does not hold its value. R555 to R557: a PASSPORT.WRITE is staged, or waits 100 us as
BUSY; the last block of a record commits its whole content, ends UPDATING and completes the command. -/
def Obligations.PassportTagAnswersAndWireWrites : Prop :=
  (∀ (s : State),
    (s.psp.field = false → ∃ t, exec .fieldOn s = .next t ∧ t.psp = { s.psp with field := true, quiet := false, selected := false, auth := 0, event := t.psp.event } ∧
            (s.pwr.main = true → t.psp.event = s.psp.event.set 0) ∧ t = { s with psp := t.psp, pairs := t.pairs }) ∧
          (s.psp.field = true → exec .fieldOn s = .next s) ∧
          (∃ t, exec .fieldLost s = .next t ∧ t.psp = { s.psp with field := false, quiet := false, selected := false, auth := 0, fieldBusy := false } ∧ t.cls.extField = false ∧
            t = { s with psp := t.psp, cls := t.cls })) ∧
  (∀ (s : State) (r : TagReq) (b n c : Nat),
    tagHears s r = true →
    (∃ t, exec (.getSystemInformation r) s = .next t ∧ Says s t none ([4] ++ natLe 8 (tagUid s).toNat ++ [15, 3])) ∧
          (∃ t, exec (.unsupportedTagCommand r c) s = .next t ∧ Says s t (some 1) []) ∧
          (b < 16 → ∃ t, exec (.readSingleBlock r b) s = .next t ∧ Says s t none (slice (padTo 64 (tabGet s.psp.records 0 [])) (4 * b) 4)) ∧
          (1 ≤ n → b + n ≤ 16 → ∃ t, exec (.readMultipleBlocks r b n) s = .next t ∧ Says s t none (slice (padTo 64 (tabGet s.psp.records 0 [])) (4 * b) (4 * n))) ∧
          (16 ≤ b → ∃ t, exec (.readSingleBlock r b) s = .next t ∧ Says s t (some 0x10) []) ∧
          (n = 0 ∨ 16 < b + n → ∃ t, exec (.readMultipleBlocks r b n) s = .next t ∧ Says s t (some 0x10) []) ∧
          (∃ t, exec (.resetToReady r) s = .next t ∧ Says { s with psp := { s.psp with quiet := false, selected := false, auth := 0 } } t none []) ∧
          (r.mode ≠ .nonAddressed → exec (.stayQuiet r) s = .next { s with psp := { s.psp with quiet := true, selected := false, auth := 0 } })) ∧
  (∀ (s : State) (r : TagReq) (m : BitVec 64) (k n c : Nat) (pw : Bytes),
    tagHears s r = false →
    (s.psp.field = false ∨ r.highRate = false ∨ s.psp.quiet = true → exec (.inventory r m k none) s = .next s) ∧ exec (.stayQuiet r) s = .next s ∧ exec (.resetToReady r) s = .next s ∧ exec (.getSystemInformation r) s = .next s ∧
        exec (.readSingleBlock r n) s = .next s ∧ exec (.readMultipleBlocks r n c) s = .next s ∧ exec (.getDirectory r) s = .next s ∧ exec (.readRecord r n c k) s = .next s ∧
        exec (.auth r n pw) s = .next s ∧ exec (.appendNote r n pw) s = .next s ∧ exec (.increment r n c) s = .next s ∧ exec (.unsupportedTagCommand r n) s = .next s) ∧
  (∀ (s : State) (r : TagReq) (u m : BitVec 64) (n : Nat),
    s.psp.field = true →
    r.highRate = true →
    (n ≤ 64 → s.psp.quiet = false → (tagUid s).toNat % 2 ^ n = m.toNat % 2 ^ n → ∃ t, exec (.inventory r m n none) s = .next t ∧ Says s t none (0 :: natLe 8 (tagUid s).toNat)) ∧
          (n ≤ 64 → (tagUid s).toNat % 2 ^ n ≠ m.toNat % 2 ^ n → ∀ k, exec (.inventory r m n k) s = .next s) ∧
          (n ≤ 60 → s.psp.quiet = false → (tagUid s).toNat % 2 ^ n = m.toNat % 2 ^ n → ∀ k, (tagUid s).toNat / 2 ^ n % 16 = k →
            ∃ t, exec (.inventory r m n (some k)) s = .next t ∧ Says s t none (0 :: natLe 8 (tagUid s).toNat)) ∧
          (r.mode = .addressed u → u = tagUid s → ∃ t, exec (.select r) s = .next t ∧ Says { s with psp := { s.psp with selected := true, quiet := false } } t none []) ∧
          (r.mode = .addressed u → u ≠ tagUid s → exec (.select r) s = .next { s with psp := { s.psp with selected := false } })) ∧
  (∀ (s : State) (r : TagReq) (k off len : Nat),
    customHears s r = true →
    (∃ t bs, exec (.getDirectory r) s = .next t ∧ Says s t none bs ∧ bs.length = 128 ∧
            ∀ i, i < 64 → field bs (2 * i) 2 = if visible s i then (recordContent s i).length % 65536 else 0) ∧
          (48 ≤ k ∨ len = 0 ∨ 128 < len → ∃ t, exec (.readRecord r k off len) s = .next t ∧ Says s t (some 0xA7) []) ∧
          (k < 48 → 1 ≤ len → len ≤ 128 → 2 ≤ k → s.psp.view.getLsbD k = false → ∃ t, exec (.readRecord r k off len) s = .next t ∧ Says s t (some 0xA1) []) ∧
          (k < 48 → 1 ≤ len → len ≤ 128 → visible s k = true → k ∈ s.psp.updating → ∃ t, exec (.readRecord r k off len) s = .next t ∧ Says s t (some 0xA2) []) ∧
          (k < 48 → 1 ≤ len → len ≤ 128 → visible s k = true → k ∉ s.psp.updating → off + len ≤ (recordContent s k).length →
            ∃ t, exec (.readRecord r k off len) s = .next t ∧ Says s t none (slice (recordContent s k) off len))) ∧
  (∀ (s : State) (r : TagReq) (p n : Nat) (pw : Bytes),
    customHears s r = true →
    n = tabGet s.psp.fails p 0 →
    (2 ≤ p → ∃ t, exec (.auth r p pw) s = .next t ∧ Says s t (some 0xA7) []) ∧
          (p < 2 → allZero (tabGet s.psp.pws p []) = true ∨ 8 ≤ n → ∃ t, exec (.auth r p pw) s = .next t ∧ Says s t (some 0xA4) []) ∧
          (p < 2 → allZero (tabGet s.psp.pws p []) = false → n < 8 → r.energy = false → ∃ t, exec (.auth r p pw) s = .next t ∧ Says s t (some 0xA5) []) ∧
          (p < 2 → allZero (tabGet s.psp.pws p []) = false → n < 8 → r.energy = true → pw = tabGet s.psp.pws p [] → ∃ t, exec (.auth r p pw) s = .next t ∧
            Says { s with psp := { s.psp with fails := tabSet s.psp.fails p 0, auth := s.psp.auth ||| BitVec.ofNat 2 (2 ^ p) } } t none []) ∧
          (p < 2 → allZero (tabGet s.psp.pws p []) = false → n < 8 → r.energy = true → pw ≠ tabGet s.psp.pws p [] → ∃ t, exec (.auth r p pw) s = .next t ∧
            t.out = s.out ++ [.tagReply (some 0xA3) []] ∧ tabGet t.psp.fails p 0 = n + 1 ∧ t.psp.auth = s.psp.auth ∧ t.psp.pws = s.psp.pws ∧
            (s.pwr.main = true → t.psp.event = if n = 7 then (s.psp.event.set 2).set 3 else s.psp.event.set 2) ∧ t = { s with psp := t.psp, pairs := t.pairs, out := t.out })) ∧
  (∀ (s : State) (r : TagReq) (k : Nat) (x : Bytes) (l : List (Nat × Bytes)),
    customHears s r = true →
    l = tabGet s.psp.notes k [] →
    16 ≤ k →
    k ≤ 31 →
    (s.psp.auth.getLsbD 0 = false → ∃ t, exec (.appendNote r k x) s = .next t ∧ Says s t (some 0xA3) []) ∧
          (s.psp.auth.getLsbD 0 = true → k ∉ s.psp.updating → 32 ≤ l.length → ∃ t, exec (.appendNote r k x) s = .next t ∧ Says s t (some 0xA6) []) ∧
          (s.psp.auth.getLsbD 0 = true → k ∉ s.psp.updating → l.length < 32 → r.energy = false → ∃ t, exec (.appendNote r k x) s = .next t ∧ Says s t (some 0xA5) []) ∧
          (s.psp.auth.getLsbD 0 = true → k ∉ s.psp.updating → l.length < 32 → r.energy = true → ∃ t i, exec (.appendNote r k x) s = .next t ∧
            t.out = s.out ++ [.tagReply none (natLe 2 i)] ∧ tabGet t.psp.notes k [] = l ++ [(i, padTo 12 x)] ∧ (∀ y ∈ l, y.1 < 65535 → y.1 < i ∨ ∃ z ∈ l, 65535 ≤ z.1) ∧
            (∀ j, j ≠ k → tabGet t.psp.notes j [] = tabGet s.psp.notes j []) ∧ t.psp.records = s.psp.records ∧ t.psp.counters = s.psp.counters ∧
            t = { s with psp := t.psp, pairs := t.pairs, out := t.out })) ∧
  (∀ (s : State) (r : TagReq) (k a : Nat),
    customHears s r = true →
    (∀ y, (counterOf s k).1 = some y ∨ (counterOf s k).2 = some y → y.seq < 65536) →
    (k < 32 ∨ 47 < k ∨ a = 0 ∨ 255 < a → ∃ t, exec (.increment r k a) s = .next t ∧ Says s t (some 0xA7) []) ∧
          (32 ≤ k → k ≤ 47 → 1 ≤ a → a ≤ 255 → s.psp.auth.getLsbD 1 = false → ∃ t, exec (.increment r k a) s = .next t ∧ Says s t (some 0xA3) []) ∧
          (32 ≤ k → k ≤ 47 → 1 ≤ a → a ≤ 255 → s.psp.auth.getLsbD 1 = true → r.energy = false → ∃ t, exec (.increment r k a) s = .next t ∧ Says s t (some 0xA5) []) ∧
          (32 ≤ k → k ≤ 47 → 1 ≤ a → a ≤ 255 → s.psp.auth.getLsbD 1 = true → r.energy = true → ∃ t, exec (.increment r k a) s = .next t ∧
            counterValue t k = min 0xFFFFFFFF (counterValue s k + a) ∧ t.out = s.out ++ [.tagReply none (natLe 4 (counterValue t k))] ∧
            (∀ h, counterHolder (counterOf s k) = some (false, h) → (counterOf t k).1 = some h) ∧ (∀ h, counterHolder (counterOf s k) = some (true, h) → (counterOf t k).2 = some h) ∧
            (∀ j, j ≠ k → counterValue t j = counterValue s j) ∧ t = { s with psp := t.psp, pairs := t.pairs, out := t.out })) ∧
  (∀ (s : State) (e op : Nat) (c : Cmd),
    s.ready e (· == 0x0550) = some c →
    param c.desc 1 1 = op →
    wireUnderWay s (wireTarget c) = false →
    2 ≤ wireTarget c →
    wireTarget c ≠ 66 →
    (op = 0 → s.psp.fieldBusy = false → stageFits s (wireTarget c) (wireContent c) = true → exec (.passportRecordWrite e) s = .next (StagedNow s (wireTarget c) (wireContent c))) ∧
        (op = 1 → s.psp.fieldBusy = false → stageFits s (wireTarget c) (wireContent c) = true → exec (.eraseNotes e) s = .next (StagedNow s (wireTarget c) (wireContent c))) ∧
        (op = 2 → s.psp.fieldBusy = false → stageFits s (wireTarget c) (wireContent c) = true → exec (.passportIncrement e) s = .next (StagedNow s (wireTarget c) (wireContent c))) ∧
        (op = 3 → s.psp.fieldBusy = false → stageFits s (wireTarget c) (wireContent c) = true → exec (.setPassword e) s = .next (StagedNow s (wireTarget c) (wireContent c))) ∧
        (op = 0 → s.psp.fieldBusy = true → exec (.passportRecordWrite e) s = .next (BusyNow s (wireTarget c) (wireContent c))) ∧
        (op = 1 → s.psp.fieldBusy = true → exec (.eraseNotes e) s = .next (BusyNow s (wireTarget c) (wireContent c))) ∧
        (op = 2 → s.psp.fieldBusy = true → exec (.passportIncrement e) s = .next (BusyNow s (wireTarget c) (wireContent c))) ∧
        (op = 3 → s.psp.fieldBusy = true → exec (.setPassword e) s = .next (BusyNow s (wireTarget c) (wireContent c)))) ∧
  (∀ (s : State) (k : Nat) (fst lst : Bool) (x : Bytes) (t0 : Nat) (rest : List (Nat × Bool × Bool × Bytes × Nat)),
    s.psp.staged = (k, fst, lst, x, t0) :: rest →
    (∃ t, exec .stagedBlockCommit s = .next t ∧ Commits s t k fst lst x rest) ∧
        (s.psp.field = true → t0 + 5000000 ≤ s.tbs.now → ∃ t, exec .forcedCommit s = .next t ∧ Commits s t k fst lst x rest ∧ (s.pwr.main = true → t.psp.event = s.psp.event.set 4)) ∧
        (s.psp.field = false ∨ s.tbs.now < t0 + 5000000 → exec .forcedCommit s = .next s)) ∧
  (∀ (s : State) (k t0 : Nat) (x : Bytes) (rest : List (Nat × Bytes × Nat)),
    s.psp.busy = (k, x, t0) :: rest →
    (s.tbs.now < t0 → exec .wireBusyRetry s = .next s) ∧
          (t0 ≤ s.tbs.now → stageFits s k x = true → 2 ≤ k → k ≠ 66 → exec .wireBusyRetry s = .next { s with psp := { s.psp with
            fieldBusy := false, busy := rest, staged := s.psp.staged ++ stagedBlocks k x s.tbs.now } }))

/-- R100: an access that is not a naturally aligned one of 4 or 8 bytes completes with Unsupported Request and nothing else; R101: a
register as narrow as the access is answered at once, a wider one is latched when its lowest word is read and its other words
answer from the latch; R102: offset 0 reads 0x4C48_584F; R74: TBS_NOW by two 32-bit reads. R107: the 64 MSI-X entries of BAR2
hold address, data and mask (offsets as in log entry 138). In HALTED a write has no effect. R8, R9: a W1C write to WEL_FN_EVENT
clears each flag written unless a set arrives during the clear, and the count of a flag written becomes the number that arrived;
R589: either PF0 reaches the device-wide set. R10: after Layout lock an LRW register keeps its value except in MAINTENANCE;
TBS_PPS_OFFSET shows it. -/
def Obligations.RegistersAreReadLatchedAndWritten : Prop :=
  (∀ (s : State) (f : FnId) (off : Nat) (size : Nat) (v : BitVec 64) (arr : BitVec 64),
    barReached s f off = true →
    (¬ (size = 4 ∧ off % 4 = 0 ∨ size = 8 ∧ off % 8 = 0)) →
    exec (.wideRegisterRead f off size) s = .next { s with out := s.out ++ [.unsupportedRequest f off] } ∧
        exec (.registerWrite f off size v arr) s = .next { s with out := s.out ++ [.unsupportedRequest f off] }) ∧
  (∀ (s : State) (f : FnId) (off : Nat) (size : Nat) (v : BitVec 64) (arr : BitVec 64),
    barReached s f off = false →
    exec (.wideRegisterRead f off size) s = .next s ∧ exec (.registerWrite f off size v arr) s = .next s) ∧
  (∀ (s : State) (f : FnId) (off : Nat) (b w v : Nat),
    barReached s f off = true →
    off % 4 = 0 →
    s.fnt.op ≠ .halted →
    off < 0x1000000 →
    (b ≠ 0x104410 ∨ s.vlt.rewrap = false) →
    hostReg s f off = some (b, w, v) →
    (w ≤ 4 → exec (.wideRegisterRead f off 4) s = .next { s with out := s.out ++ [.readReply f off (BitVec.ofNat 64 (v / 2 ^ (8 * (off - b)) % 2 ^ 32))] }) ∧
          (4 < w → off = b → exec (.wideRegisterRead f off 4) s = .next { s with
            fns := tabSet s.fns (fnKey f) { s.fn f with latch := tabSet (s.fn f).latch b v }, out := s.out ++ [.readReply f off (BitVec.ofNat 64 (v % 2 ^ 32))] }) ∧
          (∀ z, 4 < w → off ≠ b → tabFind (s.fn f).latch b = some z →
            exec (.wideRegisterRead f off 4) s = .next { s with out := s.out ++ [.readReply f off (BitVec.ofNat 64 (z / 2 ^ (8 * (off - b)) % 2 ^ 32))] })) ∧
  (∀ (s : State) (f : FnId),
    barReached s f 0 = true →
    hostReg s f 0 = some (0, 4, 0x4C48584F) ∧ (f.vf = 0 → hostReg s f 0x102400 = some (0x102400, 8, s.tbs.now) ∧ hostReg s f 0x102404 = some (0x102400, 8, s.tbs.now))) ∧
  (∀ (s : State) (f : FnId) (n : Nat) (v arr : BitVec 64) (x : FnState) (e : BitVec 64 × BitVec 32),
    barReached s f 0x1000000 = true →
    s.fnt.op ≠ .halted →
    n < 64 →
    x = s.fn f →
    e = tabGet x.table n (0, 0) →
    exec (.wideRegisterRead f (0x1000000 + 16 * n) 4) s = .next { s with out := s.out ++ [.readReply f (0x1000000 + 16 * n) (BitVec.ofNat 64 (e.1.toNat % 2 ^ 32))] } ∧
        exec (.wideRegisterRead f (0x1000008 + 16 * n) 8) s = .next { s with out := s.out ++ [.readReply f (0x1000008 + 16 * n) (BitVec.ofNat 64 (e.2.toNat + bitNat (x.vecMask.getLsbD n) * 2 ^ 32))] } ∧
        exec (.registerWrite f (0x1000008 + 16 * n) 4 v arr) s = .next (s.setFn f { x with table := tabSet x.table n (e.1, BitVec.ofNat 32 (v.toNat % 2 ^ 32)) }) ∧
        (v.getLsbD 0 = true → exec (.registerWrite f (0x100000C + 16 * n) 4 v arr) s = .next (s.setFn f { x with vecMask := x.vecMask ||| BitVec.ofNat 64 (2 ^ n) })) ∧
        (v.getLsbD 0 = false → x.vecPending = 0 → exec (.registerWrite f (0x100000C + 16 * n) 4 v arr) s = .next (s.setFn f { x with vecMask := x.vecMask &&& ~~~ BitVec.ofNat 64 (2 ^ n) }))) ∧
  (∀ (s : State) (f : FnId) (off : Nat) (size : Nat) (v : BitVec 64) (arr : BitVec 64),
    s.fnt.op = .halted →
    off < 0x2000000 →
    off % 8 = 0 →
    (size = 4 ∨ size = 8) →
    exec (.registerWrite f off size v arr) s = .next s) ∧
  (∀ (s : State) (f : FnId) (v : BitVec 64) (arr : BitVec 64),
    barReached s f 0x100004 = true →
    s.fnt.op ≠ .halted →
    ∃ t, exec (.registerWrite f 0x100004 4 v arr) s = .next t ∧ t = { s with fns := t.fns } ∧ t.fn f = { s.fn f with event := (t.fn f).event } ∧
        (∀ g, fnKey g ≠ fnKey f → t.fn g = s.fn g) ∧ (∀ i, i < 5 → v.getLsbD i = true → (t.fn f).event.flags.getLsbD i = (bitsAt arr.toNat (8 * i) 8 != 0) ∧
            (t.fn f).event.count i = bitsAt arr.toNat (8 * i) 8) ∧
        (∀ i, i < 5 → v.getLsbD i = false → (t.fn f).event.flags.getLsbD i = ((s.fn f).event.flags.getLsbD i || (bitsAt arr.toNat (8 * i) 8 != 0)) ∧
          (t.fn f).event.count i = min 0xFF ((s.fn f).event.count i + bitsAt arr.toNat (8 * i) 8))) ∧
  (∀ (s : State) (p : Bool) (v : BitVec 64) (arr : BitVec 64),
    barReached s ⟨p, 0⟩ 0x102420 = true →
    s.fnt.op ≠ .halted →
    (s.lay.lock = false ∨ s.fnt.op = .maintenance → v.toNat % 2 ^ 30 ≤ 999999999 →
            exec (.registerWrite ⟨p, 0⟩ 0x102420 4 v arr) s = .next { s with tbs := { s.tbs with ppsOffset := v.toNat % 2 ^ 30 } }) ∧
          (s.lay.lock = true → s.fnt.op ≠ .maintenance → exec (.registerWrite ⟨p, 0⟩ 0x102420 4 v arr) s = .next s))

/-- R560, R564: while a rail of groups 2 to 4 is outside its window the reset is held; queues, commands, keys, basins and the
vault's secrets are gone, while OTP, MRAM, FRAM and the battery domain survive. R565, R567: only the code 0x5752_5354 starts a
warm reset, which keeps the Timebase count, its continuity and era, and the strap. R561, R562 and R76: the boot decodes the life
cycle, counts a power cycle, loads the Timebase from the battery domain, trains the dies that are not lost (one that trains at
no rate is lost, log entry 158) and then enters HALTED, RESTORE_ONLY or SEALED, or waits at step 10 until Spring has seeded.
Battery contents at the first boot, and MRAM's and OTP's, are the model's (log entries 50 and 51). Stated without a pending
life-cycle record. -/
def Obligations.PowerOnWarmResetAndBoot : Prop :=
  (∀ (s : State) (rail : Nat) (x : Bool),
    1 ≤ rail →
    rail < 9 →
    ∃ t, exec (.powerOnReset rail x) s = .next t ∧ t.pwr.por = true ∧ t.pwr.rails.getLsbD rail = false ∧ t.pwr.x16 = x ∧ t.queues = [] ∧ t.slu = {} ∧ t.basins = [] ∧
        t.fns = [] ∧ t.cis.records = [] ∧ t.vlt.unlocked = false ∧ t.tbs.now = 0 ∧ t.tbs.era = s.tbs.era ∧ t.fnt.op = .booting ∧ t.pairs = [] ∧ t.lay = {} ∧ t.armed = [] ∧
        t.mem = [] ∧ t.nvm = s.nvm ∧
        (rail ≠ 3 ∨ s.pwr.main = false → t.gro.sealBit = s.gro.sealBit ∧ t.gro.rootHalf = s.gro.rootHalf ∧ t.gro.sticky = s.gro.sticky ∧ t.gro.beb = s.gro.beb ∧
          t.gro.sync = s.gro.sync ∧ t.fnt.lifeWord = s.fnt.lifeWord ∧ t.fnt.owners = s.fnt.owners ∧ t.fnt.layoutSlots = s.fnt.layoutSlots ∧ t.gau.events = s.gau.events ∧
          t.psp.records = s.psp.records ∧ t.psp.notes = s.psp.notes ∧ t.cis.journal = s.cis.journal)) ∧
  (∀ (s : State) (rail : Nat) (x : Bool),
    (rail = 0 ∨ 9 ≤ rail) →
    exec (.powerOnReset rail x) s = .next s) ∧
  (∀ (s : State) (c : BitVec 32),
    s.fnt.pendingLc = none →
    (c ≠ 0x57525354 ∨ s.pwr.main = false ∨ s.pwr.por = true ∨ s.pwr.bootStep < 2 → exec (.warmDeviceReset c) s = .next s) ∧
          (c = 0x57525354 → s.pwr.main = true → s.pwr.por = false → 2 ≤ s.pwr.bootStep → ∃ t, exec (.warmDeviceReset c) s = .next t ∧ t.queues = [] ∧ t.slu.retire = [] ∧
            t.cis.records = [] ∧ t.basins = [] ∧ t.vlt.unlocked = false ∧ t.tbs.now = s.tbs.now ∧ t.tbs.era = s.tbs.era ∧ t.tbs.continuity = s.tbs.continuity ∧ t.pwr.x16 = s.pwr.x16 ∧
            (t.port false).linkUp = false ∧ (t.port true).linkUp = false ∧ (t.port false).training = !(s.port false).perst)) ∧
  (∀ (s : State),
    s.pwr.por = false →
    s.pwr.main = true →
    (s.fnt.op ≠ .booting → exec .boot s = .next s) ∧
          (s.fnt.op = .booting → s.pwr.bootStep = 1 → s.pwr.warm = false → s.spg.seeded = false → s.fnt.pendingLc = none → ∃ t, exec .boot s = .next t ∧ t.tbs.refOk = true ∧
            (s.life = 5 ∨ s.life = 0xF → t.fnt.op = .halted) ∧
            (s.life ≠ 5 → s.life ≠ 0xF → s.fnt.rbFnt ≤ s.fnt.runningRollback → t.gau.acc.cycles = min 0xFFFFFFFF (s.gau.acc.cycles + 1) ∧ t.fnt.bootDone = true ∧
              (∀ p, s.gro.retained = true → s.gro.sync = some p →
                t.tbs.now = (p.1 + (s.gro.night + 2 ^ 48 - p.2) % 2 ^ 48 * 30517578125 / 1000000 + 2 ^ 30) % 2 ^ 64 ∧ t.tbs.continuity = true ∧ t.tbs.era = s.tbs.era) ∧
              (s.gro.retained = false → t.tbs.now = 0 ∧ t.tbs.continuity = false ∧ t.tbs.era = (s.tbs.era + 1) % 65536) ∧
              (∀ d, d < 4 → ((t.die d).present = false → (t.die d).lost = true) ∧ ((t.die d).present = true → (s.die d).lost = false ∧ (t.die d).lost = false ∧ 1 ≤ (t.die d).rate ∧ (t.die d).rate ≤ 3)) ∧
              (s.gro.rootHalf = none → 3 ≤ s.life → t.fnt.op = .restoreOnly) ∧
              (s.gro.rootHalf ≠ none ∨ s.life < 3 → (s.gro.sealBit = true → t.fnt.op = .sealed) ∧
                (s.gro.sealBit = false → t.fnt.op = .booting ∧ t.pwr.bootStep = 10 ∧ t.cis.rootReady = s.gro.rootHalf.isSome))) ∧
            (s.life ≠ 5 → s.life ≠ 0xF → s.fnt.runningRollback < s.fnt.rbFnt → t.fnt.op = .halted))) ∧
  (∀ (s : State),
    (s.pwr.por = true ∨ s.pwr.main = false) →
    ∃ t, exec .boot s = .next t ∧ t.pwr.por = false ∧ t.pwr.main = true ∧ t.pwr.rails = BitVec.allOnes 9)

namespace Sys2Proof.Claims

/-- What every step keeps: fabric memory in its canonical form, TBS_NOW within its 64 bits and its fraction within its 32, and a TBS_SET
that waits within 64 bits. -/
def Kept (s : State) : Prop :=
  Memory.wf s.mem = true ∧ s.tbs.now < 2 ^ 64 ∧ s.tbs.frac < 2 ^ 32 ∧ ∀ v, s.tbs.setReq = some v → v < 2 ^ 64

/-- Nothing of the device's own waits for a tick: no brief tamper source is active, no re-attach, update or committed share is under way, no queue
holds a release or a descriptor back, and no basin is parked. -/
def Quiet (s : State) : Prop :=
  (∀ i, 12 ≤ i → s.gro.active.getLsbD i = false) ∧ (∀ p ∈ s.fns, p.2.reState ≠ 1) ∧ (∀ k, s.fnt.collect = some k → k.stage ≠ 8) ∧ s.bsn.updState ≠ 1 ∧
  (∀ p ∈ s.queues, p.2.releaseAt = none ∧ p.2.parkedDesc = none) ∧ ∀ n, n < 8 → (s.basin n).asleep = false

end Sys2Proof.Claims

/-- A step takes the command at the front of the queue and answers what exec answers on the state with the queue's rest. With an
empty queue it is a Timebase tick (the model's choice, log entry 2): R71's counter advances by 1 ns with no trim, and by at most
2 ns with any, while the device is powered and out of reset; where nothing of the device's own waits for a tick (log entries 36,
140, 146 and 2), only the counter, what it measures and the night counter change. -/
def Obligations.StepRunsTheFrontCommand : Prop :=
  (∀ (s : State) (c : Instr) (r : List Instr),
    step { s with pending := c :: r } = exec c { s with pending := r }) ∧
  (∀ (s : State),
    s.pending = [] →
    s.pwr.por = false →
    s.pwr.main = true →
    s.tbs.frac < 2 ^ 32 →
    s.tbs.now + 2 < 2 ^ 64 →
    s.tbs.trim ≤ 1000000 →
    -1000000 ≤ s.tbs.trim →
    ∃ t, step s = .next t ∧ s.tbs.now ≤ t.tbs.now ∧ t.tbs.now ≤ s.tbs.now + 2 ∧
        t.tbs.frac < 2 ^ 32 ∧ (s.tbs.trim = 0 → t.tbs.now = s.tbs.now + 1 ∧ t.tbs.frac = s.tbs.frac) ∧
        (Quiet s → t = { s with tbs := { s.tbs with now := t.tbs.now, frac := t.tbs.frac, ran := s.tbs.ran + (t.tbs.now - s.tbs.now), slewLeft := t.tbs.slewLeft, ppsHigh := t.tbs.ppsHigh }, gro := { s.gro with night := t.gro.night, nightFrac := t.gro.nightFrac } }))

/-- For every state in which fabric memory (R398) has its canonical form, TBS_NOW and its fraction stand within 64 and 32 bits (R71)
and a waiting TBS_SET within 64 (R79), every next state of a step has all of this too, whatever the command: keeper stores,
frames, job outputs, debug writes, life-cycle erasures and resets (R564) included. A step removes the front command from the
queue and adds none. Every command has an effect in every state: a step always answers a next state. -/
def Obligations.EveryStepKeepsMemoryTimeAndTheQueue : Prop :=
  (∀ (s t : State),
    Kept s →
    step s = .next t →
    Kept t ∧ t.pending = s.pending.drop 1) ∧
  (∀ (s : State),
    ∃ t, step s = .next t)

/-- The state after the release of power-on reset has what every step keeps, and the reset values of the register tables: the
Timebase's controls and counts 0 and its table FREE (R84), no Layout and no lock (R36), nothing admitted, SLU_PARK_IDLE 10,000
and SLU_WAKE_BACKLOG 20,000 (R172, R173), basins OFF (R195) with generations at 1 (R564), keeper registers zero with vector 0 to
be taken (R417, R446), the vault locked, no DRBG instantiated, OP_STATE BOOTING, card slots EMPTY with CLOCK_LIMIT 2 (R525), and
CLS_CTRL 200 ms, 4 % and 848 kbit/s. Fabric memory lists nothing (the model's choice, log entry 3) and the queue is empty. -/
def Obligations.ResetLeavesTheSpecsValues : Prop :=
  (Kept State.reset ∧ State.reset.mem = [] ∧ State.reset.pending = [] ∧ State.reset.out = []) ∧
  (State.reset.tbs.sync = .free ∧ State.reset.tbs.ppsEn = false ∧ State.reset.tbs.ppsOutEn = false ∧ State.reset.tbs.trim = 0 ∧ State.reset.tbs.event = {} ∧
        (∀ n, n < 64 → (State.reset.launch n).state = .free) ∧ State.reset.lay.stage = .empty ∧ State.reset.lay.active = none ∧ State.reset.lay.lock = false ∧
        State.reset.lay.event = {} ∧ State.reset.slu.launchSeq = 0 ∧ State.reset.slu.retire = [] ∧ State.reset.slu.admitted = 0 ∧ State.reset.slu.parkIdle = 10000 ∧
        State.reset.slu.wakeBacklog = 20000 ∧ State.reset.slu.suspend = 0 ∧ State.reset.slu.parkEn = false ∧ State.reset.bsn.event = {}) ∧
  (∀ (n : Nat),
    (State.reset.basin n).st = .off ∧ (State.reset.basin n).generation = 1 ∧ (State.reset.pair n).pc = 0 ∧ (State.reset.pair n).st = 0 ∧
        (State.reset.pair n).reg 3 = 0 ∧ (State.reset.pair n).resetVector = true ∧ (State.reset.pair n).ena = 0 ∧ (State.reset.drbg n).inst = false ∧
        (State.reset.slot n).st = 0 ∧ (State.reset.slot n).pwr = false) ∧
  (State.reset.vlt.unlocked = false ∧ State.reset.spg.seeded = false ∧ State.reset.fnt.op = .booting ∧ State.reset.fnt.generation = 1 ∧ State.reset.fnt.session = none ∧
        State.reset.ccb.clockLimit = 2 ∧ State.reset.ccb.trans = none ∧ State.reset.cls.pingPeriod = 200 ∧ State.reset.cls.pingThresh = 4 ∧ State.reset.cls.rateLimit = 3 ∧
        State.reset.cls.pingEn = false ∧ State.reset.gro.ok = false ∧ State.reset.pwr.bootStep = 1 ∧ State.reset.tbs.ppsOut = false)
end

