-- ==== Sys2Proof/Laws/Memory.lean ====
section
/-! SUPPORT. Fabric memory: reads after writes, and the canonical form that every memory operation keeps. -/

namespace Sys2Proof.Machine

theorem memAbove_mono {lo hi : Nat} (m : Memory) (h : lo ≤ hi) (w : memAbove hi m = true) : memAbove lo m = true := by
  cases m with
  | nil => rfl
  | cons x r => obtain ⟨k, v⟩ := x; simp [memAbove] at *; exact ⟨⟨by omega, w.1.2⟩, w.2⟩

theorem memAbove_memWrite (m : Memory) (lo a : Nat) (v : Byte) (h : lo ≤ a) (w : memAbove lo m = true) :
    memAbove lo (memWrite m a v) = true := by
  induction m generalizing lo with
  | nil => unfold memWrite; split <;> simp_all [memAbove]
  | cons x r ih =>
    obtain ⟨k, u⟩ := x
    simp only [memAbove, Bool.and_eq_true, decide_eq_true_eq] at w
    unfold memWrite; split
    · split
      · simp [memAbove, w]; simpa using w.1.2
      · next h1 h2 => simp [memAbove, h, w.2]; exact ⟨h2, by omega, by simpa using w.1.2⟩
    · split
      · split
        · exact memAbove_mono r (by omega) w.2
        · next h2 => simp [memAbove, w.1.1, w.2]; exact h2
      · simp only [memAbove, Bool.and_eq_true, decide_eq_true_eq]; exact ⟨w.1, ih (k + 1) (by omega) w.2⟩

/-- A write of one byte keeps the canonical form. -/
theorem memWrite_wf (m : Memory) (a : Nat) (v : Byte) (w : Memory.wf m = true) : Memory.wf (memWrite m a v) = true :=
  memAbove_memWrite m 0 a v (Nat.zero_le a) w

/-- A write of many bytes keeps the canonical form. -/
theorem memWriteN_wf (m : Memory) (a : Nat) (bs : Bytes) (w : Memory.wf m = true) : Memory.wf (memWriteN m a bs) = true := by
  induction bs generalizing m a with
  | nil => exact w
  | cons b r ih => exact ih _ _ (memWrite_wf m a b w)

theorem memRead_below (m : Memory) (lo a : Nat) (h : a < lo) (w : memAbove lo m = true) : memRead m a = 0 := by
  induction m generalizing lo with
  | nil => rfl
  | cons x r ih =>
    obtain ⟨k, u⟩ := x
    simp only [memAbove, Bool.and_eq_true, decide_eq_true_eq] at w
    simp only [memRead]; rw [if_neg (by omega)]; exact ih (k + 1) (by omega) w.2

theorem memRead_memWrite_above (m : Memory) (lo a : Nat) (v : Byte) (w : memAbove lo m = true) :
    memRead (memWrite m a v) a = v := by
  induction m generalizing lo with
  | nil => unfold memWrite; split <;> simp_all [memRead]
  | cons x r ih =>
    obtain ⟨k, u⟩ := x
    simp only [memAbove, Bool.and_eq_true, decide_eq_true_eq] at w
    unfold memWrite; split
    · split
      · next h1 h2 => simp only [memRead]; rw [if_neg (by omega), memRead_below r (k + 1) a (by omega) w.2, h2]
      · simp [memRead]
    · split
      · next h1 h2 =>
        split
        · next h3 => rw [memRead_below r (k + 1) a (by omega) w.2, h3]
        · simp [memRead, h2]
      · next h1 h2 => simp only [memRead]; rw [if_neg (by omega)]; exact ih (k + 1) w.2

/-- A read after a write of the same address gives the byte written. -/
theorem memRead_memWrite_same (m : Memory) (a : Nat) (v : Byte) (w : Memory.wf m = true) : memRead (memWrite m a v) a = v :=
  memRead_memWrite_above m 0 a v w

/-- A write leaves every other address alone. -/
theorem memRead_memWrite_other (m : Memory) {a c : Nat} (v : Byte) (h : c ≠ a) : memRead (memWrite m a v) c = memRead m c := by
  induction m with
  | nil => unfold memWrite; split <;> simp [memRead, Ne.symm h]
  | cons x r ih =>
    obtain ⟨k, u⟩ := x
    unfold memWrite; split
    · split <;> simp [memRead, Ne.symm h]
    · split
      · next e => subst e; split <;> simp [memRead, Ne.symm h]
      · simp [memRead, ih]

/-- A write of many bytes leaves every address outside them alone. -/
theorem memRead_memWriteN_other (m : Memory) (a : Nat) (bs : Bytes) (c : Nat) (h : c < a ∨ a + bs.length ≤ c) :
    memRead (memWriteN m a bs) c = memRead m c := by
  induction bs generalizing m a with
  | nil => rfl
  | cons b r ih =>
    simp only [List.length_cons] at h
    simp only [memWriteN]
    rw [ih _ _ (by omega), memRead_memWrite_other _ _ (by omega)]

/-- A read after a write of many bytes gives them back. -/
theorem memReadN_memWriteN (m : Memory) (a : Nat) (bs : Bytes) (w : Memory.wf m = true) :
    memReadN (memWriteN m a bs) a bs.length = bs := by
  induction bs generalizing m a with
  | nil => rfl
  | cons b r ih =>
    simp only [memWriteN, List.length_cons, memReadN]
    rw [ih _ _ (memWrite_wf m a b w), memRead_memWriteN_other _ _ _ _ (by omega), memRead_memWrite_same _ _ _ w]

end Sys2Proof.Machine
end

