-- ==== Sys2Proof/Laws/Tab.lean ====
section
/-! SUPPORT. Keyed lists and the accessors built on them: a read after a write of the same key gives the value written, and a
write leaves every other key alone. -/

namespace Sys2Proof.Machine

@[simp] theorem tabGet_tabSet_same {α : Type} (t : Tab α) (i : Nat) (v d : α) : tabGet (tabSet t i v) i d = v := by
  induction t with
  | nil => simp [tabSet, tabGet]
  | cons x r ih =>
    obtain ⟨k, w⟩ := x
    unfold tabSet; split
    · simp [tabGet]
    · split
      · simp [tabGet]
      · next h => simp [tabGet, Ne.symm h, ih]

theorem tabGet_tabSet_other {α : Type} (t : Tab α) {i j : Nat} (v d : α) (h : j ≠ i) :
    tabGet (tabSet t i v) j d = tabGet t j d := by
  induction t with
  | nil => simp [tabSet, tabGet, Ne.symm h]
  | cons x r ih =>
    obtain ⟨k, w⟩ := x
    unfold tabSet; split
    · simp [tabGet, Ne.symm h]
    · split
      · next e => subst e; simp [tabGet, Ne.symm h]
      · simp [tabGet, ih]

@[simp] theorem tabFind_tabSet_same {α : Type} (t : Tab α) (i : Nat) (v : α) : tabFind (tabSet t i v) i = some v := by
  induction t with
  | nil => simp [tabSet, tabFind]
  | cons x r ih =>
    obtain ⟨k, w⟩ := x
    unfold tabSet; split
    · simp [tabFind]
    · split
      · simp [tabFind]
      · next h => simp [tabFind, Ne.symm h, ih]

theorem tabFind_tabSet_other {α : Type} (t : Tab α) {i j : Nat} (v : α) (h : j ≠ i) :
    tabFind (tabSet t i v) j = tabFind t j := by
  induction t with
  | nil => simp [tabSet, tabFind, Ne.symm h]
  | cons x r ih =>
    obtain ⟨k, w⟩ := x
    unfold tabSet; split
    · simp [tabFind, Ne.symm h]
    · split
      · next e => subst e; simp [tabFind, Ne.symm h]
      · simp [tabFind, ih]

@[simp] theorem tabFind_tabDel_same {α : Type} (t : Tab α) (i : Nat) : tabFind (tabDel t i) i = none := by
  induction t with
  | nil => rfl
  | cons x r ih =>
    obtain ⟨k, w⟩ := x
    by_cases h : k = i
    · simpa [tabDel, List.filter_cons, h] using ih
    · simpa [tabDel, List.filter_cons, h, tabFind] using ih

theorem tabFind_tabDel_other {α : Type} (t : Tab α) {i j : Nat} (h : j ≠ i) : tabFind (tabDel t i) j = tabFind t j := by
  induction t with
  | nil => rfl
  | cons x r ih =>
    obtain ⟨k, w⟩ := x
    by_cases e : k = i
    · subst e; simpa [tabDel, List.filter_cons, tabFind, Ne.symm h] using ih
    · by_cases e2 : k = j
      · subst e2; simp [tabDel, e, tabFind]
      · simpa [tabDel, List.filter_cons, e, e2, tabFind] using ih

@[simp] theorem State.pair_setPair (s : State) (p : Nat) (x : KPair) : (s.setPair p x).pair p = x := by simp [State.pair, State.setPair]
theorem State.pair_setPair_other (s : State) {p q : Nat} (x : KPair) (h : q ≠ p) : (s.setPair p x).pair q = s.pair q := by
  simp [State.pair, State.setPair, tabGet_tabSet_other _ _ _ h]
@[simp] theorem State.basin_setBasin (s : State) (b : Nat) (x : Basin) : (s.setBasin b x).basin b = x := by
  simp [State.basin, State.setBasin]
theorem State.basin_setBasin_other (s : State) {b c : Nat} (x : Basin) (h : c ≠ b) : (s.setBasin b x).basin c = s.basin c := by
  simp [State.basin, State.setBasin, tabGet_tabSet_other _ _ _ h]
@[simp] theorem State.fn_setFn (s : State) (f : FnId) (x : FnState) : (s.setFn f x).fn f = x := by simp [State.fn, State.setFn]
@[simp] theorem State.port_setPort (s : State) (p : Bool) (x : PortState) : (s.setPort p x).port p = x := by
  simp [State.port, State.setPort]
@[simp] theorem State.queue_setQueue (s : State) (f : FnId) (q : Nat) (x : Queue) : (s.setQueue f q x).queue f q = x := by
  simp [State.queue, State.setQueue]
@[simp] theorem State.cmd_setCmd (s : State) (e : Nat) (c : Cmd) : (s.setCmd e c).cmd e = some c := by simp [State.cmd, State.setCmd]
theorem State.cmd_setCmd_other (s : State) {e g : Nat} (c : Cmd) (h : g ≠ e) : (s.setCmd e c).cmd g = s.cmd g := by
  simp [State.cmd, State.setCmd, tabFind_tabSet_other _ _ h]
@[simp] theorem State.cmd_dropCmd (s : State) (e : Nat) : (s.dropCmd e).cmd e = none := by simp [State.cmd, State.dropCmd]
theorem State.cmd_dropCmd_other (s : State) {e g : Nat} (h : g ≠ e) : (s.dropCmd e).cmd g = s.cmd g := by
  simp [State.cmd, State.dropCmd, tabFind_tabDel_other _ h]
@[simp] theorem State.drbg_setDrbg (s : State) (n : Nat) (x : Drbg) : (s.setDrbg n x).drbg n = x := by simp [State.drbg, State.setDrbg]
@[simp] theorem State.die_setDie (s : State) (d : Nat) (x : Die) : (s.setDie d x).die d = x := by simp [State.die, State.setDie]
@[simp] theorem State.slot_setSlot (s : State) (n : Nat) (x : CardSlot) : (s.setSlot n x).slot n = x := by
  simp [State.slot, State.setSlot]

end Sys2Proof.Machine
end

