-- ==== Sys2Proof/Laws/State.lean ====
section
/-! SUPPORT. One lemma per field of State per named update: what each update leaves as it was. -/

namespace Sys2Proof.Machine

variable (s : State)

/-! ### State.setFn -/

@[simp] theorem State.setFn_tbs (f : FnId) (x : FnState) : (s.setFn f x).tbs = s.tbs := rfl
@[simp] theorem State.setFn_lay (f : FnId) (x : FnState) : (s.setFn f x).lay = s.lay := rfl
@[simp] theorem State.setFn_ports (f : FnId) (x : FnState) : (s.setFn f x).ports = s.ports := rfl
@[simp] theorem State.setFn_queues (f : FnId) (x : FnState) : (s.setFn f x).queues = s.queues := rfl
@[simp] theorem State.setFn_slu (f : FnId) (x : FnState) : (s.setFn f x).slu = s.slu := rfl
@[simp] theorem State.setFn_bsn (f : FnId) (x : FnState) : (s.setFn f x).bsn = s.bsn := rfl
@[simp] theorem State.setFn_basins (f : FnId) (x : FnState) : (s.setFn f x).basins = s.basins := rfl
@[simp] theorem State.setFn_cis (f : FnId) (x : FnState) : (s.setFn f x).cis = s.cis := rfl
@[simp] theorem State.setFn_vlt (f : FnId) (x : FnState) : (s.setFn f x).vlt = s.vlt := rfl
@[simp] theorem State.setFn_wei (f : FnId) (x : FnState) : (s.setFn f x).wei = s.wei := rfl
@[simp] theorem State.setFn_pairs (f : FnId) (x : FnState) : (s.setFn f x).pairs = s.pairs := rfl
@[simp] theorem State.setFn_spg (f : FnId) (x : FnState) : (s.setFn f x).spg = s.spg := rfl
@[simp] theorem State.setFn_fnt (f : FnId) (x : FnState) : (s.setFn f x).fnt = s.fnt := rfl
@[simp] theorem State.setFn_gro (f : FnId) (x : FnState) : (s.setFn f x).gro = s.gro := rfl
@[simp] theorem State.setFn_gau (f : FnId) (x : FnState) : (s.setFn f x).gau = s.gau := rfl
@[simp] theorem State.setFn_ccb (f : FnId) (x : FnState) : (s.setFn f x).ccb = s.ccb := rfl
@[simp] theorem State.setFn_cls (f : FnId) (x : FnState) : (s.setFn f x).cls = s.cls := rfl
@[simp] theorem State.setFn_psp (f : FnId) (x : FnState) : (s.setFn f x).psp = s.psp := rfl
@[simp] theorem State.setFn_pwr (f : FnId) (x : FnState) : (s.setFn f x).pwr = s.pwr := rfl
@[simp] theorem State.setFn_mem (f : FnId) (x : FnState) : (s.setFn f x).mem = s.mem := rfl
@[simp] theorem State.setFn_nvm (f : FnId) (x : FnState) : (s.setFn f x).nvm = s.nvm := rfl
@[simp] theorem State.setFn_out (f : FnId) (x : FnState) : (s.setFn f x).out = s.out := rfl
@[simp] theorem State.setFn_freeCtr (f : FnId) (x : FnState) : (s.setFn f x).freeCtr = s.freeCtr := rfl
@[simp] theorem State.setFn_pending (f : FnId) (x : FnState) : (s.setFn f x).pending = s.pending := rfl

/-! ### State.setPort -/

@[simp] theorem State.setPort_tbs (p : Bool) (x : PortState) : (s.setPort p x).tbs = s.tbs := rfl
@[simp] theorem State.setPort_lay (p : Bool) (x : PortState) : (s.setPort p x).lay = s.lay := rfl
@[simp] theorem State.setPort_fns (p : Bool) (x : PortState) : (s.setPort p x).fns = s.fns := rfl
@[simp] theorem State.setPort_queues (p : Bool) (x : PortState) : (s.setPort p x).queues = s.queues := rfl
@[simp] theorem State.setPort_slu (p : Bool) (x : PortState) : (s.setPort p x).slu = s.slu := rfl
@[simp] theorem State.setPort_bsn (p : Bool) (x : PortState) : (s.setPort p x).bsn = s.bsn := rfl
@[simp] theorem State.setPort_basins (p : Bool) (x : PortState) : (s.setPort p x).basins = s.basins := rfl
@[simp] theorem State.setPort_cis (p : Bool) (x : PortState) : (s.setPort p x).cis = s.cis := rfl
@[simp] theorem State.setPort_vlt (p : Bool) (x : PortState) : (s.setPort p x).vlt = s.vlt := rfl
@[simp] theorem State.setPort_wei (p : Bool) (x : PortState) : (s.setPort p x).wei = s.wei := rfl
@[simp] theorem State.setPort_pairs (p : Bool) (x : PortState) : (s.setPort p x).pairs = s.pairs := rfl
@[simp] theorem State.setPort_spg (p : Bool) (x : PortState) : (s.setPort p x).spg = s.spg := rfl
@[simp] theorem State.setPort_fnt (p : Bool) (x : PortState) : (s.setPort p x).fnt = s.fnt := rfl
@[simp] theorem State.setPort_gro (p : Bool) (x : PortState) : (s.setPort p x).gro = s.gro := rfl
@[simp] theorem State.setPort_gau (p : Bool) (x : PortState) : (s.setPort p x).gau = s.gau := rfl
@[simp] theorem State.setPort_ccb (p : Bool) (x : PortState) : (s.setPort p x).ccb = s.ccb := rfl
@[simp] theorem State.setPort_cls (p : Bool) (x : PortState) : (s.setPort p x).cls = s.cls := rfl
@[simp] theorem State.setPort_psp (p : Bool) (x : PortState) : (s.setPort p x).psp = s.psp := rfl
@[simp] theorem State.setPort_pwr (p : Bool) (x : PortState) : (s.setPort p x).pwr = s.pwr := rfl
@[simp] theorem State.setPort_mem (p : Bool) (x : PortState) : (s.setPort p x).mem = s.mem := rfl
@[simp] theorem State.setPort_nvm (p : Bool) (x : PortState) : (s.setPort p x).nvm = s.nvm := rfl
@[simp] theorem State.setPort_out (p : Bool) (x : PortState) : (s.setPort p x).out = s.out := rfl
@[simp] theorem State.setPort_freeCtr (p : Bool) (x : PortState) : (s.setPort p x).freeCtr = s.freeCtr := rfl
@[simp] theorem State.setPort_pending (p : Bool) (x : PortState) : (s.setPort p x).pending = s.pending := rfl

/-! ### State.setQueue -/

@[simp] theorem State.setQueue_tbs (f : FnId) (q : Nat) (x : Queue) : (s.setQueue f q x).tbs = s.tbs := rfl
@[simp] theorem State.setQueue_lay (f : FnId) (q : Nat) (x : Queue) : (s.setQueue f q x).lay = s.lay := rfl
@[simp] theorem State.setQueue_fns (f : FnId) (q : Nat) (x : Queue) : (s.setQueue f q x).fns = s.fns := rfl
@[simp] theorem State.setQueue_ports (f : FnId) (q : Nat) (x : Queue) : (s.setQueue f q x).ports = s.ports := rfl
@[simp] theorem State.setQueue_slu (f : FnId) (q : Nat) (x : Queue) : (s.setQueue f q x).slu = s.slu := rfl
@[simp] theorem State.setQueue_bsn (f : FnId) (q : Nat) (x : Queue) : (s.setQueue f q x).bsn = s.bsn := rfl
@[simp] theorem State.setQueue_basins (f : FnId) (q : Nat) (x : Queue) : (s.setQueue f q x).basins = s.basins := rfl
@[simp] theorem State.setQueue_cis (f : FnId) (q : Nat) (x : Queue) : (s.setQueue f q x).cis = s.cis := rfl
@[simp] theorem State.setQueue_vlt (f : FnId) (q : Nat) (x : Queue) : (s.setQueue f q x).vlt = s.vlt := rfl
@[simp] theorem State.setQueue_wei (f : FnId) (q : Nat) (x : Queue) : (s.setQueue f q x).wei = s.wei := rfl
@[simp] theorem State.setQueue_pairs (f : FnId) (q : Nat) (x : Queue) : (s.setQueue f q x).pairs = s.pairs := rfl
@[simp] theorem State.setQueue_spg (f : FnId) (q : Nat) (x : Queue) : (s.setQueue f q x).spg = s.spg := rfl
@[simp] theorem State.setQueue_fnt (f : FnId) (q : Nat) (x : Queue) : (s.setQueue f q x).fnt = s.fnt := rfl
@[simp] theorem State.setQueue_gro (f : FnId) (q : Nat) (x : Queue) : (s.setQueue f q x).gro = s.gro := rfl
@[simp] theorem State.setQueue_gau (f : FnId) (q : Nat) (x : Queue) : (s.setQueue f q x).gau = s.gau := rfl
@[simp] theorem State.setQueue_ccb (f : FnId) (q : Nat) (x : Queue) : (s.setQueue f q x).ccb = s.ccb := rfl
@[simp] theorem State.setQueue_cls (f : FnId) (q : Nat) (x : Queue) : (s.setQueue f q x).cls = s.cls := rfl
@[simp] theorem State.setQueue_psp (f : FnId) (q : Nat) (x : Queue) : (s.setQueue f q x).psp = s.psp := rfl
@[simp] theorem State.setQueue_pwr (f : FnId) (q : Nat) (x : Queue) : (s.setQueue f q x).pwr = s.pwr := rfl
@[simp] theorem State.setQueue_mem (f : FnId) (q : Nat) (x : Queue) : (s.setQueue f q x).mem = s.mem := rfl
@[simp] theorem State.setQueue_nvm (f : FnId) (q : Nat) (x : Queue) : (s.setQueue f q x).nvm = s.nvm := rfl
@[simp] theorem State.setQueue_out (f : FnId) (q : Nat) (x : Queue) : (s.setQueue f q x).out = s.out := rfl
@[simp] theorem State.setQueue_freeCtr (f : FnId) (q : Nat) (x : Queue) : (s.setQueue f q x).freeCtr = s.freeCtr := rfl
@[simp] theorem State.setQueue_pending (f : FnId) (q : Nat) (x : Queue) : (s.setQueue f q x).pending = s.pending := rfl

/-! ### State.setBasin -/

@[simp] theorem State.setBasin_tbs (b : Nat) (x : Basin) : (s.setBasin b x).tbs = s.tbs := rfl
@[simp] theorem State.setBasin_lay (b : Nat) (x : Basin) : (s.setBasin b x).lay = s.lay := rfl
@[simp] theorem State.setBasin_fns (b : Nat) (x : Basin) : (s.setBasin b x).fns = s.fns := rfl
@[simp] theorem State.setBasin_ports (b : Nat) (x : Basin) : (s.setBasin b x).ports = s.ports := rfl
@[simp] theorem State.setBasin_queues (b : Nat) (x : Basin) : (s.setBasin b x).queues = s.queues := rfl
@[simp] theorem State.setBasin_slu (b : Nat) (x : Basin) : (s.setBasin b x).slu = s.slu := rfl
@[simp] theorem State.setBasin_bsn (b : Nat) (x : Basin) : (s.setBasin b x).bsn = s.bsn := rfl
@[simp] theorem State.setBasin_cis (b : Nat) (x : Basin) : (s.setBasin b x).cis = s.cis := rfl
@[simp] theorem State.setBasin_vlt (b : Nat) (x : Basin) : (s.setBasin b x).vlt = s.vlt := rfl
@[simp] theorem State.setBasin_wei (b : Nat) (x : Basin) : (s.setBasin b x).wei = s.wei := rfl
@[simp] theorem State.setBasin_pairs (b : Nat) (x : Basin) : (s.setBasin b x).pairs = s.pairs := rfl
@[simp] theorem State.setBasin_spg (b : Nat) (x : Basin) : (s.setBasin b x).spg = s.spg := rfl
@[simp] theorem State.setBasin_fnt (b : Nat) (x : Basin) : (s.setBasin b x).fnt = s.fnt := rfl
@[simp] theorem State.setBasin_gro (b : Nat) (x : Basin) : (s.setBasin b x).gro = s.gro := rfl
@[simp] theorem State.setBasin_gau (b : Nat) (x : Basin) : (s.setBasin b x).gau = s.gau := rfl
@[simp] theorem State.setBasin_ccb (b : Nat) (x : Basin) : (s.setBasin b x).ccb = s.ccb := rfl
@[simp] theorem State.setBasin_cls (b : Nat) (x : Basin) : (s.setBasin b x).cls = s.cls := rfl
@[simp] theorem State.setBasin_psp (b : Nat) (x : Basin) : (s.setBasin b x).psp = s.psp := rfl
@[simp] theorem State.setBasin_pwr (b : Nat) (x : Basin) : (s.setBasin b x).pwr = s.pwr := rfl
@[simp] theorem State.setBasin_mem (b : Nat) (x : Basin) : (s.setBasin b x).mem = s.mem := rfl
@[simp] theorem State.setBasin_nvm (b : Nat) (x : Basin) : (s.setBasin b x).nvm = s.nvm := rfl
@[simp] theorem State.setBasin_out (b : Nat) (x : Basin) : (s.setBasin b x).out = s.out := rfl
@[simp] theorem State.setBasin_freeCtr (b : Nat) (x : Basin) : (s.setBasin b x).freeCtr = s.freeCtr := rfl
@[simp] theorem State.setBasin_pending (b : Nat) (x : Basin) : (s.setBasin b x).pending = s.pending := rfl

/-! ### State.setCmd -/

@[simp] theorem State.setCmd_tbs (e : Nat) (c : Cmd) : (s.setCmd e c).tbs = s.tbs := rfl
@[simp] theorem State.setCmd_lay (e : Nat) (c : Cmd) : (s.setCmd e c).lay = s.lay := rfl
@[simp] theorem State.setCmd_fns (e : Nat) (c : Cmd) : (s.setCmd e c).fns = s.fns := rfl
@[simp] theorem State.setCmd_ports (e : Nat) (c : Cmd) : (s.setCmd e c).ports = s.ports := rfl
@[simp] theorem State.setCmd_queues (e : Nat) (c : Cmd) : (s.setCmd e c).queues = s.queues := rfl
@[simp] theorem State.setCmd_bsn (e : Nat) (c : Cmd) : (s.setCmd e c).bsn = s.bsn := rfl
@[simp] theorem State.setCmd_basins (e : Nat) (c : Cmd) : (s.setCmd e c).basins = s.basins := rfl
@[simp] theorem State.setCmd_cis (e : Nat) (c : Cmd) : (s.setCmd e c).cis = s.cis := rfl
@[simp] theorem State.setCmd_vlt (e : Nat) (c : Cmd) : (s.setCmd e c).vlt = s.vlt := rfl
@[simp] theorem State.setCmd_wei (e : Nat) (c : Cmd) : (s.setCmd e c).wei = s.wei := rfl
@[simp] theorem State.setCmd_pairs (e : Nat) (c : Cmd) : (s.setCmd e c).pairs = s.pairs := rfl
@[simp] theorem State.setCmd_spg (e : Nat) (c : Cmd) : (s.setCmd e c).spg = s.spg := rfl
@[simp] theorem State.setCmd_fnt (e : Nat) (c : Cmd) : (s.setCmd e c).fnt = s.fnt := rfl
@[simp] theorem State.setCmd_gro (e : Nat) (c : Cmd) : (s.setCmd e c).gro = s.gro := rfl
@[simp] theorem State.setCmd_gau (e : Nat) (c : Cmd) : (s.setCmd e c).gau = s.gau := rfl
@[simp] theorem State.setCmd_ccb (e : Nat) (c : Cmd) : (s.setCmd e c).ccb = s.ccb := rfl
@[simp] theorem State.setCmd_cls (e : Nat) (c : Cmd) : (s.setCmd e c).cls = s.cls := rfl
@[simp] theorem State.setCmd_psp (e : Nat) (c : Cmd) : (s.setCmd e c).psp = s.psp := rfl
@[simp] theorem State.setCmd_pwr (e : Nat) (c : Cmd) : (s.setCmd e c).pwr = s.pwr := rfl
@[simp] theorem State.setCmd_mem (e : Nat) (c : Cmd) : (s.setCmd e c).mem = s.mem := rfl
@[simp] theorem State.setCmd_nvm (e : Nat) (c : Cmd) : (s.setCmd e c).nvm = s.nvm := rfl
@[simp] theorem State.setCmd_out (e : Nat) (c : Cmd) : (s.setCmd e c).out = s.out := rfl
@[simp] theorem State.setCmd_freeCtr (e : Nat) (c : Cmd) : (s.setCmd e c).freeCtr = s.freeCtr := rfl
@[simp] theorem State.setCmd_pending (e : Nat) (c : Cmd) : (s.setCmd e c).pending = s.pending := rfl

/-! ### State.dropCmd -/

@[simp] theorem State.dropCmd_tbs (e : Nat) : (s.dropCmd e).tbs = s.tbs := rfl
@[simp] theorem State.dropCmd_lay (e : Nat) : (s.dropCmd e).lay = s.lay := rfl
@[simp] theorem State.dropCmd_fns (e : Nat) : (s.dropCmd e).fns = s.fns := rfl
@[simp] theorem State.dropCmd_ports (e : Nat) : (s.dropCmd e).ports = s.ports := rfl
@[simp] theorem State.dropCmd_queues (e : Nat) : (s.dropCmd e).queues = s.queues := rfl
@[simp] theorem State.dropCmd_bsn (e : Nat) : (s.dropCmd e).bsn = s.bsn := rfl
@[simp] theorem State.dropCmd_basins (e : Nat) : (s.dropCmd e).basins = s.basins := rfl
@[simp] theorem State.dropCmd_cis (e : Nat) : (s.dropCmd e).cis = s.cis := rfl
@[simp] theorem State.dropCmd_vlt (e : Nat) : (s.dropCmd e).vlt = s.vlt := rfl
@[simp] theorem State.dropCmd_wei (e : Nat) : (s.dropCmd e).wei = s.wei := rfl
@[simp] theorem State.dropCmd_pairs (e : Nat) : (s.dropCmd e).pairs = s.pairs := rfl
@[simp] theorem State.dropCmd_spg (e : Nat) : (s.dropCmd e).spg = s.spg := rfl
@[simp] theorem State.dropCmd_fnt (e : Nat) : (s.dropCmd e).fnt = s.fnt := rfl
@[simp] theorem State.dropCmd_gro (e : Nat) : (s.dropCmd e).gro = s.gro := rfl
@[simp] theorem State.dropCmd_gau (e : Nat) : (s.dropCmd e).gau = s.gau := rfl
@[simp] theorem State.dropCmd_ccb (e : Nat) : (s.dropCmd e).ccb = s.ccb := rfl
@[simp] theorem State.dropCmd_cls (e : Nat) : (s.dropCmd e).cls = s.cls := rfl
@[simp] theorem State.dropCmd_psp (e : Nat) : (s.dropCmd e).psp = s.psp := rfl
@[simp] theorem State.dropCmd_pwr (e : Nat) : (s.dropCmd e).pwr = s.pwr := rfl
@[simp] theorem State.dropCmd_mem (e : Nat) : (s.dropCmd e).mem = s.mem := rfl
@[simp] theorem State.dropCmd_nvm (e : Nat) : (s.dropCmd e).nvm = s.nvm := rfl
@[simp] theorem State.dropCmd_out (e : Nat) : (s.dropCmd e).out = s.out := rfl
@[simp] theorem State.dropCmd_freeCtr (e : Nat) : (s.dropCmd e).freeCtr = s.freeCtr := rfl
@[simp] theorem State.dropCmd_pending (e : Nat) : (s.dropCmd e).pending = s.pending := rfl

/-! ### State.setPair -/

@[simp] theorem State.setPair_tbs (p : Nat) (x : KPair) : (s.setPair p x).tbs = s.tbs := rfl
@[simp] theorem State.setPair_lay (p : Nat) (x : KPair) : (s.setPair p x).lay = s.lay := rfl
@[simp] theorem State.setPair_fns (p : Nat) (x : KPair) : (s.setPair p x).fns = s.fns := rfl
@[simp] theorem State.setPair_ports (p : Nat) (x : KPair) : (s.setPair p x).ports = s.ports := rfl
@[simp] theorem State.setPair_queues (p : Nat) (x : KPair) : (s.setPair p x).queues = s.queues := rfl
@[simp] theorem State.setPair_slu (p : Nat) (x : KPair) : (s.setPair p x).slu = s.slu := rfl
@[simp] theorem State.setPair_bsn (p : Nat) (x : KPair) : (s.setPair p x).bsn = s.bsn := rfl
@[simp] theorem State.setPair_basins (p : Nat) (x : KPair) : (s.setPair p x).basins = s.basins := rfl
@[simp] theorem State.setPair_cis (p : Nat) (x : KPair) : (s.setPair p x).cis = s.cis := rfl
@[simp] theorem State.setPair_vlt (p : Nat) (x : KPair) : (s.setPair p x).vlt = s.vlt := rfl
@[simp] theorem State.setPair_wei (p : Nat) (x : KPair) : (s.setPair p x).wei = s.wei := rfl
@[simp] theorem State.setPair_spg (p : Nat) (x : KPair) : (s.setPair p x).spg = s.spg := rfl
@[simp] theorem State.setPair_fnt (p : Nat) (x : KPair) : (s.setPair p x).fnt = s.fnt := rfl
@[simp] theorem State.setPair_gro (p : Nat) (x : KPair) : (s.setPair p x).gro = s.gro := rfl
@[simp] theorem State.setPair_gau (p : Nat) (x : KPair) : (s.setPair p x).gau = s.gau := rfl
@[simp] theorem State.setPair_ccb (p : Nat) (x : KPair) : (s.setPair p x).ccb = s.ccb := rfl
@[simp] theorem State.setPair_cls (p : Nat) (x : KPair) : (s.setPair p x).cls = s.cls := rfl
@[simp] theorem State.setPair_psp (p : Nat) (x : KPair) : (s.setPair p x).psp = s.psp := rfl
@[simp] theorem State.setPair_pwr (p : Nat) (x : KPair) : (s.setPair p x).pwr = s.pwr := rfl
@[simp] theorem State.setPair_mem (p : Nat) (x : KPair) : (s.setPair p x).mem = s.mem := rfl
@[simp] theorem State.setPair_nvm (p : Nat) (x : KPair) : (s.setPair p x).nvm = s.nvm := rfl
@[simp] theorem State.setPair_out (p : Nat) (x : KPair) : (s.setPair p x).out = s.out := rfl
@[simp] theorem State.setPair_freeCtr (p : Nat) (x : KPair) : (s.setPair p x).freeCtr = s.freeCtr := rfl
@[simp] theorem State.setPair_pending (p : Nat) (x : KPair) : (s.setPair p x).pending = s.pending := rfl

/-! ### State.setDrbg -/

@[simp] theorem State.setDrbg_tbs (n : Nat) (x : Drbg) : (s.setDrbg n x).tbs = s.tbs := rfl
@[simp] theorem State.setDrbg_lay (n : Nat) (x : Drbg) : (s.setDrbg n x).lay = s.lay := rfl
@[simp] theorem State.setDrbg_fns (n : Nat) (x : Drbg) : (s.setDrbg n x).fns = s.fns := rfl
@[simp] theorem State.setDrbg_ports (n : Nat) (x : Drbg) : (s.setDrbg n x).ports = s.ports := rfl
@[simp] theorem State.setDrbg_queues (n : Nat) (x : Drbg) : (s.setDrbg n x).queues = s.queues := rfl
@[simp] theorem State.setDrbg_slu (n : Nat) (x : Drbg) : (s.setDrbg n x).slu = s.slu := rfl
@[simp] theorem State.setDrbg_bsn (n : Nat) (x : Drbg) : (s.setDrbg n x).bsn = s.bsn := rfl
@[simp] theorem State.setDrbg_basins (n : Nat) (x : Drbg) : (s.setDrbg n x).basins = s.basins := rfl
@[simp] theorem State.setDrbg_cis (n : Nat) (x : Drbg) : (s.setDrbg n x).cis = s.cis := rfl
@[simp] theorem State.setDrbg_vlt (n : Nat) (x : Drbg) : (s.setDrbg n x).vlt = s.vlt := rfl
@[simp] theorem State.setDrbg_wei (n : Nat) (x : Drbg) : (s.setDrbg n x).wei = s.wei := rfl
@[simp] theorem State.setDrbg_pairs (n : Nat) (x : Drbg) : (s.setDrbg n x).pairs = s.pairs := rfl
@[simp] theorem State.setDrbg_fnt (n : Nat) (x : Drbg) : (s.setDrbg n x).fnt = s.fnt := rfl
@[simp] theorem State.setDrbg_gro (n : Nat) (x : Drbg) : (s.setDrbg n x).gro = s.gro := rfl
@[simp] theorem State.setDrbg_gau (n : Nat) (x : Drbg) : (s.setDrbg n x).gau = s.gau := rfl
@[simp] theorem State.setDrbg_ccb (n : Nat) (x : Drbg) : (s.setDrbg n x).ccb = s.ccb := rfl
@[simp] theorem State.setDrbg_cls (n : Nat) (x : Drbg) : (s.setDrbg n x).cls = s.cls := rfl
@[simp] theorem State.setDrbg_psp (n : Nat) (x : Drbg) : (s.setDrbg n x).psp = s.psp := rfl
@[simp] theorem State.setDrbg_pwr (n : Nat) (x : Drbg) : (s.setDrbg n x).pwr = s.pwr := rfl
@[simp] theorem State.setDrbg_mem (n : Nat) (x : Drbg) : (s.setDrbg n x).mem = s.mem := rfl
@[simp] theorem State.setDrbg_nvm (n : Nat) (x : Drbg) : (s.setDrbg n x).nvm = s.nvm := rfl
@[simp] theorem State.setDrbg_out (n : Nat) (x : Drbg) : (s.setDrbg n x).out = s.out := rfl
@[simp] theorem State.setDrbg_freeCtr (n : Nat) (x : Drbg) : (s.setDrbg n x).freeCtr = s.freeCtr := rfl
@[simp] theorem State.setDrbg_pending (n : Nat) (x : Drbg) : (s.setDrbg n x).pending = s.pending := rfl

/-! ### State.setDie -/

@[simp] theorem State.setDie_tbs (d : Nat) (x : Die) : (s.setDie d x).tbs = s.tbs := rfl
@[simp] theorem State.setDie_lay (d : Nat) (x : Die) : (s.setDie d x).lay = s.lay := rfl
@[simp] theorem State.setDie_fns (d : Nat) (x : Die) : (s.setDie d x).fns = s.fns := rfl
@[simp] theorem State.setDie_ports (d : Nat) (x : Die) : (s.setDie d x).ports = s.ports := rfl
@[simp] theorem State.setDie_queues (d : Nat) (x : Die) : (s.setDie d x).queues = s.queues := rfl
@[simp] theorem State.setDie_slu (d : Nat) (x : Die) : (s.setDie d x).slu = s.slu := rfl
@[simp] theorem State.setDie_bsn (d : Nat) (x : Die) : (s.setDie d x).bsn = s.bsn := rfl
@[simp] theorem State.setDie_basins (d : Nat) (x : Die) : (s.setDie d x).basins = s.basins := rfl
@[simp] theorem State.setDie_cis (d : Nat) (x : Die) : (s.setDie d x).cis = s.cis := rfl
@[simp] theorem State.setDie_wei (d : Nat) (x : Die) : (s.setDie d x).wei = s.wei := rfl
@[simp] theorem State.setDie_pairs (d : Nat) (x : Die) : (s.setDie d x).pairs = s.pairs := rfl
@[simp] theorem State.setDie_spg (d : Nat) (x : Die) : (s.setDie d x).spg = s.spg := rfl
@[simp] theorem State.setDie_fnt (d : Nat) (x : Die) : (s.setDie d x).fnt = s.fnt := rfl
@[simp] theorem State.setDie_gro (d : Nat) (x : Die) : (s.setDie d x).gro = s.gro := rfl
@[simp] theorem State.setDie_gau (d : Nat) (x : Die) : (s.setDie d x).gau = s.gau := rfl
@[simp] theorem State.setDie_ccb (d : Nat) (x : Die) : (s.setDie d x).ccb = s.ccb := rfl
@[simp] theorem State.setDie_cls (d : Nat) (x : Die) : (s.setDie d x).cls = s.cls := rfl
@[simp] theorem State.setDie_psp (d : Nat) (x : Die) : (s.setDie d x).psp = s.psp := rfl
@[simp] theorem State.setDie_pwr (d : Nat) (x : Die) : (s.setDie d x).pwr = s.pwr := rfl
@[simp] theorem State.setDie_mem (d : Nat) (x : Die) : (s.setDie d x).mem = s.mem := rfl
@[simp] theorem State.setDie_nvm (d : Nat) (x : Die) : (s.setDie d x).nvm = s.nvm := rfl
@[simp] theorem State.setDie_out (d : Nat) (x : Die) : (s.setDie d x).out = s.out := rfl
@[simp] theorem State.setDie_freeCtr (d : Nat) (x : Die) : (s.setDie d x).freeCtr = s.freeCtr := rfl
@[simp] theorem State.setDie_pending (d : Nat) (x : Die) : (s.setDie d x).pending = s.pending := rfl

/-! ### State.setSlot -/

@[simp] theorem State.setSlot_tbs (n : Nat) (x : CardSlot) : (s.setSlot n x).tbs = s.tbs := rfl
@[simp] theorem State.setSlot_lay (n : Nat) (x : CardSlot) : (s.setSlot n x).lay = s.lay := rfl
@[simp] theorem State.setSlot_fns (n : Nat) (x : CardSlot) : (s.setSlot n x).fns = s.fns := rfl
@[simp] theorem State.setSlot_ports (n : Nat) (x : CardSlot) : (s.setSlot n x).ports = s.ports := rfl
@[simp] theorem State.setSlot_queues (n : Nat) (x : CardSlot) : (s.setSlot n x).queues = s.queues := rfl
@[simp] theorem State.setSlot_slu (n : Nat) (x : CardSlot) : (s.setSlot n x).slu = s.slu := rfl
@[simp] theorem State.setSlot_bsn (n : Nat) (x : CardSlot) : (s.setSlot n x).bsn = s.bsn := rfl
@[simp] theorem State.setSlot_basins (n : Nat) (x : CardSlot) : (s.setSlot n x).basins = s.basins := rfl
@[simp] theorem State.setSlot_cis (n : Nat) (x : CardSlot) : (s.setSlot n x).cis = s.cis := rfl
@[simp] theorem State.setSlot_vlt (n : Nat) (x : CardSlot) : (s.setSlot n x).vlt = s.vlt := rfl
@[simp] theorem State.setSlot_wei (n : Nat) (x : CardSlot) : (s.setSlot n x).wei = s.wei := rfl
@[simp] theorem State.setSlot_pairs (n : Nat) (x : CardSlot) : (s.setSlot n x).pairs = s.pairs := rfl
@[simp] theorem State.setSlot_spg (n : Nat) (x : CardSlot) : (s.setSlot n x).spg = s.spg := rfl
@[simp] theorem State.setSlot_fnt (n : Nat) (x : CardSlot) : (s.setSlot n x).fnt = s.fnt := rfl
@[simp] theorem State.setSlot_gro (n : Nat) (x : CardSlot) : (s.setSlot n x).gro = s.gro := rfl
@[simp] theorem State.setSlot_gau (n : Nat) (x : CardSlot) : (s.setSlot n x).gau = s.gau := rfl
@[simp] theorem State.setSlot_cls (n : Nat) (x : CardSlot) : (s.setSlot n x).cls = s.cls := rfl
@[simp] theorem State.setSlot_psp (n : Nat) (x : CardSlot) : (s.setSlot n x).psp = s.psp := rfl
@[simp] theorem State.setSlot_pwr (n : Nat) (x : CardSlot) : (s.setSlot n x).pwr = s.pwr := rfl
@[simp] theorem State.setSlot_mem (n : Nat) (x : CardSlot) : (s.setSlot n x).mem = s.mem := rfl
@[simp] theorem State.setSlot_nvm (n : Nat) (x : CardSlot) : (s.setSlot n x).nvm = s.nvm := rfl
@[simp] theorem State.setSlot_out (n : Nat) (x : CardSlot) : (s.setSlot n x).out = s.out := rfl
@[simp] theorem State.setSlot_freeCtr (n : Nat) (x : CardSlot) : (s.setSlot n x).freeCtr = s.freeCtr := rfl
@[simp] theorem State.setSlot_pending (n : Nat) (x : CardSlot) : (s.setSlot n x).pending = s.pending := rfl

/-! ### State.emit -/

@[simp] theorem State.emit_tbs (o : Out) : (s.emit o).tbs = s.tbs := rfl
@[simp] theorem State.emit_lay (o : Out) : (s.emit o).lay = s.lay := rfl
@[simp] theorem State.emit_fns (o : Out) : (s.emit o).fns = s.fns := rfl
@[simp] theorem State.emit_ports (o : Out) : (s.emit o).ports = s.ports := rfl
@[simp] theorem State.emit_queues (o : Out) : (s.emit o).queues = s.queues := rfl
@[simp] theorem State.emit_slu (o : Out) : (s.emit o).slu = s.slu := rfl
@[simp] theorem State.emit_bsn (o : Out) : (s.emit o).bsn = s.bsn := rfl
@[simp] theorem State.emit_basins (o : Out) : (s.emit o).basins = s.basins := rfl
@[simp] theorem State.emit_cis (o : Out) : (s.emit o).cis = s.cis := rfl
@[simp] theorem State.emit_vlt (o : Out) : (s.emit o).vlt = s.vlt := rfl
@[simp] theorem State.emit_wei (o : Out) : (s.emit o).wei = s.wei := rfl
@[simp] theorem State.emit_pairs (o : Out) : (s.emit o).pairs = s.pairs := rfl
@[simp] theorem State.emit_spg (o : Out) : (s.emit o).spg = s.spg := rfl
@[simp] theorem State.emit_fnt (o : Out) : (s.emit o).fnt = s.fnt := rfl
@[simp] theorem State.emit_gro (o : Out) : (s.emit o).gro = s.gro := rfl
@[simp] theorem State.emit_gau (o : Out) : (s.emit o).gau = s.gau := rfl
@[simp] theorem State.emit_ccb (o : Out) : (s.emit o).ccb = s.ccb := rfl
@[simp] theorem State.emit_cls (o : Out) : (s.emit o).cls = s.cls := rfl
@[simp] theorem State.emit_psp (o : Out) : (s.emit o).psp = s.psp := rfl
@[simp] theorem State.emit_pwr (o : Out) : (s.emit o).pwr = s.pwr := rfl
@[simp] theorem State.emit_mem (o : Out) : (s.emit o).mem = s.mem := rfl
@[simp] theorem State.emit_nvm (o : Out) : (s.emit o).nvm = s.nvm := rfl
@[simp] theorem State.emit_freeCtr (o : Out) : (s.emit o).freeCtr = s.freeCtr := rfl
@[simp] theorem State.emit_pending (o : Out) : (s.emit o).pending = s.pending := rfl

/-! ### State.irq -/

@[simp] theorem State.irq_tbs (p i : Nat) : (s.irq p i).tbs = s.tbs := rfl
@[simp] theorem State.irq_lay (p i : Nat) : (s.irq p i).lay = s.lay := rfl
@[simp] theorem State.irq_fns (p i : Nat) : (s.irq p i).fns = s.fns := rfl
@[simp] theorem State.irq_ports (p i : Nat) : (s.irq p i).ports = s.ports := rfl
@[simp] theorem State.irq_queues (p i : Nat) : (s.irq p i).queues = s.queues := rfl
@[simp] theorem State.irq_slu (p i : Nat) : (s.irq p i).slu = s.slu := rfl
@[simp] theorem State.irq_bsn (p i : Nat) : (s.irq p i).bsn = s.bsn := rfl
@[simp] theorem State.irq_basins (p i : Nat) : (s.irq p i).basins = s.basins := rfl
@[simp] theorem State.irq_cis (p i : Nat) : (s.irq p i).cis = s.cis := rfl
@[simp] theorem State.irq_vlt (p i : Nat) : (s.irq p i).vlt = s.vlt := rfl
@[simp] theorem State.irq_wei (p i : Nat) : (s.irq p i).wei = s.wei := rfl
@[simp] theorem State.irq_spg (p i : Nat) : (s.irq p i).spg = s.spg := rfl
@[simp] theorem State.irq_fnt (p i : Nat) : (s.irq p i).fnt = s.fnt := rfl
@[simp] theorem State.irq_gro (p i : Nat) : (s.irq p i).gro = s.gro := rfl
@[simp] theorem State.irq_gau (p i : Nat) : (s.irq p i).gau = s.gau := rfl
@[simp] theorem State.irq_ccb (p i : Nat) : (s.irq p i).ccb = s.ccb := rfl
@[simp] theorem State.irq_cls (p i : Nat) : (s.irq p i).cls = s.cls := rfl
@[simp] theorem State.irq_psp (p i : Nat) : (s.irq p i).psp = s.psp := rfl
@[simp] theorem State.irq_pwr (p i : Nat) : (s.irq p i).pwr = s.pwr := rfl
@[simp] theorem State.irq_mem (p i : Nat) : (s.irq p i).mem = s.mem := rfl
@[simp] theorem State.irq_nvm (p i : Nat) : (s.irq p i).nvm = s.nvm := rfl
@[simp] theorem State.irq_out (p i : Nat) : (s.irq p i).out = s.out := rfl
@[simp] theorem State.irq_freeCtr (p i : Nat) : (s.irq p i).freeCtr = s.freeCtr := rfl
@[simp] theorem State.irq_pending (p i : Nat) : (s.irq p i).pending = s.pending := rfl

/-! ### State.layEvent -/

@[simp] theorem State.layEvent_tbs (i : Nat) : (s.layEvent i).tbs = s.tbs := rfl
@[simp] theorem State.layEvent_fns (i : Nat) : (s.layEvent i).fns = s.fns := rfl
@[simp] theorem State.layEvent_ports (i : Nat) : (s.layEvent i).ports = s.ports := rfl
@[simp] theorem State.layEvent_queues (i : Nat) : (s.layEvent i).queues = s.queues := rfl
@[simp] theorem State.layEvent_slu (i : Nat) : (s.layEvent i).slu = s.slu := rfl
@[simp] theorem State.layEvent_bsn (i : Nat) : (s.layEvent i).bsn = s.bsn := rfl
@[simp] theorem State.layEvent_basins (i : Nat) : (s.layEvent i).basins = s.basins := rfl
@[simp] theorem State.layEvent_cis (i : Nat) : (s.layEvent i).cis = s.cis := rfl
@[simp] theorem State.layEvent_vlt (i : Nat) : (s.layEvent i).vlt = s.vlt := rfl
@[simp] theorem State.layEvent_wei (i : Nat) : (s.layEvent i).wei = s.wei := rfl
@[simp] theorem State.layEvent_pairs (i : Nat) : (s.layEvent i).pairs = s.pairs := rfl
@[simp] theorem State.layEvent_spg (i : Nat) : (s.layEvent i).spg = s.spg := rfl
@[simp] theorem State.layEvent_fnt (i : Nat) : (s.layEvent i).fnt = s.fnt := rfl
@[simp] theorem State.layEvent_gro (i : Nat) : (s.layEvent i).gro = s.gro := rfl
@[simp] theorem State.layEvent_gau (i : Nat) : (s.layEvent i).gau = s.gau := rfl
@[simp] theorem State.layEvent_ccb (i : Nat) : (s.layEvent i).ccb = s.ccb := rfl
@[simp] theorem State.layEvent_cls (i : Nat) : (s.layEvent i).cls = s.cls := rfl
@[simp] theorem State.layEvent_psp (i : Nat) : (s.layEvent i).psp = s.psp := rfl
@[simp] theorem State.layEvent_pwr (i : Nat) : (s.layEvent i).pwr = s.pwr := rfl
@[simp] theorem State.layEvent_mem (i : Nat) : (s.layEvent i).mem = s.mem := rfl
@[simp] theorem State.layEvent_nvm (i : Nat) : (s.layEvent i).nvm = s.nvm := rfl
@[simp] theorem State.layEvent_out (i : Nat) : (s.layEvent i).out = s.out := rfl
@[simp] theorem State.layEvent_freeCtr (i : Nat) : (s.layEvent i).freeCtr = s.freeCtr := rfl
@[simp] theorem State.layEvent_pending (i : Nat) : (s.layEvent i).pending = s.pending := rfl

/-! ### State.tbsEvent -/

@[simp] theorem State.tbsEvent_lay (i : Nat) : (s.tbsEvent i).lay = s.lay := rfl
@[simp] theorem State.tbsEvent_fns (i : Nat) : (s.tbsEvent i).fns = s.fns := rfl
@[simp] theorem State.tbsEvent_ports (i : Nat) : (s.tbsEvent i).ports = s.ports := rfl
@[simp] theorem State.tbsEvent_queues (i : Nat) : (s.tbsEvent i).queues = s.queues := rfl
@[simp] theorem State.tbsEvent_slu (i : Nat) : (s.tbsEvent i).slu = s.slu := rfl
@[simp] theorem State.tbsEvent_bsn (i : Nat) : (s.tbsEvent i).bsn = s.bsn := rfl
@[simp] theorem State.tbsEvent_basins (i : Nat) : (s.tbsEvent i).basins = s.basins := rfl
@[simp] theorem State.tbsEvent_cis (i : Nat) : (s.tbsEvent i).cis = s.cis := rfl
@[simp] theorem State.tbsEvent_vlt (i : Nat) : (s.tbsEvent i).vlt = s.vlt := rfl
@[simp] theorem State.tbsEvent_wei (i : Nat) : (s.tbsEvent i).wei = s.wei := rfl
@[simp] theorem State.tbsEvent_pairs (i : Nat) : (s.tbsEvent i).pairs = s.pairs := rfl
@[simp] theorem State.tbsEvent_spg (i : Nat) : (s.tbsEvent i).spg = s.spg := rfl
@[simp] theorem State.tbsEvent_fnt (i : Nat) : (s.tbsEvent i).fnt = s.fnt := rfl
@[simp] theorem State.tbsEvent_gro (i : Nat) : (s.tbsEvent i).gro = s.gro := rfl
@[simp] theorem State.tbsEvent_gau (i : Nat) : (s.tbsEvent i).gau = s.gau := rfl
@[simp] theorem State.tbsEvent_ccb (i : Nat) : (s.tbsEvent i).ccb = s.ccb := rfl
@[simp] theorem State.tbsEvent_cls (i : Nat) : (s.tbsEvent i).cls = s.cls := rfl
@[simp] theorem State.tbsEvent_psp (i : Nat) : (s.tbsEvent i).psp = s.psp := rfl
@[simp] theorem State.tbsEvent_pwr (i : Nat) : (s.tbsEvent i).pwr = s.pwr := rfl
@[simp] theorem State.tbsEvent_mem (i : Nat) : (s.tbsEvent i).mem = s.mem := rfl
@[simp] theorem State.tbsEvent_nvm (i : Nat) : (s.tbsEvent i).nvm = s.nvm := rfl
@[simp] theorem State.tbsEvent_out (i : Nat) : (s.tbsEvent i).out = s.out := rfl
@[simp] theorem State.tbsEvent_freeCtr (i : Nat) : (s.tbsEvent i).freeCtr = s.freeCtr := rfl
@[simp] theorem State.tbsEvent_pending (i : Nat) : (s.tbsEvent i).pending = s.pending := rfl

/-! ### State.sluEvent -/

@[simp] theorem State.sluEvent_tbs (i : Nat) : (s.sluEvent i).tbs = s.tbs := rfl
@[simp] theorem State.sluEvent_lay (i : Nat) : (s.sluEvent i).lay = s.lay := rfl
@[simp] theorem State.sluEvent_fns (i : Nat) : (s.sluEvent i).fns = s.fns := rfl
@[simp] theorem State.sluEvent_ports (i : Nat) : (s.sluEvent i).ports = s.ports := rfl
@[simp] theorem State.sluEvent_queues (i : Nat) : (s.sluEvent i).queues = s.queues := rfl
@[simp] theorem State.sluEvent_bsn (i : Nat) : (s.sluEvent i).bsn = s.bsn := rfl
@[simp] theorem State.sluEvent_basins (i : Nat) : (s.sluEvent i).basins = s.basins := rfl
@[simp] theorem State.sluEvent_cis (i : Nat) : (s.sluEvent i).cis = s.cis := rfl
@[simp] theorem State.sluEvent_vlt (i : Nat) : (s.sluEvent i).vlt = s.vlt := rfl
@[simp] theorem State.sluEvent_wei (i : Nat) : (s.sluEvent i).wei = s.wei := rfl
@[simp] theorem State.sluEvent_pairs (i : Nat) : (s.sluEvent i).pairs = s.pairs := rfl
@[simp] theorem State.sluEvent_spg (i : Nat) : (s.sluEvent i).spg = s.spg := rfl
@[simp] theorem State.sluEvent_fnt (i : Nat) : (s.sluEvent i).fnt = s.fnt := rfl
@[simp] theorem State.sluEvent_gro (i : Nat) : (s.sluEvent i).gro = s.gro := rfl
@[simp] theorem State.sluEvent_gau (i : Nat) : (s.sluEvent i).gau = s.gau := rfl
@[simp] theorem State.sluEvent_ccb (i : Nat) : (s.sluEvent i).ccb = s.ccb := rfl
@[simp] theorem State.sluEvent_cls (i : Nat) : (s.sluEvent i).cls = s.cls := rfl
@[simp] theorem State.sluEvent_psp (i : Nat) : (s.sluEvent i).psp = s.psp := rfl
@[simp] theorem State.sluEvent_pwr (i : Nat) : (s.sluEvent i).pwr = s.pwr := rfl
@[simp] theorem State.sluEvent_mem (i : Nat) : (s.sluEvent i).mem = s.mem := rfl
@[simp] theorem State.sluEvent_nvm (i : Nat) : (s.sluEvent i).nvm = s.nvm := rfl
@[simp] theorem State.sluEvent_out (i : Nat) : (s.sluEvent i).out = s.out := rfl
@[simp] theorem State.sluEvent_freeCtr (i : Nat) : (s.sluEvent i).freeCtr = s.freeCtr := rfl
@[simp] theorem State.sluEvent_pending (i : Nat) : (s.sluEvent i).pending = s.pending := rfl

/-! ### State.raEvent -/

@[simp] theorem State.raEvent_tbs (i : Nat) : (s.raEvent i).tbs = s.tbs := rfl
@[simp] theorem State.raEvent_lay (i : Nat) : (s.raEvent i).lay = s.lay := rfl
@[simp] theorem State.raEvent_fns (i : Nat) : (s.raEvent i).fns = s.fns := rfl
@[simp] theorem State.raEvent_ports (i : Nat) : (s.raEvent i).ports = s.ports := rfl
@[simp] theorem State.raEvent_queues (i : Nat) : (s.raEvent i).queues = s.queues := rfl
@[simp] theorem State.raEvent_bsn (i : Nat) : (s.raEvent i).bsn = s.bsn := rfl
@[simp] theorem State.raEvent_basins (i : Nat) : (s.raEvent i).basins = s.basins := rfl
@[simp] theorem State.raEvent_cis (i : Nat) : (s.raEvent i).cis = s.cis := rfl
@[simp] theorem State.raEvent_vlt (i : Nat) : (s.raEvent i).vlt = s.vlt := rfl
@[simp] theorem State.raEvent_wei (i : Nat) : (s.raEvent i).wei = s.wei := rfl
@[simp] theorem State.raEvent_pairs (i : Nat) : (s.raEvent i).pairs = s.pairs := rfl
@[simp] theorem State.raEvent_spg (i : Nat) : (s.raEvent i).spg = s.spg := rfl
@[simp] theorem State.raEvent_fnt (i : Nat) : (s.raEvent i).fnt = s.fnt := rfl
@[simp] theorem State.raEvent_gro (i : Nat) : (s.raEvent i).gro = s.gro := rfl
@[simp] theorem State.raEvent_gau (i : Nat) : (s.raEvent i).gau = s.gau := rfl
@[simp] theorem State.raEvent_ccb (i : Nat) : (s.raEvent i).ccb = s.ccb := rfl
@[simp] theorem State.raEvent_cls (i : Nat) : (s.raEvent i).cls = s.cls := rfl
@[simp] theorem State.raEvent_psp (i : Nat) : (s.raEvent i).psp = s.psp := rfl
@[simp] theorem State.raEvent_pwr (i : Nat) : (s.raEvent i).pwr = s.pwr := rfl
@[simp] theorem State.raEvent_mem (i : Nat) : (s.raEvent i).mem = s.mem := rfl
@[simp] theorem State.raEvent_nvm (i : Nat) : (s.raEvent i).nvm = s.nvm := rfl
@[simp] theorem State.raEvent_out (i : Nat) : (s.raEvent i).out = s.out := rfl
@[simp] theorem State.raEvent_freeCtr (i : Nat) : (s.raEvent i).freeCtr = s.freeCtr := rfl
@[simp] theorem State.raEvent_pending (i : Nat) : (s.raEvent i).pending = s.pending := rfl

/-! ### State.cisEvent -/

@[simp] theorem State.cisEvent_tbs (i : Nat) : (s.cisEvent i).tbs = s.tbs := rfl
@[simp] theorem State.cisEvent_lay (i : Nat) : (s.cisEvent i).lay = s.lay := rfl
@[simp] theorem State.cisEvent_fns (i : Nat) : (s.cisEvent i).fns = s.fns := rfl
@[simp] theorem State.cisEvent_ports (i : Nat) : (s.cisEvent i).ports = s.ports := rfl
@[simp] theorem State.cisEvent_queues (i : Nat) : (s.cisEvent i).queues = s.queues := rfl
@[simp] theorem State.cisEvent_slu (i : Nat) : (s.cisEvent i).slu = s.slu := rfl
@[simp] theorem State.cisEvent_bsn (i : Nat) : (s.cisEvent i).bsn = s.bsn := rfl
@[simp] theorem State.cisEvent_basins (i : Nat) : (s.cisEvent i).basins = s.basins := rfl
@[simp] theorem State.cisEvent_vlt (i : Nat) : (s.cisEvent i).vlt = s.vlt := rfl
@[simp] theorem State.cisEvent_wei (i : Nat) : (s.cisEvent i).wei = s.wei := rfl
@[simp] theorem State.cisEvent_pairs (i : Nat) : (s.cisEvent i).pairs = s.pairs := rfl
@[simp] theorem State.cisEvent_spg (i : Nat) : (s.cisEvent i).spg = s.spg := rfl
@[simp] theorem State.cisEvent_fnt (i : Nat) : (s.cisEvent i).fnt = s.fnt := rfl
@[simp] theorem State.cisEvent_gro (i : Nat) : (s.cisEvent i).gro = s.gro := rfl
@[simp] theorem State.cisEvent_gau (i : Nat) : (s.cisEvent i).gau = s.gau := rfl
@[simp] theorem State.cisEvent_ccb (i : Nat) : (s.cisEvent i).ccb = s.ccb := rfl
@[simp] theorem State.cisEvent_cls (i : Nat) : (s.cisEvent i).cls = s.cls := rfl
@[simp] theorem State.cisEvent_psp (i : Nat) : (s.cisEvent i).psp = s.psp := rfl
@[simp] theorem State.cisEvent_pwr (i : Nat) : (s.cisEvent i).pwr = s.pwr := rfl
@[simp] theorem State.cisEvent_mem (i : Nat) : (s.cisEvent i).mem = s.mem := rfl
@[simp] theorem State.cisEvent_nvm (i : Nat) : (s.cisEvent i).nvm = s.nvm := rfl
@[simp] theorem State.cisEvent_out (i : Nat) : (s.cisEvent i).out = s.out := rfl
@[simp] theorem State.cisEvent_freeCtr (i : Nat) : (s.cisEvent i).freeCtr = s.freeCtr := rfl
@[simp] theorem State.cisEvent_pending (i : Nat) : (s.cisEvent i).pending = s.pending := rfl

/-! ### State.vltEvent -/

@[simp] theorem State.vltEvent_tbs (i : Nat) : (s.vltEvent i).tbs = s.tbs := rfl
@[simp] theorem State.vltEvent_lay (i : Nat) : (s.vltEvent i).lay = s.lay := rfl
@[simp] theorem State.vltEvent_fns (i : Nat) : (s.vltEvent i).fns = s.fns := rfl
@[simp] theorem State.vltEvent_ports (i : Nat) : (s.vltEvent i).ports = s.ports := rfl
@[simp] theorem State.vltEvent_queues (i : Nat) : (s.vltEvent i).queues = s.queues := rfl
@[simp] theorem State.vltEvent_slu (i : Nat) : (s.vltEvent i).slu = s.slu := rfl
@[simp] theorem State.vltEvent_bsn (i : Nat) : (s.vltEvent i).bsn = s.bsn := rfl
@[simp] theorem State.vltEvent_basins (i : Nat) : (s.vltEvent i).basins = s.basins := rfl
@[simp] theorem State.vltEvent_cis (i : Nat) : (s.vltEvent i).cis = s.cis := rfl
@[simp] theorem State.vltEvent_wei (i : Nat) : (s.vltEvent i).wei = s.wei := rfl
@[simp] theorem State.vltEvent_pairs (i : Nat) : (s.vltEvent i).pairs = s.pairs := rfl
@[simp] theorem State.vltEvent_spg (i : Nat) : (s.vltEvent i).spg = s.spg := rfl
@[simp] theorem State.vltEvent_fnt (i : Nat) : (s.vltEvent i).fnt = s.fnt := rfl
@[simp] theorem State.vltEvent_gro (i : Nat) : (s.vltEvent i).gro = s.gro := rfl
@[simp] theorem State.vltEvent_gau (i : Nat) : (s.vltEvent i).gau = s.gau := rfl
@[simp] theorem State.vltEvent_ccb (i : Nat) : (s.vltEvent i).ccb = s.ccb := rfl
@[simp] theorem State.vltEvent_cls (i : Nat) : (s.vltEvent i).cls = s.cls := rfl
@[simp] theorem State.vltEvent_psp (i : Nat) : (s.vltEvent i).psp = s.psp := rfl
@[simp] theorem State.vltEvent_pwr (i : Nat) : (s.vltEvent i).pwr = s.pwr := rfl
@[simp] theorem State.vltEvent_mem (i : Nat) : (s.vltEvent i).mem = s.mem := rfl
@[simp] theorem State.vltEvent_nvm (i : Nat) : (s.vltEvent i).nvm = s.nvm := rfl
@[simp] theorem State.vltEvent_out (i : Nat) : (s.vltEvent i).out = s.out := rfl
@[simp] theorem State.vltEvent_freeCtr (i : Nat) : (s.vltEvent i).freeCtr = s.freeCtr := rfl
@[simp] theorem State.vltEvent_pending (i : Nat) : (s.vltEvent i).pending = s.pending := rfl

/-! ### State.weiEvent -/

@[simp] theorem State.weiEvent_tbs (i : Nat) : (s.weiEvent i).tbs = s.tbs := rfl
@[simp] theorem State.weiEvent_lay (i : Nat) : (s.weiEvent i).lay = s.lay := rfl
@[simp] theorem State.weiEvent_fns (i : Nat) : (s.weiEvent i).fns = s.fns := rfl
@[simp] theorem State.weiEvent_ports (i : Nat) : (s.weiEvent i).ports = s.ports := rfl
@[simp] theorem State.weiEvent_queues (i : Nat) : (s.weiEvent i).queues = s.queues := rfl
@[simp] theorem State.weiEvent_slu (i : Nat) : (s.weiEvent i).slu = s.slu := rfl
@[simp] theorem State.weiEvent_bsn (i : Nat) : (s.weiEvent i).bsn = s.bsn := rfl
@[simp] theorem State.weiEvent_basins (i : Nat) : (s.weiEvent i).basins = s.basins := rfl
@[simp] theorem State.weiEvent_cis (i : Nat) : (s.weiEvent i).cis = s.cis := rfl
@[simp] theorem State.weiEvent_vlt (i : Nat) : (s.weiEvent i).vlt = s.vlt := rfl
@[simp] theorem State.weiEvent_pairs (i : Nat) : (s.weiEvent i).pairs = s.pairs := rfl
@[simp] theorem State.weiEvent_spg (i : Nat) : (s.weiEvent i).spg = s.spg := rfl
@[simp] theorem State.weiEvent_fnt (i : Nat) : (s.weiEvent i).fnt = s.fnt := rfl
@[simp] theorem State.weiEvent_gro (i : Nat) : (s.weiEvent i).gro = s.gro := rfl
@[simp] theorem State.weiEvent_gau (i : Nat) : (s.weiEvent i).gau = s.gau := rfl
@[simp] theorem State.weiEvent_ccb (i : Nat) : (s.weiEvent i).ccb = s.ccb := rfl
@[simp] theorem State.weiEvent_cls (i : Nat) : (s.weiEvent i).cls = s.cls := rfl
@[simp] theorem State.weiEvent_psp (i : Nat) : (s.weiEvent i).psp = s.psp := rfl
@[simp] theorem State.weiEvent_pwr (i : Nat) : (s.weiEvent i).pwr = s.pwr := rfl
@[simp] theorem State.weiEvent_mem (i : Nat) : (s.weiEvent i).mem = s.mem := rfl
@[simp] theorem State.weiEvent_nvm (i : Nat) : (s.weiEvent i).nvm = s.nvm := rfl
@[simp] theorem State.weiEvent_out (i : Nat) : (s.weiEvent i).out = s.out := rfl
@[simp] theorem State.weiEvent_freeCtr (i : Nat) : (s.weiEvent i).freeCtr = s.freeCtr := rfl
@[simp] theorem State.weiEvent_pending (i : Nat) : (s.weiEvent i).pending = s.pending := rfl

/-! ### State.vloopEvent -/

@[simp] theorem State.vloopEvent_tbs (i : Nat) : (s.vloopEvent i).tbs = s.tbs := rfl
@[simp] theorem State.vloopEvent_lay (i : Nat) : (s.vloopEvent i).lay = s.lay := rfl
@[simp] theorem State.vloopEvent_fns (i : Nat) : (s.vloopEvent i).fns = s.fns := rfl
@[simp] theorem State.vloopEvent_ports (i : Nat) : (s.vloopEvent i).ports = s.ports := rfl
@[simp] theorem State.vloopEvent_queues (i : Nat) : (s.vloopEvent i).queues = s.queues := rfl
@[simp] theorem State.vloopEvent_slu (i : Nat) : (s.vloopEvent i).slu = s.slu := rfl
@[simp] theorem State.vloopEvent_basins (i : Nat) : (s.vloopEvent i).basins = s.basins := rfl
@[simp] theorem State.vloopEvent_cis (i : Nat) : (s.vloopEvent i).cis = s.cis := rfl
@[simp] theorem State.vloopEvent_vlt (i : Nat) : (s.vloopEvent i).vlt = s.vlt := rfl
@[simp] theorem State.vloopEvent_wei (i : Nat) : (s.vloopEvent i).wei = s.wei := rfl
@[simp] theorem State.vloopEvent_pairs (i : Nat) : (s.vloopEvent i).pairs = s.pairs := rfl
@[simp] theorem State.vloopEvent_spg (i : Nat) : (s.vloopEvent i).spg = s.spg := rfl
@[simp] theorem State.vloopEvent_fnt (i : Nat) : (s.vloopEvent i).fnt = s.fnt := rfl
@[simp] theorem State.vloopEvent_gro (i : Nat) : (s.vloopEvent i).gro = s.gro := rfl
@[simp] theorem State.vloopEvent_gau (i : Nat) : (s.vloopEvent i).gau = s.gau := rfl
@[simp] theorem State.vloopEvent_ccb (i : Nat) : (s.vloopEvent i).ccb = s.ccb := rfl
@[simp] theorem State.vloopEvent_cls (i : Nat) : (s.vloopEvent i).cls = s.cls := rfl
@[simp] theorem State.vloopEvent_psp (i : Nat) : (s.vloopEvent i).psp = s.psp := rfl
@[simp] theorem State.vloopEvent_pwr (i : Nat) : (s.vloopEvent i).pwr = s.pwr := rfl
@[simp] theorem State.vloopEvent_mem (i : Nat) : (s.vloopEvent i).mem = s.mem := rfl
@[simp] theorem State.vloopEvent_nvm (i : Nat) : (s.vloopEvent i).nvm = s.nvm := rfl
@[simp] theorem State.vloopEvent_out (i : Nat) : (s.vloopEvent i).out = s.out := rfl
@[simp] theorem State.vloopEvent_freeCtr (i : Nat) : (s.vloopEvent i).freeCtr = s.freeCtr := rfl
@[simp] theorem State.vloopEvent_pending (i : Nat) : (s.vloopEvent i).pending = s.pending := rfl

/-! ### State.gauFault -/

@[simp] theorem State.gauFault_tbs (i : Nat) : (s.gauFault i).tbs = s.tbs := rfl
@[simp] theorem State.gauFault_lay (i : Nat) : (s.gauFault i).lay = s.lay := rfl
@[simp] theorem State.gauFault_fns (i : Nat) : (s.gauFault i).fns = s.fns := rfl
@[simp] theorem State.gauFault_ports (i : Nat) : (s.gauFault i).ports = s.ports := rfl
@[simp] theorem State.gauFault_queues (i : Nat) : (s.gauFault i).queues = s.queues := rfl
@[simp] theorem State.gauFault_slu (i : Nat) : (s.gauFault i).slu = s.slu := rfl
@[simp] theorem State.gauFault_bsn (i : Nat) : (s.gauFault i).bsn = s.bsn := rfl
@[simp] theorem State.gauFault_basins (i : Nat) : (s.gauFault i).basins = s.basins := rfl
@[simp] theorem State.gauFault_cis (i : Nat) : (s.gauFault i).cis = s.cis := rfl
@[simp] theorem State.gauFault_vlt (i : Nat) : (s.gauFault i).vlt = s.vlt := rfl
@[simp] theorem State.gauFault_wei (i : Nat) : (s.gauFault i).wei = s.wei := rfl
@[simp] theorem State.gauFault_pairs (i : Nat) : (s.gauFault i).pairs = s.pairs := rfl
@[simp] theorem State.gauFault_spg (i : Nat) : (s.gauFault i).spg = s.spg := rfl
@[simp] theorem State.gauFault_fnt (i : Nat) : (s.gauFault i).fnt = s.fnt := rfl
@[simp] theorem State.gauFault_gro (i : Nat) : (s.gauFault i).gro = s.gro := rfl
@[simp] theorem State.gauFault_ccb (i : Nat) : (s.gauFault i).ccb = s.ccb := rfl
@[simp] theorem State.gauFault_cls (i : Nat) : (s.gauFault i).cls = s.cls := rfl
@[simp] theorem State.gauFault_psp (i : Nat) : (s.gauFault i).psp = s.psp := rfl
@[simp] theorem State.gauFault_pwr (i : Nat) : (s.gauFault i).pwr = s.pwr := rfl
@[simp] theorem State.gauFault_mem (i : Nat) : (s.gauFault i).mem = s.mem := rfl
@[simp] theorem State.gauFault_nvm (i : Nat) : (s.gauFault i).nvm = s.nvm := rfl
@[simp] theorem State.gauFault_out (i : Nat) : (s.gauFault i).out = s.out := rfl
@[simp] theorem State.gauFault_freeCtr (i : Nat) : (s.gauFault i).freeCtr = s.freeCtr := rfl
@[simp] theorem State.gauFault_pending (i : Nat) : (s.gauFault i).pending = s.pending := rfl

/-! ### State.gauMisc -/

@[simp] theorem State.gauMisc_tbs (i : Nat) : (s.gauMisc i).tbs = s.tbs := rfl
@[simp] theorem State.gauMisc_lay (i : Nat) : (s.gauMisc i).lay = s.lay := rfl
@[simp] theorem State.gauMisc_fns (i : Nat) : (s.gauMisc i).fns = s.fns := rfl
@[simp] theorem State.gauMisc_ports (i : Nat) : (s.gauMisc i).ports = s.ports := rfl
@[simp] theorem State.gauMisc_queues (i : Nat) : (s.gauMisc i).queues = s.queues := rfl
@[simp] theorem State.gauMisc_slu (i : Nat) : (s.gauMisc i).slu = s.slu := rfl
@[simp] theorem State.gauMisc_bsn (i : Nat) : (s.gauMisc i).bsn = s.bsn := rfl
@[simp] theorem State.gauMisc_basins (i : Nat) : (s.gauMisc i).basins = s.basins := rfl
@[simp] theorem State.gauMisc_cis (i : Nat) : (s.gauMisc i).cis = s.cis := rfl
@[simp] theorem State.gauMisc_vlt (i : Nat) : (s.gauMisc i).vlt = s.vlt := rfl
@[simp] theorem State.gauMisc_wei (i : Nat) : (s.gauMisc i).wei = s.wei := rfl
@[simp] theorem State.gauMisc_pairs (i : Nat) : (s.gauMisc i).pairs = s.pairs := rfl
@[simp] theorem State.gauMisc_spg (i : Nat) : (s.gauMisc i).spg = s.spg := rfl
@[simp] theorem State.gauMisc_fnt (i : Nat) : (s.gauMisc i).fnt = s.fnt := rfl
@[simp] theorem State.gauMisc_gro (i : Nat) : (s.gauMisc i).gro = s.gro := rfl
@[simp] theorem State.gauMisc_ccb (i : Nat) : (s.gauMisc i).ccb = s.ccb := rfl
@[simp] theorem State.gauMisc_cls (i : Nat) : (s.gauMisc i).cls = s.cls := rfl
@[simp] theorem State.gauMisc_psp (i : Nat) : (s.gauMisc i).psp = s.psp := rfl
@[simp] theorem State.gauMisc_pwr (i : Nat) : (s.gauMisc i).pwr = s.pwr := rfl
@[simp] theorem State.gauMisc_mem (i : Nat) : (s.gauMisc i).mem = s.mem := rfl
@[simp] theorem State.gauMisc_nvm (i : Nat) : (s.gauMisc i).nvm = s.nvm := rfl
@[simp] theorem State.gauMisc_out (i : Nat) : (s.gauMisc i).out = s.out := rfl
@[simp] theorem State.gauMisc_freeCtr (i : Nat) : (s.gauMisc i).freeCtr = s.freeCtr := rfl
@[simp] theorem State.gauMisc_pending (i : Nat) : (s.gauMisc i).pending = s.pending := rfl

/-! ### State.gauLink -/

@[simp] theorem State.gauLink_tbs (p : Bool) (i : Nat) : (s.gauLink p i).tbs = s.tbs := rfl
@[simp] theorem State.gauLink_lay (p : Bool) (i : Nat) : (s.gauLink p i).lay = s.lay := rfl
@[simp] theorem State.gauLink_fns (p : Bool) (i : Nat) : (s.gauLink p i).fns = s.fns := rfl
@[simp] theorem State.gauLink_ports (p : Bool) (i : Nat) : (s.gauLink p i).ports = s.ports := rfl
@[simp] theorem State.gauLink_queues (p : Bool) (i : Nat) : (s.gauLink p i).queues = s.queues := rfl
@[simp] theorem State.gauLink_slu (p : Bool) (i : Nat) : (s.gauLink p i).slu = s.slu := rfl
@[simp] theorem State.gauLink_bsn (p : Bool) (i : Nat) : (s.gauLink p i).bsn = s.bsn := rfl
@[simp] theorem State.gauLink_basins (p : Bool) (i : Nat) : (s.gauLink p i).basins = s.basins := rfl
@[simp] theorem State.gauLink_cis (p : Bool) (i : Nat) : (s.gauLink p i).cis = s.cis := rfl
@[simp] theorem State.gauLink_vlt (p : Bool) (i : Nat) : (s.gauLink p i).vlt = s.vlt := rfl
@[simp] theorem State.gauLink_wei (p : Bool) (i : Nat) : (s.gauLink p i).wei = s.wei := rfl
@[simp] theorem State.gauLink_pairs (p : Bool) (i : Nat) : (s.gauLink p i).pairs = s.pairs := rfl
@[simp] theorem State.gauLink_spg (p : Bool) (i : Nat) : (s.gauLink p i).spg = s.spg := rfl
@[simp] theorem State.gauLink_fnt (p : Bool) (i : Nat) : (s.gauLink p i).fnt = s.fnt := rfl
@[simp] theorem State.gauLink_gro (p : Bool) (i : Nat) : (s.gauLink p i).gro = s.gro := rfl
@[simp] theorem State.gauLink_ccb (p : Bool) (i : Nat) : (s.gauLink p i).ccb = s.ccb := rfl
@[simp] theorem State.gauLink_cls (p : Bool) (i : Nat) : (s.gauLink p i).cls = s.cls := rfl
@[simp] theorem State.gauLink_psp (p : Bool) (i : Nat) : (s.gauLink p i).psp = s.psp := rfl
@[simp] theorem State.gauLink_pwr (p : Bool) (i : Nat) : (s.gauLink p i).pwr = s.pwr := rfl
@[simp] theorem State.gauLink_mem (p : Bool) (i : Nat) : (s.gauLink p i).mem = s.mem := rfl
@[simp] theorem State.gauLink_nvm (p : Bool) (i : Nat) : (s.gauLink p i).nvm = s.nvm := rfl
@[simp] theorem State.gauLink_out (p : Bool) (i : Nat) : (s.gauLink p i).out = s.out := rfl
@[simp] theorem State.gauLink_freeCtr (p : Bool) (i : Nat) : (s.gauLink p i).freeCtr = s.freeCtr := rfl
@[simp] theorem State.gauLink_pending (p : Bool) (i : Nat) : (s.gauLink p i).pending = s.pending := rfl

/-! ### State.pins -/

@[simp] theorem State.pins_tbs : (s.pins).tbs = s.tbs := rfl
@[simp] theorem State.pins_lay : (s.pins).lay = s.lay := rfl
@[simp] theorem State.pins_fns : (s.pins).fns = s.fns := rfl
@[simp] theorem State.pins_ports : (s.pins).ports = s.ports := rfl
@[simp] theorem State.pins_queues : (s.pins).queues = s.queues := rfl
@[simp] theorem State.pins_slu : (s.pins).slu = s.slu := rfl
@[simp] theorem State.pins_bsn : (s.pins).bsn = s.bsn := rfl
@[simp] theorem State.pins_basins : (s.pins).basins = s.basins := rfl
@[simp] theorem State.pins_cis : (s.pins).cis = s.cis := rfl
@[simp] theorem State.pins_vlt : (s.pins).vlt = s.vlt := rfl
@[simp] theorem State.pins_wei : (s.pins).wei = s.wei := rfl
@[simp] theorem State.pins_pairs : (s.pins).pairs = s.pairs := rfl
@[simp] theorem State.pins_spg : (s.pins).spg = s.spg := rfl
@[simp] theorem State.pins_fnt : (s.pins).fnt = s.fnt := rfl
@[simp] theorem State.pins_gau : (s.pins).gau = s.gau := rfl
@[simp] theorem State.pins_ccb : (s.pins).ccb = s.ccb := rfl
@[simp] theorem State.pins_cls : (s.pins).cls = s.cls := rfl
@[simp] theorem State.pins_psp : (s.pins).psp = s.psp := rfl
@[simp] theorem State.pins_pwr : (s.pins).pwr = s.pwr := rfl
@[simp] theorem State.pins_mem : (s.pins).mem = s.mem := rfl
@[simp] theorem State.pins_nvm : (s.pins).nvm = s.nvm := rfl
@[simp] theorem State.pins_out : (s.pins).out = s.out := rfl
@[simp] theorem State.pins_freeCtr : (s.pins).freeCtr = s.freeCtr := rfl
@[simp] theorem State.pins_pending : (s.pins).pending = s.pending := rfl

end Sys2Proof.Machine
end

