-- ==== Sys2Proof/Laws/Frames.lean ====
section
/-! SUPPORT. What the shared operations may change: each lemma names the parts of State that one operation touches. -/

namespace Sys2Proof.Machine

/-- A message changes a function's pending vectors or is sent. -/
theorem State.msix_frame (s : State) (f : FnId) (v : Nat) : s.msix f v = { s with fns := (s.msix f v).fns, out := (s.msix f v).out } := by
  unfold State.msix; dsimp only
  split
  · rfl
  · split <;> rfl

/-- A device-wide message changes the pending vectors of the PF0s or is sent. -/
theorem State.devMsg_frame (s : State) (en : Bool) : s.devMsg en = { s with fns := (s.devMsg en).fns, out := (s.devMsg en).out } := by
  unfold State.devMsg
  split
  · rfl
  · have key : ∀ (a : State) (f : FnId), (if a.fnExists f && (a.fn f).evEnable then a.msix f (a.fn f).evVector else a) =
        { a with fns := (if a.fnExists f && (a.fn f).evEnable then a.msix f (a.fn f).evVector else a).fns
                 out := (if a.fnExists f && (a.fn f).evEnable then a.msix f (a.fn f).evVector else a).out } := by
      intro a f; split
      · exact State.msix_frame a f _
      · rfl
    simp only [List.foldl_cons, List.foldl_nil]
    rw [key, key s]

/-- An FNT_EVENT flag: the flag, its count and its message. -/
theorem State.fntEvent_frame (s : State) (i : Nat) : s.fntEvent i = { s with
    fnt := { s.fnt with event := s.fnt.event.set i }, fns := (s.fntEvent i).fns, out := (s.fntEvent i).out } := by
  unfold State.fntEvent; rw [State.devMsg_frame]

/-- An SPG_EVENT flag. -/
theorem State.spgEvent_frame (s : State) (i : Nat) : s.spgEvent i = { s with
    spg := { s.spg with event := s.spg.event.set i }, fns := (s.spgEvent i).fns, out := (s.spgEvent i).out } := by
  unfold State.spgEvent; rw [State.devMsg_frame]

/-- A CCB_EVENT flag: the flag, the interrupt of the Fountainhead pair and the message. -/
theorem State.ccbEvent_frame (s : State) (i : Nat) : s.ccbEvent i = { s with
    ccb := { s.ccb with event := s.ccb.event.set i }, pairs := (s.ccbEvent i).pairs, fns := (s.ccbEvent i).fns, out := (s.ccbEvent i).out } := by
  unfold State.ccbEvent; rw [State.devMsg_frame]; rfl

/-- A CLS_EVENT flag. -/
theorem State.clsEvent_frame (s : State) (i : Nat) : s.clsEvent i = { s with
    cls := { s.cls with event := s.cls.event.set i }, pairs := (s.clsEvent i).pairs, fns := (s.clsEvent i).fns, out := (s.clsEvent i).out } := by
  unfold State.clsEvent; rw [State.devMsg_frame]; rfl

/-- A BSN_EVENT flag. -/
theorem State.bsnEvent_frame (s : State) (i : Nat) : s.bsnEvent i = { s with
    bsn := { s.bsn with event := s.bsn.event.set i }, pairs := (s.bsnEvent i).pairs, fns := (s.bsnEvent i).fns, out := (s.bsnEvent i).out } := by
  unfold State.bsnEvent; rw [State.devMsg_frame]; rfl

/-- A GRO_EVENT flag. -/
theorem State.groEvent_frame (s : State) (i : Nat) : s.groEvent i = { s with
    gro := { s.gro with event := s.gro.event.set i }, pairs := (s.groEvent i).pairs } := rfl

/-- A PSP_EVENT flag. -/
theorem State.pspEvent_frame (s : State) (i : Nat) : s.pspEvent i = { s with psp := (s.pspEvent i).psp, pairs := (s.pspEvent i).pairs } := by
  unfold State.pspEvent; split <;> rfl

/-- A function event: its flag, its message and WAKE_N. -/
theorem State.fnEvent_frame (s : State) (f : FnId) (i : Nat) : s.fnEvent f i = { s with
    fns := (s.fnEvent f i).fns, out := (s.fnEvent f i).out, pwr := (s.fnEvent f i).pwr } := by
  unfold State.fnEvent
  split
  · rfl
  · dsimp only
    split
    · rw [State.msix_frame]; unfold State.wakeFor; split <;> rfl
    · unfold State.wakeFor; split <;> rfl

/-- A Gauge event entry changes Gauge alone. -/
theorem State.gaugeLog_frame (s : State) (k src t : Nat) (d : Bytes) : s.gaugeLog k src t d = { s with gau := (s.gaugeLog k src t d).gau } := by
  unfold State.gaugeLog; dsimp only; split <;> split <;> rfl

/-- A pending share write that is dropped changes the card bus alone, with its flag, interrupt and message. -/
theorem State.dropPending_frame (s : State) (n : Nat) : s.dropPending n = { s with
    ccb := (s.dropPending n).ccb, pairs := (s.dropPending n).pairs, fns := (s.dropPending n).fns, out := (s.dropPending n).out } := by
  unfold State.dropPending; dsimp only
  split
  · rw [State.ccbEvent_frame]; rfl
  · rfl

/-- The end of a session: the session and SESSION_END, and what the unknown writes of the slots resolve to. -/
theorem State.endSession_frame (s : State) : s.endSession = { s with
    fnt := s.endSession.fnt, ccb := s.endSession.ccb, pairs := s.endSession.pairs, fns := s.endSession.fns, out := s.endSession.out } := by
  have drop : ∀ (a : State) (n : Nat), ∃ c p f o, a.dropPending n = { a with ccb := c, pairs := p, fns := f, out := o } :=
    fun a n => ⟨_, _, _, _, State.dropPending_frame a n⟩
  have ends : ∃ n c p f o, s.endSession = { s with fnt := n, ccb := c, pairs := p, fns := f, out := o } := by
    unfold State.endSession
    split
    · simp only [List.foldl_cons, List.foldl_nil]
      obtain ⟨c0, p0, f0, o0, h0⟩ := drop (({ s with fnt := { s.fnt with session := none } }).fntEvent 3) 0
      rw [h0, State.fntEvent_frame]
      obtain ⟨c1, p1, f1, o1, h1⟩ := drop _ 1
      rw [h1]
      obtain ⟨c2, p2, f2, o2, h2⟩ := drop _ 2
      rw [h2]
      obtain ⟨c3, p3, f3, o3, h3⟩ := drop _ 3
      rw [h3]
      exact ⟨_, _, _, _, _, rfl⟩
    · exact ⟨_, _, _, _, _, rfl⟩
  obtain ⟨n, c, p, f, o, h⟩ := ends
  rw [h]

@[simp] theorem State.dropPending_fnt (s : State) (n : Nat) : (s.dropPending n).fnt = s.fnt := by rw [State.dropPending_frame]

/-- After the end of a session none is open. -/
@[simp] theorem State.endSession_session (s : State) : s.endSession.fnt.session = none := by
  unfold State.endSession
  split
  · simp only [List.foldl_cons, List.foldl_nil, State.dropPending_fnt]
    rw [State.fntEvent_frame]
  · next h => simpa using h

/-- A wire write of the passport changes the passport alone. -/
theorem State.stageWire_frame (s : State) (k : Nat) (b : Bytes) : s.stageWire k b = { s with psp := (s.stageWire k b).psp } := by
  unfold State.stageWire; dsimp only; split <;> rfl

/-- A change of OP_STATE changes it, the pins that follow it and the passport's CONDITION. -/
theorem State.setOp_frame (s : State) (o : OpState) : s.setOp o = { s with
    fnt := { s.fnt with op := o }, gro := (s.setOp o).gro, psp := (s.setOp o).psp } := by
  unfold State.setOp
  split
  · next h => subst h; rfl
  · unfold State.writeCondition; rw [State.stageWire_frame]; rfl

/-- The requests of a read of host memory are sent, and change nothing else. -/
theorem State.readHost_frame (s : State) (f : FnId) (a n : Nat) : s.readHost f a n = { s with out := (s.readHost f a n).out } := by
  unfold State.readHost
  generalize pieces (s.maxRead f.port) a n = l
  induction l generalizing s with
  | nil => rfl
  | cons x r ih => simp only [List.foldl_cons]; rw [ih]; rfl

/-- Reads of host memory are sent, and change nothing else. -/
theorem State.readAll_frame (s : State) (c : Cmd) (l : List (Nat × Nat)) : s.readAll c l = { s with out := (s.readAll c l).out } := by
  unfold State.readAll
  split
  · rfl
  · next h =>
    clear h
    induction l generalizing s with
    | nil => rfl
    | cons x r ih => simp only [List.foldl_cons]; rw [ih, State.readHost_frame]

/-- The start of an attempt's reads changes its entry and sends the reads. -/
theorem State.startReads_frame (s : State) (e : Nat) : s.startReads e = { s with slu := (s.startReads e).slu, out := (s.startReads e).out } := by
  unfold State.startReads
  split
  · rfl
  · dsimp only
    split
    · rw [State.readAll_frame]; rfl
    · rw [State.readAll_frame]; rfl

/-- The begin of the next management command changes the retire window and sends its reads. -/
theorem State.beginMgmt_frame (s : State) : s.beginMgmt = { s with slu := s.beginMgmt.slu, out := s.beginMgmt.out } := by
  unfold State.beginMgmt
  split
  · rfl
  · split
    · rfl
    · split
      · rw [State.startReads_frame]; rfl
      · rfl

/-- A management command that leaves Fountainhead changes the retire window and starts the next one's reads. -/
theorem State.leaveMgmt_frame (s : State) (e : Nat) : s.leaveMgmt e = { s with slu := (s.leaveMgmt e).slu, out := (s.leaveMgmt e).out } := by
  unfold State.leaveMgmt
  split
  · dsimp only; rw [State.beginMgmt_frame]
  · rfl

/-- The end of an execution changes the retire window, the command's basin and, for a management command, what is sent. -/
theorem State.finish_frame (s : State) (e : Nat) (a : Answer) : s.finish e a = { s with
    slu := (s.finish e a).slu, basins := (s.finish e a).basins, out := (s.finish e a).out } := by
  unfold State.finish
  split
  · rfl
  · dsimp only
    split
    · rfl
    · rw [State.leaveMgmt_frame]; rfl

/-- Bytes drawn from a DRBG change Spring alone. -/
theorem State.draw_frame (s : State) (n len : Nat) (b : Bytes) (t : State) (h : s.draw n len = some (b, t)) : t = { s with spg := t.spg } := by
  unfold State.draw at h; dsimp only at h
  split at h
  · cases h; rfl
  · split at h
    · cases h; rfl
    · cases h

/-- A fresh request changes Spring alone. -/
theorem State.drawFresh_frame (s : State) (n len : Nat) (b : Bytes) (t : State) (h : s.drawFresh n len = some (b, t)) : t = { s with spg := t.spg } := by
  unfold State.drawFresh at h; dsimp only at h
  split at h
  · cases h
  · split at h
    · cases h
    · cases h; rfl

/-- Memory has its canonical form at reset. -/
theorem Memory.wf_reset : Memory.wf State.reset.mem = true := rfl

end Sys2Proof.Machine
end

