-- ==== Sys2Proof/Laws/Keeper.lean ====
section
/-! SUPPORT. The keeper core (18): registers after a write, and an instruction of a pair that issues. -/

namespace Sys2Proof.Machine

/-- W_i after a write of W_rd: the value written, cut to 32 bits for W15 (SP of the ring), and every other W as before. -/
theorem KPair.reg_putReg (k : KPair) (rd j : Nat) (v : BitVec 128) :
    (k.putReg rd v).reg j = if j = rd then (if rd = 15 then BitVec.ofNat 128 (v.toNat % 2 ^ 32) else v) else k.reg j := by
  by_cases h15 : rd = 15
  · by_cases hj : j = 15
    · have e : ((k.putSp k.ring (low32 v)).reg 15) = BitVec.ofNat 128 ((k.putSp k.ring (low32 v)).spOf k.ring) := rfl
      simp only [KPair.putReg, h15, hj, if_true]
      rw [e]
      apply BitVec.eq_of_toNat_eq
      simp [KPair.spOf, KPair.putSp, low32]
    · simp [KPair.putReg, KPair.reg, KPair.putSp, h15, hj]
  · by_cases hj : j = rd
    · subst hj; simp [KPair.putReg, KPair.reg, h15]
    · by_cases hj15 : j = 15
      · subst hj15; simp only [KPair.putReg, if_neg h15, if_neg hj]; rfl
      · simp [KPair.putReg, KPair.reg, h15, hj, hj15, tabGet_tabSet_other _ _ _ hj]

@[simp] theorem KPair.putReg_pc (k : KPair) (rd : Nat) (v : BitVec 128) : (k.putReg rd v).pc = k.pc := by
  unfold KPair.putReg; split <;> rfl
@[simp] theorem KPair.putReg_st (k : KPair) (rd : Nat) (v : BitVec 128) : (k.putReg rd v).st = k.st := by
  unfold KPair.putReg; split <;> rfl
@[simp] theorem KPair.putReg_ring (k : KPair) (rd : Nat) (v : BitVec 128) : (k.putReg rd v).ring = k.ring := by
  unfold KPair.putReg KPair.ring; split <;> rfl

/-- Bit j of ST after a write of bit i. -/
theorem putBit_bit (st : BitVec 32) (i j : Nat) (v : Bool) (hj : j < 32) :
    (putBit st i v).getLsbD j = if j = i then v else st.getLsbD j := by
  have e : (BitVec.ofNat 32 (2 ^ i)).getLsbD j = decide (i = j) := by
    simp only [BitVec.getLsbD_ofNat, hj, decide_true, Bool.true_and, Nat.testBit_two_pow]
  have e2 : decide (i = j) = decide (j = i) := by by_cases h : i = j <;> simp [h, eq_comm]
  rw [e2] at e
  by_cases h : j = i
  · cases v
    · show (st &&& ~~~ BitVec.ofNat 32 (2 ^ i)).getLsbD j = _
      rw [BitVec.getLsbD_and, BitVec.getLsbD_not, e]; simp [h]
    · show (st ||| BitVec.ofNat 32 (2 ^ i)).getLsbD j = _
      rw [BitVec.getLsbD_or, e]; simp [h]
  · cases v
    · show (st &&& ~~~ BitVec.ofNat 32 (2 ^ i)).getLsbD j = _
      rw [BitVec.getLsbD_and, BitVec.getLsbD_not, e, if_neg h]; simp [h]; intro hx
      exact hj
    · show (st ||| BitVec.ofNat 32 (2 ^ i)).getLsbD j = _
      rw [BitVec.getLsbD_or, e, if_neg h]; simp [h]

/-- ST after the four flags are written (R418): they are bits 0 to 3, and the other bits stay. -/
theorem KPair.flags_bit (k : KPair) (c z n v : Bool) (j : Nat) (hj : j < 32) : (k.flags c z n v).st.getLsbD j =
    if j = 0 then c else if j = 1 then z else if j = 2 then n else if j = 3 then v else k.st.getLsbD j := by
  simp only [KPair.flags]
  rw [putBit_bit _ _ _ _ hj, putBit_bit _ _ _ _ hj, putBit_bit _ _ _ _ hj, putBit_bit _ _ _ _ hj]
  by_cases h0 : j = 0
  · subst h0; simp
  · by_cases h1 : j = 1
    · subst h1; simp
    · by_cases h2 : j = 2
      · subst h2; simp
      · by_cases h3 : j = 3
        · subst h3; simp
        · simp [h0, h1, h2, h3]

/-- A fetch passes when its segment permits it and Weir does not deny it. -/
theorem State.fetchFault_none (s : State) (p off : Nat) (h : fetchCause p (s.pair p) off = 0) (hd : fetchDenied s p off = none) :
    s.fetchFault p off = none := by
  simp [State.fetchFault, h, hd]

/-- An instruction of a pair that issues and whose fetch passes is its own effect. -/
theorem State.instr_runs (s : State) (p size : Nat) (f : KPair → Host.Outcome State Fault Refusal) (h : issues s p = true)
    (h0 : s.fetchFault p (s.pair p).pc.toNat = none)
    (h2 : size = 4 → s.fetchFault p ((s.pair p).pc.toNat + 2) = none) : s.instr p size f = f (s.pair p) := by
  unfold State.instr
  by_cases hs : size = 4
  · simp [h, h0, hs, h2 hs]
  · simp [h, h0, hs]

/-- The RR and RRR operations: operands, result, flags, PC (R427 to R429). -/
theorem State.alu_runs (s : State) (p : Nat) (o : AluForm) (rr zd zt w : Bool) (f : KPair → AluIn → AluOut) (i : AluIn)
    (hi : aluIn (s.pair p) o rr zd zt = some i) (h : issues s p = true)
    (h0 : s.fetchFault p (s.pair p).pc.toNat = none)
    (h2 : AluForm.size o = 4 → s.fetchFault p ((s.pair p).pc.toNat + 2) = none) :
    s.alu p o rr zd zt w f = .next (s.setPair p ((s.pair p).finishAlu i (f (s.pair p) i) w)) := by
  unfold State.alu; rw [State.instr_runs s p _ _ h h0 h2]; simp only [hi]

/-- The size of an operand set is that of its form. -/
theorem aluIn_size (k : KPair) (o : AluForm) (rr zd zt : Bool) (i : AluIn) (h : aluIn k o rr zd zt = some i) :
    AluForm.size o = i.size := by
  unfold aluIn at h
  cases o with
  | rr rd rs => cases rr <;> simp at h; rw [← h]; rfl
  | rrr c rd rs rt =>
    simp only at h; split at h
    · cases h
    · simp only [Option.some.injEq] at h; rw [← h]; rfl

theorem KPair.finishAlu_st (k : KPair) (i : AluIn) (o : AluOut) (w : Bool) :
    (k.finishAlu i o w).st = (k.flags o.c (o.r == 0) (bitAt o.r (i.w - 1)) o.v).st := by
  cases w <;> simp [KPair.finishAlu, KPair.past]

theorem KPair.finishAlu_pc (k : KPair) (i : AluIn) (o : AluOut) (w : Bool) :
    (k.finishAlu i o w).pc = k.pc + BitVec.ofNat 32 i.size := by
  cases w <;> simp [KPair.finishAlu, KPair.past, KPair.flags]

/-- The four flags are not the ring. -/
@[simp] theorem KPair.flags_ring (k : KPair) (c z n v : Bool) : (k.flags c z n v).ring = k.ring := by
  have e : ∀ j, j < 32 → 6 ≤ j → (k.flags c z n v).st.getLsbD j = k.st.getLsbD j := by
    intro j h1 h2; rw [KPair.flags_bit _ _ _ _ _ _ h1]; simp [show j ≠ 0 by omega, show j ≠ 1 by omega, show j ≠ 2 by omega, show j ≠ 3 by omega]
  have e6 := e 6 (by omega) (by omega)
  have e7 := e 7 (by omega) (by omega)
  simp only [BitVec.getLsbD] at e6 e7
  unfold KPair.ring bitsAt
  generalize (k.flags c z n v).st.toNat = a at *
  generalize k.st.toNat = b at *
  rw [Nat.testBit_eq_decide_div_mod_eq, Nat.testBit_eq_decide_div_mod_eq] at e6 e7
  simp only [decide_eq_decide] at e6 e7
  omega

/-- Every W after an operation of rd. -/
theorem KPair.finishAlu_reg (k : KPair) (i : AluIn) (o : AluOut) (j : Nat) :
    (k.finishAlu i o true).reg j =
      if j = i.rd then BitVec.ofNat 128 (if i.rd = 15 then o.r % 2 ^ 128 % 2 ^ 32 else o.r) else k.reg j := by
  have e : (k.finishAlu i o true).reg j =
      ((k.flags o.c (o.r == 0) (bitAt o.r (i.w - 1)) o.v).putReg i.rd (BitVec.ofNat 128 o.r)).reg j := by
    simp only [KPair.finishAlu, if_true]; rfl
  rw [e, KPair.reg_putReg]
  have e2 : (k.flags o.c (o.r == 0) (bitAt o.r (i.w - 1)) o.v).reg j = k.reg j := by
    unfold KPair.reg; rw [KPair.flags_ring]; rfl
  rw [e2]
  by_cases h : j = i.rd
  · by_cases h15 : i.rd = 15 <;> simp [h, h15]
  · simp [h]

end Sys2Proof.Machine
end

