-- ==== Sys2Proof/WellFormed.lean ====
section
/-! DEFINITION. The ranges of the commands' operands: the numbers of basins, pairs, entries, queues, registers, slots and
fields that the spec gives (R16, R95, R98, R120, R417, R428, R525). The meanings are total whatever the operands. -/

namespace Sys2Proof

/-- A VF number is 1 to 31, PF0 is 0 (R98). -/
def FnId.ok (f : FnId) : Bool := decide (f.vf < 32)

/-- The retire buffer has 16,384 entries (R16). -/
def entryOk (e : Nat) : Bool := decide (e < 16384)

/-- Basins 0 to 7 (01). -/
def basinOk (b : Nat) : Bool := decide (b < 8)

/-- Keeper pairs of basins 0 to 7, and 8 for Fountainhead (R396). -/
def pairOk (p : Nat) : Bool := decide (p < 9)

/-- Queue pairs 0 to 63 of a function (R120). -/
def queueOk (q : Nat) : Bool := decide (q < 64)

/-- A four-bit register number (R427, R428). -/
def regOk (r : Nat) : Bool := decide (r < 16)

/-- The unit exists (R55). -/
def Unit.ok : Unit → Bool
  | .basin n => basinOk n
  | .cistern | .vault | .fountainhead | .sluice | .wellhead _ | .spring | .grotto => true

/-- Generation numbers have 32 bits (R199). -/
def ReplyGen.ok (g : ReplyGen) : Bool := decide (g.responder < 2 ^ 32) && decide (g.echoed < 2 ^ 32)

/-- Instance numbers have 8 bits (R181). -/
def Attempt.ok (a : Attempt) : Bool := entryOk a.entry && decide (a.inst < 256)

/-- Field widths of the RR and RRR forms (R427, R428). -/
def AluForm.ok : AluForm → Bool
  | .rr rd rs => regOk rd && regOk rs
  | .rrr w rd rs rt => decide (w < 4) && regOk rd && regOk rs && regOk rt

/-- Field widths of the RI, RI16 and RRI forms (R427, R428). -/
def ImmForm.ok : ImmForm → Bool
  | .ri rd i => regOk rd && decide (i < 128)
  | .ri16 rd i => regOk rd && decide (i < 65536)
  | .rri rd rs i => regOk rd && regOk rs && decide (i < 16384)

/-- Field widths of the RR access and MEM forms (R427, R428); size 0 to 4 is 8 to 128 bits. -/
def MemForm.ok : MemForm → Bool
  | .rr sz rd rs => decide (sz < 5) && regOk rd && regOk rs
  | .mem rd seg base sz d => regOk rd && decide (seg < 8) && regOk base && decide (sz < 8) && decide (d < 1024)

/-- Field widths of the BR and JMP forms (R427, R428). -/
def JmpForm.ok : JmpForm → Bool
  | .short c d => decide (c < 8) && decide (d < 256)
  | .long c d => regOk c && decide (d < 1048576)

/-- Field widths of the BLK form (R428). -/
def BlkForm.ok (o : BlkForm) : Bool :=
  decide (o.segS < 8) && decide (o.segD < 8) && regOk o.pS && regOk o.pD && regOk o.pV

/-- Field widths of a Cascade command word (CAS_CMD, 11). -/
def CasOps.ok (o : CasOps) : Bool :=
  decide (o.nw < 32) && decide (o.ctx < 8) && decide (o.d < 4096) && decide (o.a < 4096) && decide (o.b < 4096) &&
    decide (o.c < 4096) && decide (o.l < 8192) && decide (o.mode < 256) && entryOk o.entry

/-- Every operand lies in its range. -/
def Instr.wf (i : Instr) : Bool :=
  match i with
  | .submissionTailDoorbell f q _ => f.ok && queueOk q
  | .completionHeadDoorbell f q _ => f.ok && queueOk q
  | .descriptorFetch f q => f.ok && queueOk q
  | .admission f q r => f.ok && queueOk q && decide (r.gen < 2 ^ 32)
  | .wakeComplete b => basinOk b
  | .parkBasin b => basinOk b
  | .sluCtrlWrite f _ => f.ok
  | .dispatch b _ => basinOk b
  | .segmentBoundary b => basinOk b
  | .hostReadCompletion a gen _ _ => a.ok && decide (gen < 2 ^ 32)
  | .keyFillComplete a g _ _ => a.ok && g.ok
  | .fillBufferGrant e _ => entryOk e
  | .workBufferGrant e => entryOk e
  | .stripeComplete a gen _ => a.ok && decide (gen < 2 ^ 32)
  | .verdict e => entryOk e
  | .nonceReservationPersisted _ => true
  | .retirement e => entryOk e
  | .postCompletion f q => f.ok && queueOk q
  | .msixCoalesceTimeout f q => f.ok && queueOk q
  | .msixVectorUnmask f vector => f.ok && vector.all (fun v => decide (v < 64))
  | .retentionExpiry f q _ => f.ok && queueOk q
  | .queueEnable f q _ => f.ok && queueOk q
  | .queueDisable f q _ => f.ok && queueOk q
  | .nop e => entryOk e
  | .batchArm e => entryOk e
  | .launchCancel e => entryOk e
  | .pinTranslate e => entryOk e
  | .pinVerify e => entryOk e
  | .macGenerate e => entryOk e
  | .macVerify e => entryOk e
  | .arqcVerify e => entryOk e
  | .cvvCompute e => entryOk e
  | .cvvVerify e => entryOk e
  | .aeadSeal e => entryOk e
  | .aeadOpen e => entryOk e
  | .tokenEncode e => entryOk e
  | .tokenDecode e => entryOk e
  | .digest e => entryOk e
  | .hmac e => entryOk e
  | .random e => entryOk e
  | .randomNotSeededDeadline e => entryOk e
  | .sign e => entryOk e
  | .verify e => entryOk e
  | .pairedVerify e => entryOk e
  | .kemEncaps e => entryOk e
  | .kemDecaps e => entryOk e
  | .ecdh e => entryOk e
  | .keypairGenerate e => entryOk e
  | .attest e => entryOk e
  | .keyImport e => entryOk e
  | .keyExport e => entryOk e
  | .keyGenerate e => entryOk e
  | .keyDerive e => entryOk e
  | .keyState e => entryOk e
  | .keyDestroy e => entryOk e
  | .layoutLoad e => entryOk e
  | .layoutStage e => entryOk e
  | .layoutDiscard e => entryOk e
  | .firmwareStage e => entryOk e
  | .launchSchedule e => entryOk e
  | .quorumOpen e => entryOk e
  | .quorumCollect e => entryOk e
  | .quorumAbort e => entryOk e
  | .quorumCommit e => entryOk e
  | .gaugeRead e => entryOk e
  | .passportRecordWrite e => entryOk e
  | .eraseNotes e => entryOk e
  | .passportIncrement e => entryOk e
  | .setPassword e => entryOk e
  | .debugInstall e => entryOk e
  | .debugRemove e => entryOk e
  | .entropyRaw e => entryOk e
  | .rawRunEnd _ _ _ => true
  | .vaultRestore e => entryOk e
  | .launchInstant => true
  | .layoutSlotCommit => true
  | .epochDrained => true
  | .launchSequenceDrained => true
  | .swapDrained => true
  | .basinDrainTimeout b => basinOk b
  | .paceWindow cycles256 => decide (cycles256.length = 8)
  | .loopPeriod => true
  | .avsReadBack => true
  | .avsCeilWrite f _ => f.ok
  | .stall u el e => u.ok && decide (el < 16) && e.all entryOk
  | .railCollision u el e => u.ok && decide (el < 16) && e.all entryOk
  | .refLost => true
  | .refRestored => true
  | .syncPairWrite => true
  | .tbsStep f _ => f.ok
  | .counterStep => true
  | .tbsSet f _ => f.ok
  | .counterSet => true
  | .tbsSlew f _ => f.ok
  | .slewEnd => true
  | .ppsEdge => true
  | .holdover => true
  | .ppsOutRise => true
  | .ppsOutFall => true
  | .linkDown _ => true
  | .linkUp _ rate width => decide (rate < 7) && decide (width ≤ 16)
  | .perstAssert _ => true
  | .holdExpired f q => f.ok && queueOk q
  | .reattach f _ => f.ok
  | .functionLevelReset f => f.ok
  | .flrComplete f => f.ok
  | .vfEnableSet _ numVfs => decide (numVfs < 32)
  | .vfEnableClear _ => true
  | .powerStateChange f _ => f.ok
  | .ideCheckFailure _ => true
  | .ideKmMessage _ _ => true
  | .spdmMessage _ _ => true
  | .wideRegisterRead f off n => f.ok && decide (off < 0x2001000) && decide (n ≤ 4096)
  | .registerWrite f off n _ _ => f.ok && decide (off < 0x2001000) && decide (n ≤ 4096)
  | .checkingPipeMismatch b jet e => basinOk b && decide (jet < 10) && entryOk e
  | .hashParityFailure b jet e => basinOk b && decide (jet < 10) && entryOk e
  | .fabricTagFailure sender receiver e => sender.ok && receiver.ok && e.all entryOk
  | .sramUncorrectable x _ => basinOk x.unit && x.entry.all entryOk
  | .sramCorrection b => basinOk b
  | .keeperLockstepMismatch x => pairOk x.unit && x.entry.all entryOk
  | .restartVerifyDone _ => true
  | .sequencerControlFault x => basinOk x.unit && x.entry.all entryOk
  | .faultRetestDone b _ => basinOk b
  | .admissionSelfTestDone b _ => basinOk b
  | .spareSelfTest _ => true
  | .rollingUpdate f => f.ok
  | .updateBasinDone b _ => basinOk b
  | .jetJob b _ => basinOk b
  | .jobDone b => basinOk b
  | .modset b o => basinOk b && o.ok
  | .madd b o => basinOk b && o.ok
  | .msub b o => basinOk b && o.ok
  | .mmul b o => basinOk b && o.ok
  | .mred b o => basinOk b && o.ok
  | .minv b o => basinOk b && o.ok
  | .mexp b o => basinOk b && o.ok
  | .imul b o => basinOk b && o.ok
  | .iadd b o => basinOk b && o.ok
  | .move b o => basinOk b && o.ok
  | .cswap b o => basinOk b && o.ok
  | .csel b o => basinOk b && o.ok
  | .loadkey b o => basinOk b && o.ok
  | .rand b o => basinOk b && o.ok
  | .wipe b o => basinOk b && o.ok
  | .check b o => basinOk b && o.ok
  | .declass b o => basinOk b && o.ok
  | .kstore b o => basinOk b && o.ok
  | .ntt b o => basinOk b && o.ok
  | .intt b o => basinOk b && o.ok
  | .pmul b o => basinOk b && o.ok
  | .padd b o => basinOk b && o.ok
  | .psub b o => basinOk b && o.ok
  | .sample b o => basinOk b && o.ok
  | .round b o => basinOk b && o.ok
  | .norm b o => basinOk b && o.ok
  | .pack b o => basinOk b && o.ok
  | .unpack b o => basinOk b && o.ok
  | .seqOpen b o => basinOk b && o.ok
  | .seqClose b o => basinOk b && o.ok
  | .cascadeCommandDone b => basinOk b
  | .casWindowRead b => basinOk b
  | .casWindowWrite b _ => basinOk b
  | .dieRetrain d _ => decide (d < 4)
  | .dieLost d => decide (d < 4)
  | .rewrapGo f => f.ok
  | .rewrapThreshold d => decide (d < 4)
  | .rewrapDone => true
  | .mirrorEntryWrite => true
  | .mirrorAck f _ => f.ok
  | .mirrorAckReadback entry => decide (entry.length = 384)
  | .mirrorCtrlWrite f _ => f.ok
  | .reloadTail f _ => f.ok
  | .reloadEntry entry => decide (entry.length = 384)
  | .reloadEnd f => f.ok
  | .reloadRestart f => f.ok
  | .weiKselWrite pair _ => pairOk pair
  | .weirRekey => true
  | .tagKeyRetire => true
  | .debugAccess _ _ lenM1 _ => decide (lenM1 < 4096)
  | .debugAccessResponse => true
  | .mov p rd rs => pairOk p && regOk rd && regOk rs
  | .add p o => pairOk p && o.ok
  | .sub p o => pairOk p && o.ok
  | .adc p o => pairOk p && o.ok
  | .sbb p o => pairOk p && o.ok
  | .and p o => pairOk p && o.ok
  | .or p o => pairOk p && o.ok
  | .xor p o => pairOk p && o.ok
  | .andn p o => pairOk p && o.ok
  | .tst p rd rs => pairOk p && regOk rd && regOk rs
  | .cmp p o => pairOk p && o.ok
  | .shl p o => pairOk p && o.ok
  | .shr p o => pairOk p && o.ok
  | .sar p o => pairOk p && o.ok
  | .ror p o => pairOk p && o.ok
  | .not p rd rs => pairOk p && regOk rd && regOk rs
  | .neg p rd rs => pairOk p && regOk rd && regOk rs
  | .mul p o => pairOk p && o.ok
  | .mulh p o => pairOk p && o.ok
  | .bswap p o => pairOk p && o.ok
  | .clz p o => pairOk p && o.ok
  | .popc p o => pairOk p && o.ok
  | .movi p o => pairOk p && o.ok
  | .movhi p rd imm16 => pairOk p && regOk rd && decide (imm16 < 65536)
  | .andi p rd imm16 => pairOk p && regOk rd && decide (imm16 < 65536)
  | .ori p rd imm16 => pairOk p && regOk rd && decide (imm16 < 65536)
  | .addi p o => pairOk p && o.ok
  | .cmpi p o => pairOk p && o.ok
  | .extf p rd rs imm14 => pairOk p && regOk rd && regOk rs && decide (imm14 < 16384)
  | .insf p rd rs imm14 => pairOk p && regOk rd && regOk rs && decide (imm14 < 16384)
  | .ld p o => pairOk p && o.ok
  | .fabricLoadReturn p r => pairOk p && r.gens.ok
  | .st p o => pairOk p && o.ok
  | .jcc p o => pairOk p && o.ok
  | .call p disp20 => pairOk p && decide (disp20 < 1048576)
  | .jr p rs => pairOk p && regOk rs
  | .callr p rs => pairOk p && regOk rs
  | .ret p => pairOk p
  | .ldl p rd disp20 => pairOk p && regOk rd && decide (disp20 < 1048576)
  | .push p reg => pairOk p && regOk reg
  | .pop p reg => pairOk p && regOk reg
  | .keeperNop p => pairOk p
  | .btst p bit => pairOk p && decide (bit < 65536)
  | .bset p bit _ => pairOk p && decide (bit < 65536)
  | .bclr p bit => pairOk p && decide (bit < 65536)
  | .bnot p bit => pairOk p && decide (bit < 65536)
  | .btas p bit => pairOk p && decide (bit < 65536)
  | .brd p rd bit => pairOk p && regOk rd && decide (bit < 65536)
  | .bwr p rd bit _ => pairOk p && regOk rd && decide (bit < 65536)
  | .bcopy p o => pairOk p && o.ok
  | .bfill p o => pairOk p && o.ok
  | .bcmp p o => pairOk p && o.ok
  | .bseek p o => pairOk p && o.ok
  | .bxor p o => pairOk p && o.ok
  | .bzero p o => pairOk p && o.ok
  | .movsg p sr rs => pairOk p && regOk sr && regOk rs
  | .movgs p rd sr => pairOk p && regOk rd && regOk sr
  | .movsr p sr rs => pairOk p && regOk sr && regOk rs
  | .movrs p rd sr => pairOk p && regOk rd && regOk sr
  | .callg p imm12 => pairOk p && decide (imm12 < 4096)
  | .retg p => pairOk p
  | .rnd p rd => pairOk p && regOk rd
  | .fence p => pairOk p
  | .fenceComplete p => pairOk p
  | .wait p => pairOk p
  | .waitWake p => pairOk p
  | .undefinedInstruction p => pairOk p
  | .interruptEntry p => pairOk p
  | .watchdogExpiry p => pairOk p
  | .watchdogKick p => pairOk p
  | .timerFire p k => pairOk p && decide (k < 2)
  | .sourceBlock _ _ _ _ _ => true
  | .sourceWindow _ _ _ _ => true
  | .sourceSettleEnd _ => true
  | .sourceRejoin _ => true
  | .drbgInstantiated n => decide (n < 9)
  | .drbgReseed n => decide (n < 9)
  | .reseedRequest f _ => f.ok
  | .leaveMaint f => f.ok
  | .fwSwitch f => f.ok
  | .sessionExpiry => true
  | .debugCertCheck => true
  | .tamperSourceAssert src => decide (src < 16)
  | .corroborationTimeout => true
  | .sealComplete => true
  | .eraseWarmReset => true
  | .batterySample _ => true
  | .mainPowerLoss => true
  | .stickyClear f _ _ => f.ok
  | .fuseOff f _ => f.ok
  | .accumulatorCommit => true
  | .temperatureSample _ vbatMv => decide (vbatMv < 4096)
  | .hourEnd => true
  | .cardInserted n => decide (n < 4)
  | .cardRemoved n => decide (n < 4)
  | .cardBringUp n => decide (n < 4)
  | .bringUpRetry n => decide (n < 4)
  | .cardResponse n _ => decide (n < 4)
  | .cardResponseTimeout n => decide (n < 4)
  | .receipt n _ _ => decide (n < 4)
  | .dataBlock n block _ => decide (n < 4) && decide (block.length = 256)
  | .busyHoldRelease n => decide (n < 4)
  | .busyHoldTimeout n => decide (n < 4)
  | .ping amplitude => decide (0 < amplitude)
  | .enumerationCycle _ => true
  | .externalFieldDetected => true
  | .readerResume => true
  | .badgeResponse _ => true
  | .badgeTimeout => true
  | .fieldOn => true
  | .fieldLost => true
  | .inventory _ _ maskLen slot => decide (maskLen ≤ 64) && slot.all (fun v => decide (v < 16))
  | .stayQuiet _ => true
  | .select _ => true
  | .resetToReady _ => true
  | .getSystemInformation _ => true
  | .readSingleBlock _ block => decide (block < 256)
  | .readMultipleBlocks _ first count => decide (first < 256) && decide (count ≤ 256)
  | .getDirectory _ => true
  | .readRecord _ rec off len => decide (rec < 256) && decide (off < 65536) && decide (len < 256)
  | .auth _ pw password => decide (pw < 256) && decide (password.length = 8)
  | .appendNote _ rec text => decide (rec < 256) && decide (text.length = 12)
  | .increment _ rec amount => decide (rec < 256) && decide (amount < 256)
  | .unsupportedTagCommand _ code => decide (code < 256)
  | .stagedBlockCommit => true
  | .forcedCommit => true
  | .wireBusyRetry => true
  | .powerOnReset rail _ => decide (rail < 9)
  | .boot => true
  | .warmDeviceReset _ => true
  | .completionTimeout f q e => f.ok && queueOk q && e.all entryOk
  | .tbRefReturn => true
  | .tamperSourceDeassert src => decide (src < 16)
  | .cascadeWipeDone b => basinOk b
  | .basinDiagnosisDone b _ => basinOk b
  | .perstDeassert _ => true
  | .vbatRetentionLoss => true
  | .holdupRecharged => true
  | .avsTransactionEnd _ => true
  | .poolRefill n _ => decide (n < 9)
  | .doeDiscovery _ index => decide (index < 256)

end Sys2Proof
end

