-- ==== Sys2Proof/Tests/Slice0.lean ====
section
/-! SUPPORT. Tests: commands that WellFormed refuses, the examples of the spec, and a witness for the hypotheses of each statement. -/

section

set_option Elab.async false

open Sys2Proof Sys2Proof.Machine Sys2Proof.Claims

namespace Sys2Proof.Tests

/-! ## WellFormed refuses an operand outside its range -/

def badFn : FnId := ⟨false, 32⟩
def okCas : CasOps := { nw := 31, ctx := 7, d := 4095, a := 4095, b := 4095, c := 4095, l := 8191, mode := 255, entry := 16383 }
def okBlk : BlkForm := { segS := 7, segD := 7, pS := 15, pD := 15, pV := 15, dir := true }
def okReq : TagReq := { mode := .selected, highRate := true, energy := true }

theorem test_wf_functions_entries_queues :
    [Instr.sluCtrlWrite badFn 0, .verdict 16384, .queueEnable ⟨true, 31⟩ 64 0, .parkBasin 8, .ret 9, .hostReadCompletion ⟨0, 256⟩ 0 .payload .poisoned].all (fun i => !i.wf) = true := by
  decide
theorem test_wf_functions_entries_queues_ok :
    [Instr.sluCtrlWrite ⟨true, 31⟩ 0, .verdict 16383, .queueEnable ⟨true, 31⟩ 63 0, .parkBasin 7, .ret 8, .hostReadCompletion ⟨0, 255⟩ 0 .payload .poisoned].all Instr.wf = true := by decide
theorem test_wf_msix_units_elements :
    [Instr.msixVectorUnmask ⟨false, 0⟩ (some 64), .stall (.basin 8) 0 none, .stall .vault 16 none, .stall .vault 15 (some 16384),
      .checkingPipeMismatch 0 10 0, .fabricTagFailure .sluice (.basin 8) none, .paceWindow [some 1, some 2]].all (fun i => !i.wf) = true := by decide
theorem test_wf_ports_registers :
    [Instr.linkUp false 7 16, .linkUp false 6 17, .vfEnableSet true 32, .wideRegisterRead ⟨false, 0⟩ 0x2001000 8].all (fun i => !i.wf) = true := by decide
theorem test_wf_keeper_registers :
    [Instr.mov 0 16 0, .mov 0 0 16, .add 0 (.rr 0 16), .add 0 (.rrr 4 0 0 0), .addi 0 (.ri 0 128), .addi 0 (.ri16 0 65536), .addi 0 (.rri 0 0 16384),
      .andi 0 0 65536, .extf 0 0 0 16384, .movsg 0 16 0, .callg 0 4096].all (fun i => !i.wf) = true := by decide
theorem test_wf_keeper_forms :
    [Instr.ld 0 (.rr 5 0 0), .ld 0 (.mem 0 8 0 0 0), .ld 0 (.mem 0 0 0 8 0), .ld 0 (.mem 0 0 0 0 1024), .jcc 0 (.short 8 0), .jcc 0 (.short 0 256),
      .jcc 0 (.long 16 0), .jcc 0 (.long 0 1048576), .call 0 1048576, .btst 0 65536, .timerFire 0 2].all (fun i => !i.wf) = true := by decide
theorem test_wf_keeper_blocks :
    [Instr.bcopy 0 { okBlk with segS := 8 }, .bcopy 0 { okBlk with segD := 8 }, .bcopy 0 { okBlk with pS := 16 }, .bcopy 0 { okBlk with pD := 16 },
      .bcopy 0 { okBlk with pV := 16 }].all (fun i => !i.wf) = true := by decide
theorem test_wf_cascade_words :
    [Instr.madd 0 { okCas with nw := 32 }, .madd 0 { okCas with ctx := 8 }, .madd 0 { okCas with d := 4096 }, .madd 0 { okCas with a := 4096 },
      .madd 0 { okCas with b := 4096 }, .madd 0 { okCas with c := 4096 }, .madd 0 { okCas with l := 8192 }, .madd 0 { okCas with mode := 256 },
      .madd 0 { okCas with entry := 16384 }].all (fun i => !i.wf) = true := by decide
theorem test_wf_forms_ok : [Instr.madd 7 okCas, .bcopy 8 okBlk, .ld 8 (.mem 15 7 15 7 1023), .jcc 0 (.long 15 1048575)].all Instr.wf = true := by decide
theorem test_wf_vault_spring_grotto :
    [Instr.dieLost 4, .reloadEntry [], .mirrorAckReadback [], .debugAccess 0 false 4096 [], .drbgReseed 9, .tamperSourceAssert 16,
      .temperatureSample 0 4096, .powerOnReset 9 true].all (fun i => !i.wf) = true := by decide
theorem test_wf_cards_and_tags :
    [Instr.cardInserted 4, .dataBlock 0 [] true, .ping 0, .inventory okReq 0 65 none, .inventory okReq 0 0 (some 16), .readSingleBlock okReq 256,
      .readMultipleBlocks okReq 0 257, .readRecord okReq 256 0 0, .readRecord okReq 0 65536 0, .readRecord okReq 0 0 256, .auth okReq 0 [1],
      .appendNote okReq 16 [1], .increment okReq 32 256, .unsupportedTagCommand okReq 256, .doeDiscovery false 256].all (fun i => !i.wf) = true := by decide

/-! ## Examples of the spec -/

/-- 14, the EMV example: PAN 5301 0831 2295 0077 with PSN 01. -/
def exArqc : Bytes :=
  padTo 128 (natLe 2 0x0112 ++ List.replicate 38 0 ++ natLe 4 37 ++ List.replicate 20 0 ++ [1, 2, 1, 0x2C, 1] ++ List.replicate 15 0
    ++ [16, 0x53, 0x01, 0x08, 0x31, 0x22, 0x95, 0x00, 0x77, 0xFF, 0xFF])
/-- 14, the first example: AES-256 DUKPT with w = 6, formats 4 and 4. -/
def exDukpt : Bytes :=
  padTo 128 (List.replicate 64 0 ++ [4, 4, 3, 3, 0, 0, 0, 0, 0x5C, 0x11, 0x00, 0x42, 0x00, 0x00, 0x2B, 0x5C, 0x00, 0x00, 0x01, 0x3E])

/-- R57: a ring whose cycle is exactly 625 ps reports 625. -/
theorem test_example_window_pace : windowPace 1677722 = 625 := by decide
/-- 14, R345: D = 240 and X_in = 44 of the first example. -/
theorem test_example_dukpt : dukptCost State.reset exDukpt 3 3 = 240 ∧ pinInCost State.reset exDukpt = 44 := by decide +kernel
/-- 14, R345: CMAC of 1 KiB under AES-256 takes 896 cycles, MAC algorithm 3 of 64 bytes 160. -/
theorem test_example_mac_cost : macCost 0 0 1024 3 = 896 ∧ macCost 3 1 64 4 = 160 := by decide
/-- 14: Y = 01 08 31 22 95 00 77 01 and E_J = 358 of the second example. -/
theorem test_example_arqc : arqcY exArqc = [0x01, 0x08, 0x31, 0x22, 0x95, 0x00, 0x77, 0x01] ∧ arqcCost State.reset exArqc = 358 := by decide +kernel
/-- 23: 20,000 h in bin 20, 6,000 h in bin 22 and 280 h in bin 25 give LIFE_PPM 18,092. -/
theorem test_example_life : lifePpm [(20, 72000000), (22, 21600000), (25, 1008000)] = 18092 := by decide +kernel
/-- 25: of two badges that end F1 and F0, the one with the collided bit 1 is recorded first. -/
theorem test_example_badges :
    recorded [BitVec.ofNat 80 (leNat [0x5C, 0x3E, 0x81, 0x07, 0xA2, 0x19, 0xD4, 0x6B, 0x20, 0xF0]), BitVec.ofNat 80 (leNat [0x5C, 0x3E, 0x81, 0x07, 0xA2, 0x19, 0xD4, 0x6B, 0x20, 0xF1])]
      = [BitVec.ofNat 80 (leNat [0x5C, 0x3E, 0x81, 0x07, 0xA2, 0x19, 0xD4, 0x6B, 0x20, 0xF1]), BitVec.ofNat 80 (leNat [0x5C, 0x3E, 0x81, 0x07, 0xA2, 0x19, 0xD4, 0x6B, 0x20, 0xF0])] := by
  decide +kernel
/-- R491: x^8 reduces to x^4 + x^3 + x + 1. -/
theorem test_gf : gfMul 0x80 2 = 0x1B ∧ gfMul 0x53 (gfInv 0x53) = 1 := by decide +kernel
/-- The queue is taken first in first out. -/
theorem test_step_front : ∃ t, step { State.reset with pending := [.nop 0, .boot] } = .next t ∧ t.pending = [.boot] := ⟨_, rfl, rfl⟩

end Sys2Proof.Tests


namespace Sys2Proof.Tests

/-- Reset with another Timebase. -/
def withTbs (t : TbsState) : State := { State.reset with tbs := t }

/-- A command of VF1 of port A, all of whose descriptor is zero. -/
def wCmd : Cmd := { fn := ⟨false, 1⟩, q := 0, slot := 0, desc := List.replicate 128 0, start := 0, epoch := 0, seq := 0, admitted := 0, order := 0 }

/-- A descriptor of an opcode with its first PARAMS bytes. -/
def wParams (op : Nat) (ps : Bytes) : Bytes := padTo 128 (natLe 2 op ++ List.replicate 62 0 ++ ps)

/-- A command that PF0 of port A sent, running with a verdict of ALLOW and its data in. -/
def wPf0 (op : Nat) (ps : Bytes) : Cmd :=
  { wCmd with fn := ⟨false, 0⟩, phase := .running, verdict := .allow, listsDone := true, inputDone := true, desc := wParams op ps }

/-- Reset with a command in entry 3, Fountainhead's present one. -/
def wMgmt (c : Cmd) : State := { (State.reset.setCmd 3 c) with slu := { (State.reset.setCmd 3 c).slu with mgmt := [3] } }

end Sys2Proof.Tests


namespace Sys2Proof.Tests

theorem test_referenceLossHoldsTrimUntilOneMsAfterReturn_1 : ∃ (s : State), s.tbs.refOk = true :=
  ⟨withTbs { refOk := true }, by decide⟩
theorem test_referenceLossHoldsTrimUntilOneMsAfterReturn_2 : ∃ (s : State), s.tbs.refOk = false :=
  ⟨withTbs { refOk := false, refSuspended := true }, by decide⟩
theorem test_referenceLossHoldsTrimUntilOneMsAfterReturn_3 : ∃ (s : State), s.tbs.refOk = true ∧ s.tbs.refSuspended = true ∧ s.tbs.refBack + 1000000 ≤ s.tbs.ran :=
  ⟨withTbs { refOk := true, refSuspended := true, refBack := 5, ran := 1000005, heldTrim := some 7 }, by decide⟩
theorem test_referenceLossHoldsTrimUntilOneMsAfterReturn_4 : ∃ (s : State), s.tbs.ran < s.tbs.refBack + 1000000 :=
  ⟨withTbs { refOk := true, refSuspended := true, refBack := 5, ran := 1000004 }, by decide⟩
theorem test_referenceLossHoldsTrimUntilOneMsAfterReturn_5 : ∃ (s : State), s.tbs.refSuspended = true :=
  ⟨withTbs { refOk := false, refSuspended := true }, by decide⟩
theorem test_referenceLossHoldsTrimUntilOneMsAfterReturn_6 : ∃ (s : State) (f : FnId) (v : BitVec 64), s.tbs.refSuspended = true :=
  ⟨withTbs { refOk := false, refSuspended := true }, ⟨false, 0⟩, 5, by decide⟩

theorem test_stepsAndSetsOfTheTimebase_1 : ∃ (s : State) (f : FnId) (v : BitVec 64), f.vf = 0 ∧ s.fnExists f = true ∧ s.tbs.ppsEn = false ∧ 1 ≤ v.toNat ∧ v.toNat ≤ 2 ^ 48 :=
  ⟨State.reset, ⟨false, 0⟩, 65, by decide⟩
theorem test_stepsAndSetsOfTheTimebase_2 : ∃ (s : State) (f : FnId) (v : BitVec 64), s.tbs.ppsEn = true :=
  ⟨withTbs { ppsEn := true }, ⟨false, 0⟩, 65, by decide⟩
theorem test_stepsAndSetsOfTheTimebase_3 : ∃ (s : State) (d : Nat), s.tbs.stepReq = some d ∧ s.tbs.now % 64 = 0 :=
  ⟨withTbs { stepReq := some 64 }, 64, by decide⟩
theorem test_stepsAndSetsOfTheTimebase_4 : ∃ (s : State) (f : FnId) (v : BitVec 64), f.vf = 0 ∧ s.fnExists f = true ∧ s.armed = [] ∧ (∀ b ∈ basinNums, (s.basin b).st ≠ .serving) :=
  ⟨State.reset, ⟨true, 0⟩, 7, by decide⟩
theorem test_stepsAndSetsOfTheTimebase_5 : ∃ (s : State) (f : FnId) (v : BitVec 64), (s.armed ≠ [] ∨ ∃ b ∈ basinNums, (s.basin b).st = .serving) :=
  ⟨State.reset.setBasin 3 { st := .serving }, ⟨true, 0⟩, 7, by decide⟩
theorem test_stepsAndSetsOfTheTimebase_6 : ∃ (s : State) (v : Nat), s.tbs.setReq = some v ∧ s.tbs.now % 64 = 0 ∧ s.armed = [] ∧ (∀ b ∈ basinNums, (s.basin b).st ≠ .serving) :=
  ⟨withTbs { setReq := some 9 }, 9, by decide⟩
theorem test_stepsAndSetsOfTheTimebase_7 : ∃ (s : State), s.tbs.now % 64 ≠ 0 :=
  ⟨withTbs { setReq := some 9, stepReq := some 64, now := 65 }, by decide⟩

theorem test_slewsPpsEdgesAndOutput_1 : ∃ (s : State) (f : FnId) (v : BitVec 64), f.vf = 0 ∧ s.fnExists f = true ∧ s.tbs.ppsEn = false ∧ s.tbs.refSuspended = false ∧ v.toInt ≠ 0 :=
  ⟨State.reset, ⟨true, 0⟩, -5, by decide⟩
theorem test_slewsPpsEdgesAndOutput_2 : ∃ (s : State), s.tbs.slewing = true ∧ s.tbs.refSuspended = false ∧ (s.tbs.trim = 1000000 ∧ s.tbs.slewLeft ≤ 0 ∨ s.tbs.trim = -1000000 ∧ 0 ≤ s.tbs.slewLeft) :=
  ⟨withTbs { slewing := true, trim := -1000000, slewSaved := 4 }, by decide⟩
theorem test_slewsPpsEdgesAndOutput_3b : ∃ (s : State), (s.tbs.trim = 1000000 ∧ 0 < s.tbs.slewLeft ∨ s.tbs.trim = -1000000 ∧ s.tbs.slewLeft < 0) ∧ s.tbs.slewing = true ∧ s.pwr.por = false ∧ s.pwr.main = true ∧ s.tbs.frac < 2 ^ 32 ∧ s.tbs.now + 2 < 2 ^ 64 :=
  ⟨{ withTbs { slewing := true, trim := 1000000, slewLeft := 5 } with pwr := { por := false, main := true } }, by decide⟩
theorem test_slewsPpsEdgesAndOutput_3 : ∃ (s : State), (s.tbs.trim = 1000000 ∧ 0 < s.tbs.slewLeft ∨ s.tbs.trim = -1000000 ∧ s.tbs.slewLeft < 0) :=
  ⟨withTbs { slewing := true, trim := -1000000, slewLeft := -1 }, by decide⟩
theorem test_slewsPpsEdgesAndOutput_4 : ∃ (s : State) (e : Nat), s.tbs.sync = .locked ∧ s.tbs.refSuspended = false ∧ s.tbs.lastEdge = some e ∧ e + 2000000000 ≤ s.tbs.ran :=
  ⟨withTbs { sync := .locked, lastEdge := some 1, ran := 2000000001 }, 1, by decide⟩
theorem test_slewsPpsEdgesAndOutput_5 : ∃ (s : State) (p : Nat), s.tbs.ppsEn = true ∧ s.tbs.refSuspended = false ∧ s.tbs.lastEdge = some p ∧ (s.tbs.ran < p + 999900000 ∨ p + 1000100000 < s.tbs.ran) :=
  ⟨withTbs { ppsEn := true, lastEdge := some 1000000000, ran := 2000100001 }, 1000000000, by decide⟩
theorem test_slewsPpsEdgesAndOutput_6 : ∃ (s : State), s.tbs.ppsEn = true ∧ s.tbs.refSuspended = false ∧ (s.tbs.lastEdge = none ∨ ∃ p ∈ s.tbs.lastEdge, p + 999900000 ≤ s.tbs.ran ∧ s.tbs.ran ≤ p + 1000100000) :=
  ⟨withTbs { ppsEn := true, lastEdge := some 1, ran := 999900001, now := 5 }, by decide⟩
theorem test_slewsPpsEdgesAndOutput_7 : ∃ (s : State), s.tbs.ppsOutEn = true ∧ s.tbs.ppsOut = false ∧ s.tbs.now % 1000000000 = s.tbs.ppsOffset % 1000000000 :=
  ⟨withTbs { ppsOutEn := true, ppsOffset := 5, now := 7000000005 }, by decide⟩
theorem test_slewsPpsEdgesAndOutput_8 : ∃ (s : State), s.tbs.ppsOut = true ∧ 100000000 ≤ s.tbs.ppsHigh :=
  ⟨withTbs { ppsOut := true, ppsHigh := 100000000, now := 5 }, by decide⟩

/-- The one queue of PF0 of port A without a Layout (R51), enabled, its link up. -/
def wQueue (x : Queue) : State := (State.reset.setPort false { linkUp := true }).setQueue ⟨false, 0⟩ 0 { x with enabled := true }
def pfA : FnId := ⟨false, 0⟩
def wDone (st : Nat) (tag : BitVec 64) : Completion := { status := st, tag := tag, windowed := true, slot := 5 }

/-- The same under a Layout, serving. -/
def wServing (x : Queue) : State := { wQueue x with fnt := { State.reset.fnt with op := .serving }, lay := { active := some {} } }
/-- A NOP of PF0: OPCODE 0x0001. -/
def wNop : Bytes := natLe 2 1

theorem test_doorbellsFetchesAndQueueErrors_1b : ∃ (s : State) (f : FnId) (q : Nat) (v : BitVec 32) (x : Queue) (t : Nat), s.queueLive f q = true ∧ s.queue f q = x ∧ x.errorCause = 0 ∧ t = v.toNat % 65536 ∧ t < x.depth ∧ t ≠ x.sqTail ∧ x.sqTail < x.depth :=
  ⟨wQueue { sqTail := 63 }, pfA, 0, 3, { enabled := true, sqTail := 63 }, 3, by decide +kernel⟩
theorem test_doorbellsFetchesAndQueueErrors_1c : ∃ (s : State) (f : FnId) (q : Nat) (v : BitVec 32) (x : Queue) (t : Nat), s.queueLive f q = true ∧ s.queue f q = x ∧ x.errorCause = 0 ∧ t = v.toNat % 65536 ∧ x.depth ≤ t ∧ t ≠ x.sqTail :=
  ⟨wQueue {}, pfA, 0, 64, { enabled := true }, 64, by decide +kernel⟩
theorem test_doorbellsFetchesAndQueueErrors_1d : ∃ (s : State) (f : FnId) (q : Nat) (v : BitVec 32) (x : Queue) (t : Nat), s.queueLive f q = true ∧ s.queue f q = x ∧ x.errorCause = 0 ∧ t = v.toNat % 65536 ∧ t = x.sqTail :=
  ⟨wQueue {}, pfA, 0, 0xFFFF0000, { enabled := true }, 0, by decide +kernel⟩
theorem test_doorbellsFetchesAndQueueErrors_1 : ∃ (s : State) (f : FnId) (q : Nat) (v : BitVec 32) (x : Queue) (t : Nat), s.queueLive f q = true ∧ s.queue f q = x ∧ x.errorCause = 0 ∧ t = v.toNat % 65536 :=
  ⟨wQueue {}, pfA, 0, 3, { enabled := true }, 3, by decide +kernel⟩
theorem test_doorbellsFetchesAndQueueErrors_2b : ∃ (s : State) (f : FnId) (q : Nat) (v : BitVec 32) (x : Queue) (h : Nat), s.queueLive f q = true ∧ s.queue f q = x ∧ h = v.toNat % 65536 ∧ h ≠ x.cqHead ∧ x.cqHead < x.depth ∧ x.cqTail < x.depth ∧ h < x.depth ∧ (h + x.depth - x.cqHead) % x.depth ≤ (x.cqTail + x.depth - x.cqHead) % x.depth :=
  ⟨wQueue { cqTail := 3, errorCause := 1 }, pfA, 0, 3, { enabled := true, cqTail := 3, errorCause := 1 }, 3, by decide +kernel⟩
theorem test_doorbellsFetchesAndQueueErrors_2c : ∃ (s : State) (f : FnId) (q : Nat) (v : BitVec 32) (x : Queue) (h : Nat), s.queueLive f q = true ∧ s.queue f q = x ∧ h = v.toNat % 65536 ∧ h ≠ x.cqHead ∧ x.cqHead < x.depth ∧ x.cqTail < x.depth ∧ (x.depth ≤ h ∨ (x.cqTail + x.depth - x.cqHead) % x.depth < (h + x.depth - x.cqHead) % x.depth) :=
  ⟨wQueue { cqTail := 3 }, pfA, 0, 4, { enabled := true, cqTail := 3 }, 4, by decide +kernel⟩
theorem test_doorbellsFetchesAndQueueErrors_2 : ∃ (s : State) (f : FnId) (q : Nat) (v : BitVec 32) (x : Queue) (h : Nat), s.queueLive f q = true ∧ s.queue f q = x ∧ h = v.toNat % 65536 ∧ h ≠ x.cqHead ∧ x.cqHead < x.depth ∧ x.cqTail < x.depth :=
  ⟨wQueue { cqTail := 3 }, pfA, 0, 3, { enabled := true, cqTail := 3 }, 3, by decide +kernel⟩
theorem test_doorbellsFetchesAndQueueErrors_3b : ∃ (s : State) (f : FnId) (q : Nat) (v : BitVec 32), (s.queueLive f q = false ∨ (s.queue f q).errorCause ≠ 0) ∧ s.queueLive f q = false :=
  ⟨State.reset, pfA, 0, 1, by decide +kernel⟩
theorem test_doorbellsFetchesAndQueueErrors_3 : ∃ (s : State) (f : FnId) (q : Nat) (v : BitVec 32), (s.queueLive f q = false ∨ (s.queue f q).errorCause ≠ 0) :=
  ⟨wQueue { errorCause := 2 }, pfA, 0, 1, by decide +kernel⟩
theorem test_doorbellsFetchesAndQueueErrors_4 : ∃ (s : State) (f : FnId) (q : Nat), s.mayFetch f q = true ∧ (s.queue f q).parkedDesc = none ∧ (s.queue f q).sqHead ≠ (s.queue f q).sqTail :=
  ⟨wQueue { sqHead := 2, sqTail := 3 }, pfA, 0, by decide +kernel⟩
theorem test_doorbellsFetchesAndQueueErrors_5b : ∃ (s : State) (f : FnId) (q slot g : Nat) (r : ReadResult), (s.queue f q).fetching = some slot ∧ (r = .unsupported ∨ r = .poisoned) ∧ dueInstant s = none ∧ g ≠ (s.fn f).generation :=
  ⟨wQueue { fetching := some 2 }, pfA, 0, 2, 0, .poisoned, by decide +kernel⟩
theorem test_doorbellsFetchesAndQueueErrors_5c : ∃ (s : State) (f : FnId) (q slot g : Nat) (r : ReadResult), (s.queue f q).fetching = some slot ∧ (r = .unsupported ∨ r = .poisoned) ∧ dueInstant s = none ∧ g = (s.fn f).generation :=
  ⟨(wQueue { fetching := some 2 }).setFn pfA { generation := 4 }, pfA, 0, 2, 4, .poisoned, by decide +kernel⟩
theorem test_doorbellsFetchesAndQueueErrors_5 : ∃ (s : State) (f : FnId) (q slot g : Nat) (r : ReadResult), (s.queue f q).fetching = some slot ∧ (r = .unsupported ∨ r = .poisoned) ∧ dueInstant s = none :=
  ⟨wQueue { fetching := some 2 }, pfA, 0, 2, 1, .poisoned, by decide +kernel⟩

theorem test_admissionRefusesAnswersOrEnters_1 : ∃ (s : State) (f : FnId) (q slot st : Nat) (d : Bytes) (x : Queue), s.queue f q = x ∧ x.fetching = some slot ∧ x.batchId = 0 ∧ x.order = [] ∧ windowFind x.window (tagOf (padTo 128 d)) = none ∧ formStatus s f q (padTo 128 d) = some st ∧ dueInstant s = none :=
  ⟨wQueue { fetching := some 2, sqHead := 2, starts := [7] }, pfA, 0, 2, 0x0401, List.replicate 128 0, { enabled := true, fetching := some 2, sqHead := 2, starts := [7] }, by decide +kernel⟩
theorem test_admissionRefusesAnswersOrEnters_2b : ∃ (s : State) (f : FnId) (q slot : Nat) (d : Bytes) (x : Queue) (ts : TagState), s.queue f q = x ∧ x.fetching = some slot ∧ x.batchId = 0 ∧ windowFind x.window (tagOf (padTo 128 d)) = some ts ∧ dueInstant s = none ∧ (∃ e r, x.order = .cmd e :: r) :=
  ⟨wQueue { fetching := some 2, order := [.cmd 9], window := [(0, .live 1)] }, pfA, 0, 2, List.replicate 128 0, { enabled := true, fetching := some 2, order := [.cmd 9], window := [(0, .live 1)] }, .live 1, by and_intros <;> first | exact ⟨9, [], rfl⟩ | decide +kernel | rfl⟩
theorem test_admissionRefusesAnswersOrEnters_2c : ∃ (s : State) (f : FnId) (q slot : Nat) (d : Bytes) (x : Queue) (ts : TagState), s.queue f q = x ∧ x.fetching = some slot ∧ x.batchId = 0 ∧ windowFind x.window (tagOf (padTo 128 d)) = some ts ∧ dueInstant s = none ∧ x.order = [] ∧ x.toPost = [] :=
  ⟨wQueue { fetching := some 2, window := [(0, .retained (wDone 0 0) 9)] }, pfA, 0, 2, List.replicate 128 0, { enabled := true, fetching := some 2, window := [(0, .retained (wDone 0 0) 9)] }, .retained (wDone 0 0) 9, by decide +kernel⟩
theorem test_admissionRefusesAnswersOrEnters_2 : ∃ (s : State) (f : FnId) (q slot : Nat) (d : Bytes) (x : Queue) (ts : TagState), s.queue f q = x ∧ x.fetching = some slot ∧ x.batchId = 0 ∧ windowFind x.window (tagOf (padTo 128 d)) = some ts ∧ dueInstant s = none :=
  ⟨wQueue { fetching := some 2, sqHead := 2, window := [(0, .expired)] }, pfA, 0, 2, List.replicate 128 0, { enabled := true, fetching := some 2, sqHead := 2, window := [(0, .expired)] }, .expired, by decide +kernel⟩
theorem test_admissionRefusesAnswersOrEnters_3 : ∃ (s : State) (f : FnId) (q slot e : Nat) (d : Bytes) (x : Queue), s.queue f q = x ∧ x.fetching = some slot ∧ x.batchId = 0 ∧ windowFind x.window (tagOf (padTo 128 d)) = none ∧ formStatus s f q (padTo 128 d) = none ∧ deviceStatus s f (padTo 128 d) = none ∧ holdOf (padTo 128 d) = false ∧ isQueueControl (opcodeOf (padTo 128 d)) = true ∧ s.freeEntry = some e ∧ dueInstant s = none :=
  ⟨wServing { fetching := some 2, sqHead := 2, starts := [7] }, pfA, 0, 2, 0, wNop, { enabled := true, fetching := some 2, sqHead := 2, starts := [7] }, by decide +kernel⟩

theorem test_postingRetentionAndQueueEnables_1b : ∃ (s : State) (f : FnId) (q : Nat) (x : Queue) (c : Completion) (r : List Completion), s.queue f q = x ∧ x.toPost = c :: r ∧ x.hasRoom = true ∧ s.holds f q = false ∧ c.waitsFor = [] ∧ s.fnt.op ≠ .halted ∧ x.coalPending + 1 < max x.coalCount 1 :=
  ⟨wQueue { toPost := [wDone 0 7], coalCount := 2 }, pfA, 0, { enabled := true, toPost := [wDone 0 7], coalCount := 2 }, wDone 0 7, [], by decide +kernel⟩
theorem test_postingRetentionAndQueueEnables_1c : ∃ (s : State) (f : FnId) (q : Nat) (x : Queue) (c : Completion) (r : List Completion), s.queue f q = x ∧ x.toPost = c :: r ∧ x.hasRoom = true ∧ s.holds f q = false ∧ c.waitsFor = [] ∧ s.fnt.op ≠ .halted ∧ max x.coalCount 1 ≤ x.coalPending + 1 ∧ (s.port f.port).linkUp = true ∧ (s.fn f).resetting = false ∧ (s.fn f).fnMask = false ∧ (s.fn f).vecMask.getLsbD x.vector = false :=
  ⟨(wQueue { toPost := [wDone 0 7] }).setFn pfA { vecMask := 0 }, pfA, 0, { enabled := true, toPost := [wDone 0 7] }, wDone 0 7, [], by decide +kernel⟩
theorem test_postingRetentionAndQueueEnables_1 : ∃ (s : State) (f : FnId) (q : Nat) (x : Queue) (c : Completion) (r : List Completion), s.queue f q = x ∧ x.toPost = c :: r ∧ x.hasRoom = true ∧ s.holds f q = false ∧ c.waitsFor = [] ∧ s.fnt.op ≠ .halted :=
  ⟨wQueue { toPost := [wDone 0 7], cqTail := 63, cqHead := 60 }, pfA, 0, { enabled := true, toPost := [wDone 0 7], cqTail := 63, cqHead := 60 }, wDone 0 7, [], by decide +kernel⟩
theorem test_postingRetentionAndQueueEnables_2 : ∃ (s : State) (f : FnId) (q : Nat), ((s.queue f q).toPost = [] ∨ (s.queue f q).hasRoom = false ∨ s.holds f q = true ∨ s.fnt.op = .halted) :=
  ⟨wQueue { toPost := [wDone 0 7], cqTail := 63, cqHead := 0 }, pfA, 0, by decide +kernel⟩
theorem test_postingRetentionAndQueueEnables_3b : ∃ (s : State) (f : FnId) (q : Nat) (x : Queue), s.queue f q = x ∧ (s.port f.port).linkUp = true ∧ (s.fn f).d3hot = false ∧ (s.fn f).resetting = false ∧ x.coalTime ≠ 0 ∧ 0 < x.coalPending ∧ x.coalSince + x.coalTime * 1000 ≤ s.tbs.now :=
  ⟨{ wQueue { coalTime := 3, coalPending := 1 } with tbs := { now := 3000 } }, pfA, 0, { enabled := true, coalTime := 3, coalPending := 1 }, by decide +kernel⟩
theorem test_postingRetentionAndQueueEnables_3c : ∃ (s : State) (f : FnId) (q : Nat) (x : Queue), s.queue f q = x ∧ (s.port f.port).linkUp = true ∧ (s.fn f).d3hot = false ∧ (s.fn f).resetting = false ∧ (x.coalTime = 0 ∨ x.coalPending = 0 ∨ s.tbs.now < x.coalSince + x.coalTime * 1000) :=
  ⟨{ wQueue { coalTime := 3, coalPending := 1 } with tbs := { now := 2999 } }, pfA, 0, { enabled := true, coalTime := 3, coalPending := 1 }, by decide +kernel⟩
theorem test_postingRetentionAndQueueEnables_3 : ∃ (s : State) (f : FnId) (q : Nat) (x : Queue), s.queue f q = x ∧ (s.port f.port).linkUp = true ∧ (s.fn f).d3hot = false ∧ (s.fn f).resetting = false :=
  ⟨wQueue { coalTime := 3, coalPending := 1 }, pfA, 0, { enabled := true, coalTime := 3, coalPending := 1 }, by decide +kernel⟩
theorem test_postingRetentionAndQueueEnables_4 : ∃ (s : State) (f : FnId) (v : Nat) (e : BitVec 64 × BitVec 32), s.fnExists f = true ∧ v < 64 ∧ (s.fn f).vecPending = BitVec.ofNat 64 (2 ^ v) ∧ (s.fn f).fnMask = false ∧ (s.fn f).d3hot = false ∧ (s.fn f).resetting = false ∧ (s.port f.port).linkUp = true ∧ tabGet (s.fn f).table v (0, 0) = e :=
  ⟨(wQueue {}).setFn pfA { vecPending := 8, table := [(3, (0xFEE00000, 5))] }, pfA, 3, (0xFEE00000, 5), by decide +kernel⟩
theorem test_postingRetentionAndQueueEnables_5 : ∃ (s : State) (f : FnId) (q : Nat) (tag : BitVec 64) (c : Completion) (till : Nat), windowFind (s.queue f q).window tag = some (.retained c till) ∧ till ≤ s.tbs.now ∧ (s.queue f q).detachedAt = none :=
  ⟨wQueue { window := [(4, .retained (wDone 0 4) 0)] }, pfA, 0, 4, wDone 0 4, 0, by decide +kernel⟩
theorem test_postingRetentionAndQueueEnables_6b : ∃ (s : State) (f : FnId) (q : Nat) (v : BitVec 32) (x : Queue) (c : QueueCfg), s.queueExists f q = true ∧ s.queue f q = x ∧ x.enabled = false ∧ s.qcfg f q = some c ∧ x.idle = true ∧ x.detachedAt = none :=
  ⟨(wQueue {}).setQueue pfA 0 { sqTail := 4 }, pfA, 0, 0, { sqTail := 4 }, { part := 0, port := false, index := 0, cls := 1, log2Depth := 6, share := 1, cmdQuota := 0, kibQuota := 0 }, by decide +kernel⟩
theorem test_postingRetentionAndQueueEnables_6c : ∃ (s : State) (f : FnId) (q : Nat) (v : BitVec 32) (x : Queue) (c : QueueCfg), s.queueExists f q = true ∧ s.queue f q = x ∧ x.enabled = false ∧ s.qcfg f q = some c ∧ x.idle = false :=
  ⟨(wQueue {}).setQueue pfA 0 { order := [.cmd 3] }, pfA, 0, 0, { order := [.cmd 3] }, { part := 0, port := false, index := 0, cls := 1, log2Depth := 6, share := 1, cmdQuota := 0, kibQuota := 0 }, by decide +kernel⟩
theorem test_postingRetentionAndQueueEnables_6 : ∃ (s : State) (f : FnId) (q : Nat) (v : BitVec 32) (x : Queue) (c : QueueCfg), s.queueExists f q = true ∧ s.queue f q = x ∧ x.enabled = false ∧ s.qcfg f q = some c :=
  ⟨(wQueue {}).setQueue pfA 0 { sqTail := 4 }, pfA, 0, 0, { sqTail := 4 }, { part := 0, port := false, index := 0, cls := 1, log2Depth := 6, share := 1, cmdQuota := 0, kibQuota := 0 }, by decide +kernel⟩
theorem test_postingRetentionAndQueueEnables_7 : ∃ (s : State) (f : FnId) (q : Nat) (v : BitVec 32) (x : Queue), s.queueExists f q = true ∧ s.queue f q = x ∧ x.enabled = true ∧ x.batchId = 0 ∧ x.parkedDesc = none ∧ x.coalPending = 0 :=
  ⟨wQueue { sqTail := 4, order := [.cmd 3] }, pfA, 0, 1, { enabled := true, sqTail := 4, order := [.cmd 3] }, by decide +kernel⟩

/-- A DIGEST of VF1 that runs on basin 0, its data in. -/
def wDigest : Cmd := { wCmd with desc := wParams 0x0220 [0x10], basin := some 0, phase := .backlog, ej := 5, segs := 2, segsAll := 2 }
def wOn (c : Cmd) : State := State.reset.setCmd 3 c
/-- Basin 0 serves, its DRBG seeded, under a Layout without partitions; the clock stands at 20 ms. -/
def wUp (c : Cmd) : State :=
  ((({ wOn c with lay := { active := some {} }, tbs := { now := 20000000 } }).setBasin 0 { st := .serving }).setDrbg 0 { inst := true })

/-- A DIGEST whose input is a list. -/
def wSgl : Cmd := { wDigest with phase := .running, desc := padTo 128 (natLe 2 0x0220 ++ natLe 2 1 ++ List.replicate 60 0 ++ [0x10]) }

theorem test_parkingWakingAndSuspendBits_1 : ∃ (s : State) (f : FnId) (v : BitVec 32), f.vf = 0 ∧ s.fnExists f = true :=
  ⟨State.reset.setBasin 2 { st := .parked }, ⟨true, 0⟩, 5, by decide⟩
theorem test_parkingWakingAndSuspendBits_2 : ∃ (s : State) (f : FnId) (v : BitVec 32), f.vf ≠ 0 :=
  ⟨State.reset, ⟨true, 3⟩, 5, by decide⟩
theorem test_parkingWakingAndSuspendBits_3 : ∃ (s : State) (b : Nat), s.slu.parkEn = true ∧ (s.basin b).st = .serving ∧ s.onBasin b = [] ∧ (s.basin b).idleSince + 1000 * s.slu.parkIdle ≤ s.tbs.now ∧ parkable s b = true :=
  ⟨{ wUp wCmd with slu := { parkEn := true } }, 0, by decide +kernel⟩
theorem test_parkingWakingAndSuspendBits_4 : ∃ (s : State) (b : Nat), (s.slu.parkEn = false ∨ (s.basin b).st ≠ .serving ∨ s.onBasin b ≠ [] ∨ s.tbs.now < (s.basin b).idleSince + 1000 * s.slu.parkIdle) :=
  ⟨State.reset, 0, by decide⟩
theorem test_parkingWakingAndSuspendBits_5b : ∃ (s : State) (b : Nat), (s.basin b).st = .parked ∧ (s.basin b).waking = true ∧ (s.drbg b).inst = true :=
  ⟨(State.reset.setBasin 2 { st := .parked, waking := true }).setDrbg 2 { inst := true }, 2, by decide⟩
theorem test_parkingWakingAndSuspendBits_5c : ∃ (s : State) (b : Nat), (s.basin b).st = .parked ∧ (s.basin b).waking = true ∧ (s.drbg b).inst = false :=
  ⟨State.reset.setBasin 2 { st := .parked, waking := true }, 2, by decide⟩
theorem test_parkingWakingAndSuspendBits_5 : ∃ (s : State) (b : Nat), (s.basin b).st = .parked ∧ (s.basin b).waking = true :=
  ⟨State.reset.setBasin 2 { st := .parked, waking := true }, 2, by decide⟩

theorem test_dispatchChoosesByPriorityAndSegments_1 : ∃ (s : State) (b : Nat) (k : Bool) (e : Nat) (c : Cmd), s.candidate b k = some (e, c) :=
  ⟨wUp wDigest, 0, false, 3, wDigest, by decide +kernel⟩
theorem test_dispatchChoosesByPriorityAndSegments_2 : ∃ (s : State) (b e : Nat) (c : Cmd), (s.basin b).st = .serving ∧ (s.basin b).waking = false ∧ (s.drbg b).inst = true ∧ s.candidate b false = some (e, c) ∧ lanesFit (s.basin b) c = true ∧ (usesHash (opcodeOf c.desc) = true ∨ masksReady s b c.nj = true) ∧ (c.verdict ≠ .allow ∨ s.counterSpent (key1Of c.desc) = false) ∧ s.windowsUsed + windowOf c.desc ≤ 10485760 :=
  ⟨wUp wDigest, 0, 3, wDigest, by decide +kernel⟩
theorem test_dispatchChoosesByPriorityAndSegments_3 : ∃ (s : State) (b e : Nat) (c : Cmd), (s.basin b).st = .serving ∧ (s.basin b).waking = false ∧ (s.drbg b).inst = true ∧ s.candidate b true = some (e, c) ∧ (∀ p ∈ s.onBasin b, p.2.onCascade = false) ∧ (s.basin b).cas.wiping = false ∧ (s.basin b).cas.slots = [] ∧ (c.verdict ≠ .allow ∨ s.counterSpent (key1Of c.desc) = false) ∧ s.windowsUsed + windowOf c.desc ≤ 10485760 :=
  ⟨wUp { wDigest with ek := 7 }, 0, 3, { wDigest with ek := 7 }, by decide +kernel⟩
theorem test_dispatchChoosesByPriorityAndSegments_4 : ∃ (s : State) (b : Nat) (k : Bool), ((s.basin b).st ≠ .serving ∨ (s.basin b).waking = true ∨ (s.drbg b).inst = false ∨ s.candidate b k = none) :=
  ⟨State.reset, 0, true, by decide⟩
theorem test_dispatchChoosesByPriorityAndSegments_5 : ∃ (s : State) (b e : Nat) (c : Cmd), segmentAt s b = some (e, c) ∧ (s.slu.retire.map (·.1)).Nodup ∧ (∀ p ∈ s.slu.retire, p.2.verdict ≠ .allow ∨ s.counterSpent (key1Of p.2.desc) = false) :=
  ⟨wUp { wDigest with phase := .running, onJets := true, segs := 1 }, 0, 3, { wDigest with phase := .running, onJets := true, segs := 1 }, by decide +kernel⟩

theorem test_hostDataArrivesOrEndsTheCommand_1 : ∃ (s : State) (e inst g : Nat) (bs : Bytes) (c : Cmd), s.cmd e = some c ∧ c.inst.toNat = inst % 256 ∧ g = (s.fn c.fn).generation ∧ c.phase = .running ∧ c.status = none ∧ c.readsStopped = false ∧ (s.queue c.fn c.q).detachedAt = none ∧ c.listsDone = true ∧ c.inputDone = false :=
  ⟨wOn { wDigest with phase := .running, listsDone := true }, 3, 256, 1, [1], { wDigest with phase := .running, listsDone := true }, by decide +kernel⟩
theorem test_hostDataArrivesOrEndsTheCommand_2b : ∃ (s : State) (e inst g : Nat) (k : ReadKind) (r : ReadResult) (c : Cmd), s.cmd e = some c ∧ c.inst.toNat = inst % 256 ∧ g = (s.fn c.fn).generation ∧ c.phase = .running ∧ c.status = none ∧ c.readsStopped = false ∧ (s.queue c.fn c.q).detachedAt = none ∧ (r = .unsupported ∨ r = .poisoned) ∧ c.verdict ≠ .open :=
  ⟨wOn { wDigest with phase := .running, verdict := .allow }, 3, 0, 1, .payload, .unsupported, { wDigest with phase := .running, verdict := .allow }, by decide +kernel⟩
theorem test_hostDataArrivesOrEndsTheCommand_2c : ∃ (s : State) (e inst g : Nat) (k : ReadKind) (r : ReadResult) (c : Cmd), s.cmd e = some c ∧ c.inst.toNat = inst % 256 ∧ g = (s.fn c.fn).generation ∧ c.phase = .running ∧ c.status = none ∧ c.readsStopped = false ∧ (s.queue c.fn c.q).detachedAt = none ∧ (r = .unsupported ∨ r = .poisoned) ∧ c.verdict = .open :=
  ⟨wOn { wDigest with phase := .running }, 3, 0, 1, .payload, .unsupported, { wDigest with phase := .running }, by decide +kernel⟩
theorem test_hostDataArrivesOrEndsTheCommand_2 : ∃ (s : State) (e inst g : Nat) (k : ReadKind) (r : ReadResult) (c : Cmd), s.cmd e = some c ∧ c.inst.toNat = inst % 256 ∧ g = (s.fn c.fn).generation ∧ c.phase = .running ∧ c.status = none ∧ c.readsStopped = false ∧ (s.queue c.fn c.q).detachedAt = none ∧ (r = .unsupported ∨ r = .poisoned) :=
  ⟨wOn { wDigest with phase := .running }, 3, 0, 1, .inList, .poisoned, { wDigest with phase := .running }, by decide +kernel⟩
theorem test_hostDataArrivesOrEndsTheCommand_3 : ∃ (s : State) (e inst g : Nat) (k : ReadKind) (r : ReadResult), (∀ c, s.cmd e = some c → c.inst.toNat ≠ inst % 256 ∨ c.readsStopped = true ∨ g ≠ (s.fn c.fn).generation ∨ (s.queue c.fn c.q).detachedAt ≠ none) :=
  ⟨State.reset, 3, 1, 1, .payload, .poisoned, by intro c h; rw [show State.reset.cmd 3 = none from by decide +kernel] at h; cases h⟩
theorem test_hostDataArrivesOrEndsTheCommand_4 : ∃ (s : State) (e inst g : Nat) (bs : Bytes) (c : Cmd), s.cmd e = some c ∧ c.inst.toNat = inst % 256 ∧ g = (s.fn c.fn).generation ∧ c.phase = .running ∧ c.status = none ∧ c.readsStopped = false ∧ (s.queue c.fn c.q).detachedAt = none ∧ c.listsDone = false ∧ inSgl c.desc = true ∧ outSgl c.desc = false ∧ bs ≠ [] ∧ sglOk (inAddrOf c.desc) (inLenOf c.desc) bs = false :=
  ⟨wOn wSgl, 3, 0, 1, [1], wSgl, by decide +kernel⟩
theorem test_hostDataArrivesOrEndsTheCommand_5b : ∃ (s : State) (e : Nat) (c : Cmd), s.cmd e = some c ∧ c.phase = .running ∧ c.status = none ∧ c.inputDone = false ∧ (s.queue c.fn c.q).detachedAt = none :=
  ⟨wOn { wDigest with phase := .running }, 3, { wDigest with phase := .running }, by decide +kernel⟩
theorem test_hostDataArrivesOrEndsTheCommand_5c : ∃ (s : State) (e : Nat) (c : Cmd), s.cmd e = some c ∧ c.phase = .running ∧ c.status = none ∧ c.inputDone = false ∧ (s.queue c.fn c.q).detachedAt ≠ none :=
  ⟨(wOn { wDigest with phase := .running }).setQueue ⟨false, 1⟩ 0 { detachedAt := some 0 }, 3, { wDigest with phase := .running }, by decide +kernel⟩
theorem test_hostDataArrivesOrEndsTheCommand_5 : ∃ (s : State) (e : Nat) (c : Cmd), s.cmd e = some c ∧ c.phase = .running ∧ c.status = none ∧ c.inputDone = false :=
  ⟨wOn { wDigest with phase := .running }, 3, { wDigest with phase := .running }, by decide +kernel⟩
theorem test_hostDataArrivesOrEndsTheCommand_6 : ∃ (s : State) (f : FnId) (q slot : Nat), (s.queue f q).fetching = some slot :=
  ⟨State.reset.setQueue ⟨false, 1⟩ 0 { fetching := some 4 }, ⟨false, 1⟩, 0, 4, by decide⟩

/-- A one-slot AES-128 session key of VF1 of port A at slot 0 of key unit 0, and the state that holds it. -/
def wHandle : BitVec 64 := 1#64 <<< 63
def wRecord : Record := { alg := 1, cls := 1, state := 1, session := true, handle := wHandle, fn := ⟨false, 1⟩, comps := [(0, List.replicate 16 7)] }
def wSeal : Cmd := { wCmd with desc := padTo 128 (natLe 2 0x0201 ++ List.replicate 14 0 ++ natLe 8 wHandle.toNat), basin := some 0, phase := .running }
def wKeyed (c : Cmd) (f : FillEntry) (up : Bool) : State :=
  let s := (wOn c).setBasin 0 { st := .serving, fill := [f] }
  { s with cis := { s.cis with records := [(0, wRecord)] }, vlt := { s.vlt with dies := [(0, { present := up }), (1, { present := up })] }
           lay := { active := some { keyUnits := 1 } } }

/-- An AEAD.OPEN of 300,000 payload bytes that waits for a work buffer. -/
def wOpen : Cmd := { wSeal with waitsWork := true, desc := padTo 128 (natLe 2 0x0202 ++ List.replicate 38 0 ++ natLe 4 300000 ++ natLe 4 300000) }

def wNopCmd : Cmd := { wCmd with fn := pfA, desc := padTo 128 (natLe 2 1), phase := .running }
def wOut : Cmd := { wDigest with phase := .done, verdict := .allow, status := some 0, output := List.replicate 256 5
                                 desc := padTo 128 (natLe 2 0x0220 ++ List.replicate 42 0 ++ natLe 4 256) }
def wReserving : State :=
  let s := wKeyed { wSeal with wantsBlock := true } { handle := 5, marks := [4] } true
  { s with cis := { s.cis with reserving := [(wHandle.toNat, (0, 3))] } }
/-- The counter journal full of other keys. -/
def wFullJournal : State := { wReserving with cis := { wReserving.cis with journal := List.replicate 262144 (0, 0, []) } }
theorem tabFind_replicate (n k : Nat) (h : k ≠ 0) : tabFind (List.replicate n ((0, 0, []) : Nat × Nat × Bytes)) k = none := by
  induction n with
  | zero => rfl
  | succ n ih => rw [List.replicate_succ, tabFind, if_neg (Ne.symm h), ih]
theorem wFullJournal_length : 262144 ≤ wFullJournal.cis.journal.length :=
  Nat.le_of_eq (by rw [show wFullJournal.cis.journal = List.replicate 262144 (0, 0, []) from rfl, List.length_replicate])
theorem wFullJournal_absent : tabFind wFullJournal.cis.journal wHandle.toNat = none := tabFind_replicate _ _ (by decide)

/-- A KEY.GENERATE whose new record fills one persistent slot, the dirty list full of slot 7. -/
def wStalledCmd : Cmd := { wCmd with verdict := .allow, phase := .done, status := some 0, effect := .create 9, newRec := some {} }
def wStalled : State :=
  { (wOn wStalledCmd).setQueue ⟨false, 1⟩ 0 { order := [.cmd 3] } with vlt := { State.reset.vlt with dirty := List.replicate 4096 (7, 0, 0) } }
theorem wStalled_stalls : stalls wStalled wStalledCmd = true := by decide +kernel

theorem test_keyFillsAndTheirGrants_1 : ∃ (s : State) (e b inst : Nat) (g : ReplyGen) (h : BitVec 64) (p : LineEnd) (c : Cmd) (r : Record) (k : FillEntry), s.cmd e = some c ∧ c.basin = some b ∧ c.inst.toNat = inst % 256 ∧ s.fresh (unitNum .cistern) b g = true ∧ k ∈ (s.basin b).fill ∧ k.handle = h ∧ k.record = none ∧ e ∈ k.marks ∧ s.record h = some r ∧ (s.die (diePair (keySlot s h / 524288)).1).present = true ∧ (s.die (diePair (keySlot s h / 524288)).1).retraining = false :=
  ⟨wKeyed wSeal { handle := wHandle, marks := [3] } true, 3, 0, 0, ⟨1, 1⟩, wHandle, .macFail, wSeal, wRecord, { handle := wHandle, marks := [3] }, by decide +kernel⟩
theorem test_keyFillsAndTheirGrants_2 : ∃ (s : State) (e b inst : Nat) (g : ReplyGen) (d1 d2 : Nat) (h : BitVec 64) (c : Cmd) (r : Record) (k : FillEntry), s.cmd e = some c ∧ c.basin = some b ∧ c.inst.toNat = inst % 256 ∧ s.fresh (unitNum .cistern) b g = true ∧ k ∈ (s.basin b).fill ∧ k.handle = h ∧ k.record = none ∧ e ∈ k.marks ∧ s.record h = some r ∧ diePair (keySlot s h / 524288) = (d1, d2) ∧ (s.die d1).present = true ∧ (s.die d1).retraining = false ∧ (s.die d1).macTimes = [] ∧ (s.die d2).present = true ∧ (s.die d2).retraining = false :=
  ⟨wKeyed wSeal { handle := wHandle, marks := [3] } true, 3, 0, 256, ⟨1, 1⟩, 0, 1, wHandle, wSeal, wRecord, { handle := wHandle, marks := [3] }, by decide +kernel⟩
theorem test_keyFillsAndTheirGrants_3 : ∃ (s : State) (e b inst : Nat) (g : ReplyGen) (h : BitVec 64) (c : Cmd) (r : Record) (k : FillEntry), s.cmd e = some c ∧ c.basin = some b ∧ c.inst.toNat = inst % 256 ∧ s.fresh (unitNum .cistern) b g = true ∧ (s.basin b).st = .serving ∧ k ∈ (s.basin b).fill ∧ k.handle = h ∧ k.record = none ∧ e ∈ k.marks ∧ s.record h = some r ∧ (s.die (diePair (keySlot s h / 524288)).1).present = true ∧ (s.die (diePair (keySlot s h / 524288)).1).retraining = false :=
  ⟨wKeyed wSeal { handle := wHandle, marks := [3] } true, 3, 0, 0, ⟨1, 1⟩, wHandle, wSeal, wRecord, { handle := wHandle, marks := [3] }, by decide +kernel⟩
theorem test_keyFillsAndTheirGrants_4 : ∃ (s : State) (e b inst : Nat) (g : ReplyGen) (h : BitVec 64) (l p : LineEnd) (c : Cmd), s.cmd e = some c ∧ c.basin = some b ∧ (c.inst.toNat ≠ inst % 256 ∨ s.fresh (unitNum .cistern) b g = false ∨ ∀ k ∈ (s.basin b).fill, k.handle = h → k.record.isSome = true ∨ e ∉ k.marks) :=
  ⟨wOn wSeal, 3, 0, 1, ⟨1, 1⟩, wHandle, .ok, .ok, wSeal, by exact ⟨by decide +kernel, by decide +kernel, Or.inl (by decide +kernel)⟩⟩
theorem test_keyFillsAndTheirGrants_5 : ∃ (s : State) (e b : Nat) (h : BitVec 64) (c : Cmd), s.cmd e = some c ∧ c.basin = some b ∧ c.waitsFill = true ∧ liveKeys s c = [h] ∧ ((s.basin b).fill.map (fun k => s.recordSlots k.handle)).sum + s.recordSlots h ≤ 64 ∧ (∀ k ∈ (s.basin b).fill, k.handle ≠ h) ∧ (∀ k ∈ (s.basin b).cache, k.handle ≠ h) ∧ (c.verdict ≠ .allow ∨ s.counterSpent (key1Of c.desc) = false) :=
  ⟨wKeyed { wSeal with waitsFill := true } { handle := 5, marks := [4] } true, 3, 0, wHandle, { wSeal with waitsFill := true }, by decide +kernel⟩
theorem test_keyFillsAndTheirGrants_6b : ∃ (s : State) (e n : Nat) (c : Cmd), s.cmd e = some c ∧ c.waitsWork = true ∧ c.work = none ∧ workNeed c.desc = n ∧ 0 < n ∧ (∀ d, d < 4 → s.workFree d < n) :=
  ⟨wOn wOpen, 3, 327680, wOpen, by decide +kernel⟩
theorem test_keyFillsAndTheirGrants_6c : ∃ (s : State) (e n : Nat) (c : Cmd), s.cmd e = some c ∧ c.waitsWork = true ∧ c.work = none ∧ workNeed c.desc = n ∧ 0 < n ∧ c.fn.vf = 0 ∧ (∃ d, d < 4 ∧ n ≤ s.workFree d) :=
  ⟨{ wOn { wOpen with fn := pfA } with vlt := { State.reset.vlt with dies := [(2, { present := true })] } }, 3, 327680, { wOpen with fn := pfA }, by and_intros <;> first | exact ⟨2, by decide +kernel, by decide +kernel⟩ | decide +kernel | rfl⟩
theorem test_keyFillsAndTheirGrants_6 : ∃ (s : State) (e n : Nat) (c : Cmd), s.cmd e = some c ∧ c.waitsWork = true ∧ c.work = none ∧ workNeed c.desc = n ∧ 0 < n :=
  ⟨wOn wOpen, 3, 327680, wOpen, by decide +kernel⟩

theorem test_verdictsStripesAndNonceBlocks_1b : ∃ (s : State) (e : Nat) (c : Cmd), s.cmd e = some c ∧ (s.slu.retire.map (·.1)).Nodup ∧ verdictReady s c = true ∧ dueInstant s = none ∧ (c.readsStopped = false ∧ (c.wantsBlock = false ∨ s.counterSpent (key1Of c.desc) = false) ∧ denial s c.fn (classFor s c) c.desc c.input = none) :=
  ⟨wOn wNopCmd, 3, wNopCmd, by decide +kernel⟩
theorem test_verdictsStripesAndNonceBlocks_1c : ∃ (s : State) (e : Nat) (c : Cmd), s.cmd e = some c ∧ (s.slu.retire.map (·.1)).Nodup ∧ verdictReady s c = true ∧ dueInstant s = none ∧ (∃ st, denial s c.fn (classFor s c) c.desc c.input = some st) :=
  ⟨wOn wDigest, 3, wDigest, by and_intros <;> first | exact ⟨0x0301, by decide +kernel⟩ | decide +kernel | rfl⟩
theorem test_verdictsStripesAndNonceBlocks_1 : ∃ (s : State) (e : Nat) (c : Cmd), s.cmd e = some c ∧ (s.slu.retire.map (·.1)).Nodup ∧ verdictReady s c = true ∧ dueInstant s = none :=
  ⟨wOn wNopCmd, 3, wNopCmd, by decide +kernel⟩
theorem test_verdictsStripesAndNonceBlocks_2 : ∃ (s : State) (e : Nat) (c : Cmd), s.cmd e = some c ∧ dueInstant s = none ∧ (c.verdict ≠ .open ∨ keyBlocked s c = true ∨ (keysHeld s c = false ∧ c.readsStopped = false)) :=
  ⟨wOn { wDigest with verdict := .deny 1 }, 3, { wDigest with verdict := .deny 1 }, by decide +kernel⟩
theorem test_verdictsStripesAndNonceBlocks_3b : ∃ (s : State) (e g i : Nat) (c : Cmd), s.cmd e = some c ∧ s.fromBasin c g = true ∧ outStripe c.desc = 4096 ∧ c.phase = .done ∧ c.status = some 0 ∧ 256 ≤ c.output.length ∧ c.output.length ≤ outLenOf c.desc ∧ outSgl c.desc = false ∧ 4096 * i < c.output.length ∧ i ∉ c.written ∧ s.holds c.fn c.q = false ∧ c.verdict = .allow ∧ c.recheck = false :=
  ⟨wOn wOut, 3, 1, 0, wOut, by decide +kernel⟩
theorem test_verdictsStripesAndNonceBlocks_3c : ∃ (s : State) (e g i : Nat) (c : Cmd), s.cmd e = some c ∧ s.fromBasin c g = true ∧ outStripe c.desc = 4096 ∧ c.phase = .done ∧ c.status = some 0 ∧ 256 ≤ c.output.length ∧ c.output.length ≤ outLenOf c.desc ∧ outSgl c.desc = false ∧ 4096 * i < c.output.length ∧ i ∉ c.written ∧ s.holds c.fn c.q = false ∧ (c.verdict ≠ .allow ∨ c.recheck = true) :=
  ⟨wOn { wOut with recheck := true }, 3, 1, 0, { wOut with recheck := true }, by decide +kernel⟩
theorem test_verdictsStripesAndNonceBlocks_3 : ∃ (s : State) (e g i : Nat) (c : Cmd), s.cmd e = some c ∧ s.fromBasin c g = true ∧ outStripe c.desc = 4096 ∧ c.phase = .done ∧ c.status = some 0 ∧ 256 ≤ c.output.length ∧ c.output.length ≤ outLenOf c.desc ∧ outSgl c.desc = false ∧ 4096 * i < c.output.length ∧ i ∉ c.written ∧ s.holds c.fn c.q = false :=
  ⟨wOn wOut, 3, 1, 0, wOut, by decide +kernel⟩
theorem test_verdictsStripesAndNonceBlocks_5b : ∃ (s : State) (e block : Nat) (h : BitVec 64) (c : Cmd) (r : Record), tabFind s.cis.reserving h.toNat = some (block, e) ∧ s.slu.retire = [(e, c)] ∧ c.wantsBlock = true ∧ key1Of c.desc = h ∧ s.record h = some r ∧ s.counter h / 65536 ≤ block ∧ s.counter h + 1 < 2 ^ 64 ∧ s.cis.journal.length < 262144 :=
  ⟨wReserving, 3, 0, wHandle, { wSeal with wantsBlock := true }, wRecord, by decide +kernel⟩
theorem test_verdictsStripesAndNonceBlocks_5c : ∃ (s : State) (e block : Nat) (h : BitVec 64) (c : Cmd) (r : Record), tabFind s.cis.reserving h.toNat = some (block, e) ∧ s.slu.retire = [(e, c)] ∧ c.wantsBlock = true ∧ key1Of c.desc = h ∧ s.record h = some r ∧ s.counter h / 65536 ≤ block ∧ s.counter h + 1 < 2 ^ 64 ∧ 262144 ≤ s.cis.journal.length ∧ tabFind s.cis.journal h.toNat = none :=
  ⟨wFullJournal, 3, 0, wHandle, { wSeal with wantsBlock := true }, wRecord, by exact ⟨by decide +kernel, by decide +kernel, by decide +kernel, by decide +kernel, by decide +kernel, by decide +kernel, by decide +kernel, wFullJournal_length, wFullJournal_absent⟩⟩
theorem test_verdictsStripesAndNonceBlocks_5 : ∃ (s : State) (e block : Nat) (h : BitVec 64) (c : Cmd) (r : Record), tabFind s.cis.reserving h.toNat = some (block, e) ∧ s.slu.retire = [(e, c)] ∧ c.wantsBlock = true ∧ key1Of c.desc = h ∧ s.record h = some r ∧ s.counter h / 65536 ≤ block ∧ s.counter h + 1 < 2 ^ 64 :=
  ⟨wReserving, 3, 0, wHandle, { wSeal with wantsBlock := true }, wRecord, by decide +kernel⟩

theorem test_retirementPutsTheCompletion_1 : ∃ (s : State) (e st : Nat) (c : Cmd) (r : List QItem), s.cmd e = some c ∧ (s.queue c.fn c.q).order = .cmd e :: r ∧ c.verdict = .deny st ∧ c.phase = .squashed ∧ stalls s c = false ∧ c.moved = false ∧ (∀ p ∈ s.queues, p.2.parkedDesc = none ∧ p.2.releaseAt = none) :=
  ⟨(wOn { wDigest with verdict := .deny 0x0301, phase := .squashed }).setQueue ⟨false, 1⟩ 0 { order := [.cmd 3] }, 3, 0x0301, { wDigest with verdict := .deny 0x0301, phase := .squashed }, [], by decide +kernel⟩
theorem test_retirementPutsTheCompletion_2 : ∃ (s : State) (e v : Nat) (c : Cmd) (r : List QItem), s.cmd e = some c ∧ (s.queue c.fn c.q).order = .cmd e :: r ∧ c.verdict = .allow ∧ c.phase = .done ∧ c.status = some v ∧ v < 256 ∧ c.effect = .none ∧ c.block = none ∧ lastNonce c = false ∧ c.moved = false ∧ c.output ≠ [] ∧ c.output.length ≤ outLenOf c.desc ∧ outSgl c.desc = false ∧ c.written = [] ∧ s.holds c.fn c.q = false ∧ (∀ p ∈ s.queues, p.2.parkedDesc = none ∧ p.2.releaseAt = none) :=
  ⟨(wOn wOut).setQueue ⟨false, 1⟩ 0 { order := [.cmd 3] }, 3, 0, wOut, [], by decide +kernel⟩
theorem test_retirementPutsTheCompletion_3b : ∃ (s : State) (e : Nat) (c : Cmd), s.cmd e = some c ∧ ((∀ r, (s.queue c.fn c.q).order ≠ .cmd e :: r) ∨ c.verdict = .open ∨ (c.verdict = .allow ∧ c.status = none)) :=
  ⟨wOn wDigest, 3, wDigest, by exact ⟨by decide +kernel, Or.inr (Or.inl rfl)⟩⟩
theorem test_retirementPutsTheCompletion_3c : ∃ (s : State) (e : Nat) (c : Cmd), s.cmd e = some c ∧ mayRetire s e c = true ∧ outputWaits s c = false ∧ stalls s c = true :=
  ⟨wStalled, 3, wStalledCmd, by exact ⟨by decide +kernel, by decide +kernel, by decide +kernel, wStalled_stalls⟩⟩
theorem test_retirementPutsTheCompletion_3 : ∃ (s : State) (e : Nat) (c : Cmd), s.cmd e = some c :=
  ⟨wOn wDigest, 3, wDigest, by decide +kernel⟩

/-- Entry 3 holds a queue-control command of VF1 of port A that runs with ALLOW. -/
def wCtl (op : Nat) (ps : Bytes) : Cmd :=
  { wCmd with phase := .running, verdict := .allow, listsDone := true, inputDone := true, desc := wParams op ps }
def wSched (k t arg : Nat) : State := wMgmt (wPf0 0x0520 (natLe 8 t ++ natLe 8 arg ++ [BitVec.ofNat 8 k]))

def wFullTable (s : State) : State := { s with tbs := { s.tbs with launch := launchNums.map (fun n => (n, { state := .armed, instant := 64 })) } }
def wKeyLaunch (k : LaunchKind) : State :=
  { (wOn { wDigest with phase := .running }).setLaunch 9 { state := .armed, instant := 64, kind := some k, arg := wHandle.toNat } with
    tbs := { now := 64, launch := [(9, { state := .armed, instant := 64, kind := some k, arg := wHandle.toNat })] }
    fnt := { State.reset.fnt with op := .serving }
    cis := { State.reset.cis with records := [(0, { wRecord with state := 0 })] }
    lay := { active := some { keyUnits := 1 } } }

theorem test_launchEntriesAreArmedAndCancelled_1 : ∃ (s : State) (e : Nat) (c : Cmd), s.ready e (· == 0x0001) = some c ∧ c.basin = none ∧ e ∉ s.slu.mgmt :=
  ⟨wOn (wCtl 1 []), 3, wCtl 1 [], by decide +kernel⟩
theorem test_launchEntriesAreArmedAndCancelled_2 : ∃ (s : State) (n : Nat), s.launchRoom = some n :=
  ⟨State.reset.setLaunch 0 { state := .armed }, 1, by decide⟩
theorem test_launchEntriesAreArmedAndCancelled_3b : ∃ (s : State) (e n t arg k : Nat) (c : Cmd), s.ready e (· == 0x0520) = some c ∧ c.basin = none ∧ t = param c.desc 0 8 ∧ arg = param c.desc 8 8 ∧ k = param c.desc 0x10 1 ∧ (t < s.tbs.now + 1000000 ∨ s.tbs.now + 2 ^ 56 < t) :=
  ⟨wSched 2 999999 1, 3, 0, 999999, 1, 2, wPf0 0x0520 (natLe 8 999999 ++ natLe 8 1 ++ [2]), by decide +kernel⟩
theorem test_launchEntriesAreArmedAndCancelled_3c : ∃ (s : State) (e n t arg k : Nat) (c : Cmd), s.ready e (· == 0x0520) = some c ∧ c.basin = none ∧ t = param c.desc 0 8 ∧ arg = param c.desc 8 8 ∧ k = param c.desc 0x10 1 ∧ s.tbs.now + 1000000 ≤ t ∧ t ≤ s.tbs.now + 2 ^ 56 ∧ launchConflict s (scheduleKind k) t arg = true :=
  ⟨(wSched 1 1000000 1).setLaunch 5 { state := .armed, kind := some .layout }, 3, 0, 1000000, 1, 1, wPf0 0x0520 (natLe 8 1000000 ++ natLe 8 1 ++ [1]), by decide +kernel⟩
theorem test_launchEntriesAreArmedAndCancelled_3d : ∃ (s : State) (e n t arg k : Nat) (c : Cmd), s.ready e (· == 0x0520) = some c ∧ c.basin = none ∧ t = param c.desc 0 8 ∧ arg = param c.desc 8 8 ∧ k = param c.desc 0x10 1 ∧ s.tbs.now + 1000000 ≤ t ∧ t ≤ s.tbs.now + 2 ^ 56 ∧ launchConflict s (scheduleKind k) t arg = false ∧ s.launchRoom = some n :=
  ⟨wSched 2 1000000 1, 3, 0, 1000000, 1, 2, wPf0 0x0520 (natLe 8 1000000 ++ natLe 8 1 ++ [2]), by decide +kernel⟩
theorem test_launchEntriesAreArmedAndCancelled_3e : ∃ (s : State) (e n t arg k : Nat) (c : Cmd), s.ready e (· == 0x0520) = some c ∧ c.basin = none ∧ t = param c.desc 0 8 ∧ arg = param c.desc 8 8 ∧ k = param c.desc 0x10 1 ∧ s.tbs.now + 1000000 ≤ t ∧ t ≤ s.tbs.now + 2 ^ 56 ∧ launchConflict s (scheduleKind k) t arg = false ∧ s.launchRoom = none :=
  ⟨wFullTable (wSched 2 1000000 1), 3, 0, 1000000, 1, 2, wPf0 0x0520 (natLe 8 1000000 ++ natLe 8 1 ++ [2]), by decide +kernel⟩
theorem test_launchEntriesAreArmedAndCancelled_3 : ∃ (s : State) (e n t arg k : Nat) (c : Cmd), s.ready e (· == 0x0520) = some c ∧ c.basin = none ∧ t = param c.desc 0 8 ∧ arg = param c.desc 8 8 ∧ k = param c.desc 0x10 1 :=
  ⟨wSched 2 1000000 1, 3, 0, 1000000, 1, 2, wPf0 0x0520 (natLe 8 1000000 ++ natLe 8 1 ++ [2]), by decide +kernel⟩
theorem test_launchEntriesAreArmedAndCancelled_4 : ∃ (s : State) (e n t q p : Nat) (c : Cmd), s.ready e (· == 0x0002) = some c ∧ c.basin = none ∧ e ∉ s.slu.mgmt ∧ t = param c.desc 0 8 ∧ q = param c.desc 0x0C 1 % 64 ∧ p = (s.partOf c.fn).getD 0 ∧ s.tbs.now + 1000000 ≤ t ∧ t ≤ s.tbs.now + 2 ^ 56 ∧ s.launchRoom = some n ∧ launchQuota s p = false :=
  ⟨wOn (wCtl 2 (natLe 8 1000000 ++ natLe 4 7)), 3, 0, 1000000, 0, 0, wCtl 2 (natLe 8 1000000 ++ natLe 4 7), by decide +kernel⟩
theorem test_launchEntriesAreArmedAndCancelled_5b : ∃ (s : State) (e n : Nat) (c : Cmd), s.ready e (· == 0x0003) = some c ∧ c.basin = none ∧ e ∉ s.slu.mgmt ∧ n = param c.desc 0 1 ∧ ((s.launch n).state = .armed ∧ (s.launch n).seq = param c.desc 4 4 ∧ s.tbs.now < (s.launch n).instant ∧ (c.fn.vf = 0 ∨ s.partOf c.fn = some (s.launch n).origin)) :=
  ⟨(wOn { wCtl 3 [] with fn := ⟨false, 0⟩ }).setLaunch 0 { state := .armed, instant := 64 }, 3, 0, { wCtl 3 [] with fn := ⟨false, 0⟩ }, by decide +kernel⟩
theorem test_launchEntriesAreArmedAndCancelled_5c : ∃ (s : State) (e n : Nat) (c : Cmd), s.ready e (· == 0x0003) = some c ∧ c.basin = none ∧ e ∉ s.slu.mgmt ∧ n = param c.desc 0 1 ∧ (s.launch n).state = .armed ∧ (s.launch n).seq = param c.desc 4 4 ∧ s.tbs.now < (s.launch n).instant ∧ c.fn.vf ≠ 0 ∧ s.partOf c.fn ≠ some (s.launch n).origin :=
  ⟨(wOn (wCtl 3 [])).setLaunch 0 { state := .armed, instant := 64 }, 3, 0, wCtl 3 [], by decide +kernel⟩
theorem test_launchEntriesAreArmedAndCancelled_5 : ∃ (s : State) (e n : Nat) (c : Cmd), s.ready e (· == 0x0003) = some c ∧ c.basin = none ∧ e ∉ s.slu.mgmt ∧ n = param c.desc 0 1 :=
  ⟨wOn (wCtl 3 []), 3, 0, wCtl 3 [], by decide +kernel⟩

theorem test_launchesFireInOneBroadcastAndDrain_1 : ∃ (s : State), (∀ m, m < 64 → (s.launch m).state = .armed → s.tbs.now < (s.launch m).instant) :=
  ⟨State.reset, by decide⟩
theorem test_launchesFireInOneBroadcastAndDrain_3 : ∃ (s : State) (t n : Nat), FirstDue s t ∧ noLaunch s = true ∧ n ∈ entriesAt s t :=
  ⟨{ wKeyLaunch .keyActivate with fnt := State.reset.fnt }, 64, 9, by exact ⟨⟨by decide +kernel, ⟨9, by decide +kernel⟩, by decide +kernel⟩, by decide +kernel, by decide +kernel⟩⟩
theorem test_launchesFireInOneBroadcastAndDrain_4b : ∃ (s : State) (t n : Nat) (x : LaunchEntry), FirstDue s t ∧ noLaunch s = false ∧ entriesAt s t = [n] ∧ s.launch n = x ∧ precondition s x = true :=
  ⟨wKeyLaunch .keyActivate, 64, 9, { state := .armed, instant := 64, kind := some .keyActivate, arg := wHandle.toNat }, by and_intros <;> first | exact ⟨9, by decide +kernel⟩ | decide +kernel | rfl⟩
theorem test_launchesFireInOneBroadcastAndDrain_4c : ∃ (s : State) (t n : Nat) (x : LaunchEntry), FirstDue s t ∧ noLaunch s = false ∧ entriesAt s t = [n] ∧ s.launch n = x ∧ precondition s x = false :=
  ⟨wKeyLaunch .basinAdmit, 64, 9, { state := .armed, instant := 64, kind := some .basinAdmit, arg := wHandle.toNat }, by and_intros <;> first | exact ⟨9, by decide +kernel⟩ | decide +kernel | rfl⟩
theorem test_launchesFireInOneBroadcastAndDrain_4 : ∃ (s : State) (t n : Nat) (x : LaunchEntry), FirstDue s t ∧ noLaunch s = false ∧ entriesAt s t = [n] ∧ s.launch n = x :=
  ⟨wKeyLaunch .keyActivate, 64, 9, { state := .armed, instant := 64, kind := some .keyActivate, arg := wHandle.toNat }, by exact ⟨⟨by decide +kernel, ⟨9, by decide +kernel⟩, by decide +kernel⟩, by decide +kernel, by decide +kernel, by decide +kernel⟩⟩
theorem test_launchesFireInOneBroadcastAndDrain_5 : ∃ (s : State) (t n : Nat) (x : LaunchEntry) (h : BitVec 64) (r : Record), FirstDue s t ∧ noLaunch s = false ∧ entriesAt s t = [n] ∧ s.launch n = x ∧ h = BitVec.ofNat 64 x.arg ∧ s.record h = some r ∧ ((x.kind = some .keyActivate ∧ r.state = 0) ∨ (x.kind = some .keyRetire ∧ r.state ≤ 2)) :=
  ⟨wKeyLaunch .keyActivate, 64, 9, { state := .armed, instant := 64, kind := some .keyActivate, arg := wHandle.toNat }, wHandle, { wRecord with state := 0 }, by and_intros <;> first | exact ⟨9, by decide +kernel⟩ | decide +kernel | rfl⟩
theorem test_launchesFireInOneBroadcastAndDrain_6b : ∃ (s : State) (t n : Nat) (x : LaunchEntry), FirstDue s t ∧ noLaunch s = false ∧ entriesAt s t = [n] ∧ s.launch n = x ∧ x.kind = some .weirSwap ∧ s.wei.live ≠ (x.arg % 2 == 1) ∧ s.wei.drainedSwap = s.wei.swapSeq :=
  ⟨{ wKeyLaunch .weirSwap with tbs := { now := 64, launch := [(9, { state := .armed, instant := 64, kind := some .weirSwap, arg := 1 })] } }, 64, 9, { state := .armed, instant := 64, kind := some .weirSwap, arg := 1 }, by and_intros <;> first | exact ⟨9, by decide +kernel⟩ | decide +kernel | rfl⟩
theorem test_launchesFireInOneBroadcastAndDrain_6c : ∃ (s : State) (t n : Nat) (x : LaunchEntry), FirstDue s t ∧ noLaunch s = false ∧ entriesAt s t = [n] ∧ s.launch n = x ∧ (∃ l, x.kind = some .layout ∧ s.lay.stage = .scheduled ∧ s.lay.draining = false ∧ s.lay.staged = some l ∧ s.lay.stagedSerial = x.arg) :=
  ⟨{ wKeyLaunch .layout with lay := { stage := .scheduled, staged := some {}, stagedSerial := wHandle.toNat } }, 64, 9, { state := .armed, instant := 64, kind := some .layout, arg := wHandle.toNat }, by and_intros <;> first | exact ⟨9, by decide +kernel⟩ | exact ⟨{}, by decide +kernel⟩ | decide +kernel | rfl⟩
theorem test_launchesFireInOneBroadcastAndDrain_6 : ∃ (s : State) (t n : Nat) (x : LaunchEntry), FirstDue s t ∧ noLaunch s = false ∧ entriesAt s t = [n] ∧ s.launch n = x :=
  ⟨wKeyLaunch .keyActivate, 64, 9, { state := .armed, instant := 64, kind := some .keyActivate, arg := wHandle.toNat }, by exact ⟨⟨by decide +kernel, ⟨9, by decide +kernel⟩, by decide +kernel⟩, by decide +kernel, by decide +kernel, by decide +kernel⟩⟩
theorem test_launchesFireInOneBroadcastAndDrain_7b : ∃ (s : State) (l : Layout), s.lay.active = some l ∧ s.lay.slotCommit = true :=
  ⟨{ State.reset with lay := { active := some {}, slotCommit := true } }, {}, by decide⟩
theorem test_launchesFireInOneBroadcastAndDrain_7c : ∃ (s : State) (l : Layout), s.lay.active = some l ∧ s.lay.slotCommit = false :=
  ⟨{ State.reset with lay := { active := some {} } }, {}, by decide⟩
theorem test_launchesFireInOneBroadcastAndDrain_7 : ∃ (s : State) (l : Layout), s.lay.active = some l :=
  ⟨{ State.reset with lay := { active := some {}, slotCommit := true } }, {}, by decide⟩
theorem test_launchesFireInOneBroadcastAndDrain_8b : ∃ (s : State), s.lay.draining = true ∧ s.lay.slotCommit = false ∧ (∀ p ∈ s.slu.retire, s.lay.epoch ≤ p.2.epoch) ∧ (∀ p ∈ s.queues, ∀ w ∈ p.2.heldOut, s.lay.epoch ≤ w.epoch) ∧ (∀ p ∈ s.pairs, p.2.load = none) ∧ s.wei.debugAcc = none ∧ (∀ n ∈ basinNums, (s.basin n).cas.wiping = false) :=
  ⟨{ wOn { wDigest with epoch := 7 } with lay := { draining := true, epoch := 7 } }, by decide +kernel⟩
theorem test_launchesFireInOneBroadcastAndDrain_8c : ∃ (s : State), s.lay.draining = true ∧ s.lay.slotCommit = false ∧ ((∃ e c, s.cmd e = some c ∧ c.epoch < s.lay.epoch) ∨ (∃ p ∈ s.queues, ∃ w ∈ p.2.heldOut, w.epoch < s.lay.epoch)) :=
  ⟨{ wOn { wDigest with epoch := 6 } with lay := { draining := true, epoch := 7 } }, by exact ⟨by decide +kernel, by decide +kernel, Or.inl ⟨3, { wDigest with epoch := 6 }, by decide +kernel⟩⟩⟩
theorem test_launchesFireInOneBroadcastAndDrain_8 : ∃ (s : State), s.lay.draining = true ∧ s.lay.slotCommit = false :=
  ⟨{ State.reset with lay := { draining := true } }, by decide⟩
theorem test_launchesFireInOneBroadcastAndDrain_9b : ∃ (s : State), s.slu.drainedSeq < newestDrained s :=
  ⟨{ wOn { wDigest with seq := 3 } with slu := { (wOn { wDigest with seq := 3 }).slu with launchSeq := 5 } }, by decide +kernel⟩
theorem test_launchesFireInOneBroadcastAndDrain_9c : ∃ (s : State), newestDrained s ≤ s.slu.drainedSeq :=
  ⟨{ wOn { wDigest with seq := 3 } with slu := { (wOn { wDigest with seq := 3 }).slu with launchSeq := 5, drainedSeq := 3 } }, by decide +kernel⟩
theorem test_launchesFireInOneBroadcastAndDrain_10b : ∃ (s : State), s.wei.drainedSwap ≠ s.wei.swapSeq ∧ (∀ p ∈ s.pairs, p.2.load = none) ∧ s.wei.debugAcc = none :=
  ⟨{ State.reset with wei := { State.reset.wei with swapSeq := 4 }, pairs := [] }, by decide⟩

/-- Entry 3 holds a management command of PF0 that may execute, with input. -/
def wMg (op : Nat) (ps input : Bytes) : State := wMgmt { wPf0 op ps with input := input }
/-- The first 256 bytes of an image whose LENGTH is n. -/
def wHead (n : Nat) : Bytes := List.replicate 8 0 ++ natLe 4 n ++ List.replicate 244 0
def withLay (l : LayState) (s : State) : State := { s with lay := l }

theorem test_layoutImagesAreLoadedStagedAndDiscarded_1b : ∃ (s : State) (e off : Nat) (c : Cmd) (all : Bytes) (u : State), s.ready e (· == 0x0501) = some c ∧ c.basin = none ∧ off = param c.desc 0 4 ∧ (s.lay.stage = .empty ∨ s.lay.stage = .loading ∨ s.lay.stage = .verified) ∧ all = (if off = 0 then [] else s.lay.loading) ++ c.input ∧ u = { s with lay := { layCleared s.lay with stage := .loading, loading := all } } ∧ off ≠ (if s.lay.stage = .loading then s.lay.loading.length else 0) :=
  ⟨withLay { stage := .loading, loading := [1] } (wMg 0x0501 [] []), 3, 0, { wPf0 0x0501 [] with input := [] }, [], withLay { layCleared {} with stage := .loading, loading := [] } (wMg 0x0501 [] []), by and_intros <;> first | decide +kernel | rfl⟩
theorem test_layoutImagesAreLoadedStagedAndDiscarded_1c : ∃ (s : State) (e off : Nat) (c : Cmd) (all : Bytes) (u : State), s.ready e (· == 0x0501) = some c ∧ c.basin = none ∧ off = param c.desc 0 4 ∧ (s.lay.stage = .empty ∨ s.lay.stage = .loading ∨ s.lay.stage = .verified) ∧ all = (if off = 0 then [] else s.lay.loading) ++ c.input ∧ u = { s with lay := { layCleared s.lay with stage := .loading, loading := all } } ∧ (off = (if s.lay.stage = .loading then s.lay.loading.length else 0) ∧ (all.length < 256 ∨ 2097152 < field all 8 4 + 3373 ∨ field all 8 4 + 3373 < all.length)) :=
  ⟨wMg 0x0501 [] [7], 3, 0, { wPf0 0x0501 [] with input := [7] }, [7], withLay { layCleared {} with stage := .loading, loading := [7] } (wMg 0x0501 [] [7]), by and_intros <;> first | decide +kernel | rfl⟩
theorem test_layoutImagesAreLoadedStagedAndDiscarded_1d : ∃ (s : State) (e off : Nat) (c : Cmd) (all : Bytes) (u : State), s.ready e (· == 0x0501) = some c ∧ c.basin = none ∧ off = param c.desc 0 4 ∧ (s.lay.stage = .empty ∨ s.lay.stage = .loading ∨ s.lay.stage = .verified) ∧ all = (if off = 0 then [] else s.lay.loading) ++ c.input ∧ u = { s with lay := { layCleared s.lay with stage := .loading, loading := all } } ∧ off = (if s.lay.stage = .loading then s.lay.loading.length else 0) ∧ 256 ≤ all.length ∧ field all 8 4 + 3373 ≤ 2097152 ∧ all.length < field all 8 4 + 3373 :=
  ⟨wMg 0x0501 [] (wHead 4000), 3, 0, { wPf0 0x0501 [] with input := wHead 4000 }, wHead 4000, withLay { layCleared {} with stage := .loading, loading := wHead 4000 } (wMg 0x0501 [] (wHead 4000)), by and_intros <;> first | decide +kernel | rfl⟩
theorem test_layoutImagesAreLoadedStagedAndDiscarded_1e : ∃ (s : State) (e off : Nat) (c : Cmd) (all : Bytes) (u : State), s.ready e (· == 0x0501) = some c ∧ c.basin = none ∧ off = param c.desc 0 4 ∧ (s.lay.stage = .empty ∨ s.lay.stage = .loading ∨ s.lay.stage = .verified) ∧ all = (if off = 0 then [] else s.lay.loading) ++ c.input ∧ u = { s with lay := { layCleared s.lay with stage := .loading, loading := all } } ∧ off = (if s.lay.stage = .loading then s.lay.loading.length else 0) ∧ 256 ≤ all.length ∧ all.length ≤ 2097152 ∧ all.length = field all 8 4 + 3373 :=
  ⟨wMg 0x0501 [] (wHead 0 ++ List.replicate 3117 0), 3, 0, { wPf0 0x0501 [] with input := wHead 0 ++ List.replicate 3117 0 }, wHead 0 ++ List.replicate 3117 0, withLay { layCleared {} with stage := .loading, loading := wHead 0 ++ List.replicate 3117 0 } (wMg 0x0501 [] (wHead 0 ++ List.replicate 3117 0)), by and_intros <;> first | decide +kernel | rfl⟩
theorem test_layoutImagesAreLoadedStagedAndDiscarded_1 : ∃ (s : State) (e off : Nat) (c : Cmd) (all : Bytes) (u : State), s.ready e (· == 0x0501) = some c ∧ c.basin = none ∧ off = param c.desc 0 4 ∧ (s.lay.stage = .empty ∨ s.lay.stage = .loading ∨ s.lay.stage = .verified) ∧ all = (if off = 0 then [] else s.lay.loading) ++ c.input ∧ u = { s with lay := { layCleared s.lay with stage := .loading, loading := all } } :=
  ⟨wMg 0x0501 [] (wHead 4000), 3, 0, { wPf0 0x0501 [] with input := wHead 4000 }, wHead 4000, withLay { layCleared {} with stage := .loading, loading := wHead 4000 } (wMg 0x0501 [] (wHead 4000)), by and_intros <;> first | decide +kernel | rfl⟩
theorem test_layoutImagesAreLoadedStagedAndDiscarded_2 : ∃ (s : State) (e : Nat) (c : Cmd), s.ready e (· == 0x0501) = some c ∧ c.basin = none ∧ (s.lay.stage = .approved ∨ s.lay.stage = .staged ∨ s.lay.stage = .scheduled) :=
  ⟨withLay { stage := .staged } (wMg 0x0501 [] []), 3, wPf0 0x0501 [], by decide +kernel⟩
theorem test_layoutImagesAreLoadedStagedAndDiscarded_3b : ∃ (s : State) (e : Nat) (c : Cmd), s.ready e (· == 0x0502) = some c ∧ c.basin = none ∧ s.lay.draining = true :=
  ⟨withLay { draining := true } (wMg 0x0502 [] []), 3, wPf0 0x0502 [], by decide +kernel⟩
theorem test_layoutImagesAreLoadedStagedAndDiscarded_3c : ∃ (s : State) (e : Nat) (c : Cmd), s.ready e (· == 0x0502) = some c ∧ c.basin = none ∧ s.lay.draining = false ∧ s.lay.stage ≠ .verified ∧ s.lay.stage ≠ .approved :=
  ⟨wMg 0x0502 [] [], 3, wPf0 0x0502 [], by decide +kernel⟩
theorem test_layoutImagesAreLoadedStagedAndDiscarded_3 : ∃ (s : State) (e : Nat) (c : Cmd), s.ready e (· == 0x0502) = some c ∧ c.basin = none :=
  ⟨wMg 0x0502 [] [], 3, wPf0 0x0502 [], by decide +kernel⟩
theorem test_layoutImagesAreLoadedStagedAndDiscarded_4b : ∃ (s : State) (e : Nat) (c : Cmd), s.ready e (· == 0x0503) = some c ∧ c.basin = none ∧ (s.lay.draining = true ∨ layoutDue s = true) :=
  ⟨withLay { draining := true } (wMg 0x0503 [] []), 3, wPf0 0x0503 [], by decide +kernel⟩
theorem test_layoutImagesAreLoadedStagedAndDiscarded_4c : ∃ (s : State) (e : Nat) (c : Cmd), s.ready e (· == 0x0503) = some c ∧ c.basin = none ∧ s.lay.draining = false ∧ layoutDue s = false :=
  ⟨withLay { stage := .verified } (wMg 0x0503 [] []), 3, wPf0 0x0503 [], by decide +kernel⟩
theorem test_layoutImagesAreLoadedStagedAndDiscarded_4 : ∃ (s : State) (e : Nat) (c : Cmd), s.ready e (· == 0x0503) = some c ∧ c.basin = none :=
  ⟨withLay { stage := .verified } (wMg 0x0503 [] []), 3, wPf0 0x0503 [], by decide +kernel⟩

def withBsn (b : BsnState) : State := { State.reset with bsn := b }
/-- The same at the end of the first loop period. -/
def withLoop (b : BsnState) : State := { withBsn b with tbs := { now := 65536 } }
/-- A state at the end of the first window. -/
def atWindow (s : State) : State := { s with tbs := { now := 4096 } }

theorem test_paceWindowsAndTheVoltageLoop_1 : ∃ (c : Nat), 0 < c :=
  ⟨1677722, by decide⟩
theorem test_paceWindowsAndTheVoltageLoop_2 : ∃ (s : State) (l : List (Option Nat)), (s.tbs.now / 4096 = s.bsn.windowMark ∨ s.bsn.windowStep = true) :=
  ⟨atWindow (withBsn { windowStep := true }), [], by decide⟩
theorem test_paceWindowsAndTheVoltageLoop_3b : ∃ (s : State) (l : List (Option Nat)), s.tbs.now / 4096 ≠ s.bsn.windowMark ∧ s.bsn.windowStep = false ∧ (∀ b ∈ basinNums, (s.basin b).windows.length < 16) ∧ measured s l = true ∧ s.lay.active = none :=
  ⟨atWindow (State.reset.setBasin 2 { st := .draining }), [none, none, some 1677721], by decide +kernel⟩
theorem test_paceWindowsAndTheVoltageLoop_3c : ∃ (s : State) (l : List (Option Nat)), s.tbs.now / 4096 ≠ s.bsn.windowMark ∧ s.bsn.windowStep = false ∧ (∀ b ∈ basinNums, (s.basin b).windows.length < 16) ∧ measured s l = true ∧ s.lay.active = some {} :=
  ⟨atWindow { State.reset.setBasin 2 { st := .serving } with lay := { active := some {} } }, [none, none, some 1677721], by decide +kernel⟩
theorem test_paceWindowsAndTheVoltageLoop_3d : ∃ (s : State) (l : List (Option Nat)), s.tbs.now / 4096 ≠ s.bsn.windowMark ∧ s.bsn.windowStep = false ∧ (∀ b ∈ basinNums, (s.basin b).windows.length < 16) ∧ measured s l = false :=
  ⟨atWindow State.reset, [], by decide +kernel⟩
theorem test_paceWindowsAndTheVoltageLoop_3 : ∃ (s : State) (l : List (Option Nat)), s.tbs.now / 4096 ≠ s.bsn.windowMark ∧ s.bsn.windowStep = false ∧ (∀ b ∈ basinNums, (s.basin b).windows.length < 16) :=
  ⟨atWindow (State.reset.setBasin 2 { st := .serving }), [none, none, some 1677721], by decide +kernel⟩
theorem test_paceWindowsAndTheVoltageLoop_4b : ∃ (s : State), s.tbs.now / 65536 ≠ s.bsn.periodMark ∧ s.bsn.loopOn = true ∧ s.bsn.avsFault = false ∧ s.bsn.avs = none ∧ s.bsn.ceil < s.bsn.voltage :=
  ⟨withLoop { loopOn := true, voltage := 790, ceil := 780 }, by decide⟩
theorem test_paceWindowsAndTheVoltageLoop_4c : ∃ (s : State), s.tbs.now / 65536 ≠ s.bsn.periodMark ∧ s.bsn.loopOn = true ∧ s.bsn.avsFault = false ∧ s.bsn.avs = none ∧ (s.bsn.voltage ≤ s.bsn.ceil ∧ (s.bsn.periodPaces = [] ∨ s.bsn.loopFloor = none)) :=
  ⟨withLoop { loopOn := true, voltage := 780, ceil := 780 }, by decide⟩
theorem test_paceWindowsAndTheVoltageLoop_4d : ∃ (s : State), s.tbs.now / 65536 ≠ s.bsn.periodMark ∧ s.bsn.loopOn = true ∧ s.bsn.avsFault = false ∧ s.bsn.avs = none ∧ s.bsn.voltage ≤ s.bsn.ceil ∧ s.bsn.periodPaces ≠ [] ∧ s.bsn.loopFloor = some 600 ∧ 600 < maxOf s.bsn.periodPaces :=
  ⟨withLoop { loopOn := true, voltage := 760, ceil := 780, loopFloor := some 600, periodPaces := [604] }, by decide⟩
theorem test_paceWindowsAndTheVoltageLoop_4e : ∃ (s : State), s.tbs.now / 65536 ≠ s.bsn.periodMark ∧ s.bsn.loopOn = true ∧ s.bsn.avsFault = false ∧ s.bsn.avs = none ∧ s.bsn.voltage ≤ s.bsn.ceil ∧ s.bsn.periodPaces ≠ [] ∧ s.bsn.loopFloor = some 600 ∧ 20 * maxOf s.bsn.periodPaces < 19 * 600 ∧ 15 ≤ s.bsn.fastPeriods ∧ 600 < s.bsn.voltage :=
  ⟨withLoop { loopOn := true, voltage := 760, ceil := 780, loopFloor := some 600, periodPaces := [569], fastPeriods := 15 }, by decide⟩
theorem test_paceWindowsAndTheVoltageLoop_4f : ∃ (s : State), s.tbs.now / 65536 ≠ s.bsn.periodMark ∧ s.bsn.loopOn = true ∧ s.bsn.avsFault = false ∧ s.bsn.avs = none ∧ (s.bsn.voltage ≤ s.bsn.ceil ∧ s.bsn.periodPaces ≠ [] ∧ s.bsn.loopFloor = some 600 ∧ 20 * maxOf s.bsn.periodPaces < 19 * 600 ∧ (s.bsn.fastPeriods < 15 ∨ s.bsn.voltage ≤ 600)) :=
  ⟨withLoop { loopOn := true, voltage := 600, ceil := 780, loopFloor := some 600, periodPaces := [569], fastPeriods := 15 }, by decide⟩
theorem test_paceWindowsAndTheVoltageLoop_4g : ∃ (s : State), s.tbs.now / 65536 ≠ s.bsn.periodMark ∧ s.bsn.loopOn = true ∧ s.bsn.avsFault = false ∧ s.bsn.avs = none ∧ s.bsn.voltage ≤ s.bsn.ceil ∧ s.bsn.periodPaces ≠ [] ∧ s.bsn.loopFloor = some 600 ∧ maxOf s.bsn.periodPaces ≤ 600 ∧ 19 * 600 ≤ 20 * maxOf s.bsn.periodPaces :=
  ⟨withLoop { loopOn := true, voltage := 760, ceil := 780, loopFloor := some 600, periodPaces := [570] }, by decide⟩
theorem test_paceWindowsAndTheVoltageLoop_4 : ∃ (s : State), s.tbs.now / 65536 ≠ s.bsn.periodMark ∧ s.bsn.loopOn = true ∧ s.bsn.avsFault = false ∧ s.bsn.avs = none :=
  ⟨withLoop { loopOn := true, voltage := 760, ceil := 780, loopFloor := some 600, periodPaces := [604] }, by decide⟩
theorem test_paceWindowsAndTheVoltageLoop_5 : ∃ (s : State), s.tbs.now / 65536 ≠ s.bsn.periodMark ∧ (s.bsn.loopOn = false ∨ s.bsn.avsFault = true) :=
  ⟨withLoop { loopOn := true, avsFault := true, voltage := 790, ceil := 780 }, by decide⟩
theorem test_paceWindowsAndTheVoltageLoop_6 : ∃ (s : State), s.tbs.now / 65536 = s.bsn.periodMark :=
  ⟨State.reset, by decide⟩
theorem test_paceWindowsAndTheVoltageLoop_7b : ∃ (s : State) (t0 : Nat), s.bsn.readDue = some t0 ∧ t0 ≤ s.tbs.now ∧ s.bsn.avs = none :=
  ⟨withBsn { readDue := some 0 }, 0, by decide⟩
theorem test_paceWindowsAndTheVoltageLoop_7c : ∃ (s : State) (t0 : Nat), s.bsn.readDue = some t0 ∧ s.tbs.now < t0 :=
  ⟨withBsn { readDue := some 1 }, 1, by decide⟩
theorem test_paceWindowsAndTheVoltageLoop_7 : ∃ (s : State) (t0 : Nat), s.bsn.readDue = some t0 :=
  ⟨withBsn { readDue := some 0 }, 0, by decide⟩
theorem test_paceWindowsAndTheVoltageLoop_8b : ∃ (s : State) (x : AvsCmd) (n : Nat) (r : AvsEnd), s.bsn.avs = some (x, n) ∧ (r = .crcError ∨ r = .noResponse) ∧ n < 4 :=
  ⟨withBsn { avs := some (.statusRead, 3) }, .statusRead, 3, .noResponse, by decide⟩
theorem test_paceWindowsAndTheVoltageLoop_8c : ∃ (s : State) (x : AvsCmd) (n : Nat) (r : AvsEnd), s.bsn.avs = some (x, n) ∧ (r = .crcError ∨ r = .noResponse) ∧ 4 ≤ n :=
  ⟨withBsn { avs := some (.voltageWrite 770 true, 4) }, .voltageWrite 770 true, 4, .crcError, by decide⟩
theorem test_paceWindowsAndTheVoltageLoop_8 : ∃ (s : State) (x : AvsCmd) (n : Nat) (r : AvsEnd), s.bsn.avs = some (x, n) ∧ (r = .crcError ∨ r = .noResponse) :=
  ⟨withBsn { avs := some (.voltageWrite 770 true, 4) }, .voltageWrite 770 true, 4, .crcError, by decide⟩
theorem test_paceWindowsAndTheVoltageLoop_9 : ∃ (s : State) (mv n v : Nat), s.bsn.avs = some (.voltageWrite mv true, n) :=
  ⟨withBsn { avs := some (.voltageWrite 780 true, 2), ceil := 780 }, 780, 2, 0, by decide⟩
theorem test_paceWindowsAndTheVoltageLoop_10b : ∃ (s : State) (n v : Nat), s.bsn.avs = some (.voltageRead, n) ∧ v ≤ s.bsn.voltage + 20 ∧ s.bsn.voltage ≤ v + 20 :=
  ⟨withBsn { avs := some (.voltageRead, 1) }, 1, 820, by decide⟩
theorem test_paceWindowsAndTheVoltageLoop_10c : ∃ (s : State) (n v : Nat), s.bsn.avs = some (.voltageRead, n) ∧ (s.bsn.voltage + 20 < v ∨ v + 20 < s.bsn.voltage) :=
  ⟨withBsn { avs := some (.voltageRead, 1) }, 1, 821, by decide⟩
theorem test_paceWindowsAndTheVoltageLoop_10 : ∃ (s : State) (n v : Nat), s.bsn.avs = some (.voltageRead, n) :=
  ⟨withBsn { avs := some (.voltageRead, 1) }, 1, 821, by decide⟩
theorem test_paceWindowsAndTheVoltageLoop_11 : ∃ (s : State) (n v : Nat), s.bsn.avs = some (.statusRead, n) :=
  ⟨withBsn { avs := some (.statusRead, 2) }, 2, 0, by decide⟩
theorem test_paceWindowsAndTheVoltageLoop_12b : ∃ (s : State) (f : FnId) (v : BitVec 32) (mv : Nat), mv = v.toNat % 1024 ∧ f.vf = 0 ∧ s.fnExists f = true ∧ s.lockable = true ∧ 720 ≤ mv ∧ mv ≤ 900 :=
  ⟨State.reset, ⟨false, 0⟩, 900, 900, by decide⟩
theorem test_paceWindowsAndTheVoltageLoop_12c : ∃ (s : State) (f : FnId) (v : BitVec 32) (mv : Nat), mv = v.toNat % 1024 ∧ (f.vf ≠ 0 ∨ s.lockable = false ∨ mv < 720 ∨ 900 < mv) :=
  ⟨State.reset, ⟨false, 0⟩, 719, 719, by decide⟩
theorem test_paceWindowsAndTheVoltageLoop_12 : ∃ (s : State) (f : FnId) (v : BitVec 32) (mv : Nat), mv = v.toNat % 1024 :=
  ⟨State.reset, ⟨false, 0⟩, 720, 720, by decide⟩

/-- Reset with both ports' states given. -/
def wPorts (a b : PortState) : State := (State.reset.setPort false a).setPort true b
/-- Both links up, port A's PF0 in a state. -/
def wLinks (x : FnState) : State := (wPorts { linkUp := true, perst := false } { linkUp := true, perst := false }).setFn ⟨false, 0⟩ x
/-- Port A in an SPDM secure session with one IDE key programmed and every other one of its set in use. -/
def wSecure : State := wPorts { linkUp := true, perst := false, spdm := 2, ideKeys := [0], ideGo := [2, 4, 6, 8, 10] } {}
/-- Queue 0 of port A's PF0 in a state. -/
def wQ0 (x : Queue) : State := (wLinks {}).setQueue ⟨false, 0⟩ 0 x
/-- A Layout and one VF of port A. -/
def wVf1 : State := { wPorts { linkUp := true, vfEnable := true, numVfs := 1 } {} with lay := { active := some {} } }
/-- Port B's PF0 has an enabled queue 0; queue 0 of port A's PF0 in a state. -/
def wBusyIdle (x : Queue) : State := (wQ0 x).setQueue ⟨true, 0⟩ 0 { enabled := true }
/-- Port B's PF0 has a re-attach under way to its enabled queue 0; queue 0 of port A's PF0 in a state. -/
def wBusy (v : BitVec 32) (x : Queue) : State := ((wQ0 x).setQueue ⟨true, 0⟩ 0 { enabled := true }).setFn ⟨true, 0⟩ { reState := 1, reattach := v }

theorem test_linksDetachQueuesAndPortsAnswer_1 : ∃ (s : State) (port : Bool), (s.port port).linkUp = true :=
  ⟨wQ0 { enabled := true }, false, by decide⟩
theorem test_linksDetachQueuesAndPortsAnswer_2 : ∃ (s : State) (port : Bool) (rate width : Nat), (s.port port).training = true ∧ (s.port port).linkUp = false ∧ (s.port port).perst = false ∧ s.portExists port = true ∧ s.pwr.por = false :=
  ⟨{ wPorts { training := true, perst := false } {} with pwr := { por := false } }, false, 6, 8, by decide⟩
theorem test_linksDetachQueuesAndPortsAnswer_3b : ∃ (s : State) (port : Bool), s.portExists port = true ∧ (s.port port).perst = true :=
  ⟨State.reset, true, by decide⟩
theorem test_linksDetachQueuesAndPortsAnswer_3 : ∃ (s : State) (port : Bool), s.portExists port = true :=
  ⟨State.reset, true, by decide⟩
theorem test_linksDetachQueuesAndPortsAnswer_4 : ∃ (s : State), s.x16 = true :=
  ⟨{ State.reset with pwr := { x16 := true } }, by decide⟩
theorem test_linksDetachQueuesAndPortsAnswer_5b : ∃ (s : State) (f : FnId) (q t0 : Nat), (s.queue f q).detachedAt = some t0 ∧ s.tbs.now < t0 + 1000000000 :=
  ⟨wQ0 { detachedAt := some 0 }, ⟨false, 0⟩, 0, 0, by decide⟩
theorem test_linksDetachQueuesAndPortsAnswer_5c : ∃ (s : State) (f : FnId) (q t0 : Nat), (s.queue f q).detachedAt = some t0 ∧ t0 + 1000000000 ≤ s.tbs.now :=
  ⟨{ wQ0 { detachedAt := some 0 } with tbs := { now := 1000000000 } }, ⟨false, 0⟩, 0, 0, by decide⟩
theorem test_linksDetachQueuesAndPortsAnswer_5 : ∃ (s : State) (f : FnId) (q t0 : Nat), (s.queue f q).detachedAt = some t0 :=
  ⟨wQ0 { detachedAt := some 0 }, ⟨false, 0⟩, 0, 0, by decide⟩
theorem test_linksDetachQueuesAndPortsAnswer_6b : ∃ (s : State) (f : FnId), s.fnExists f = true ∧ (s.port f.port).linkUp = true ∧ (s.fn f).d3hot = false :=
  ⟨wLinks {}, ⟨false, 0⟩, by decide⟩
theorem test_linksDetachQueuesAndPortsAnswer_6c : ∃ (s : State) (f : FnId), s.fnExists f = true ∧ (s.port f.port).linkUp = true ∧ (s.fn f).d3hot = true :=
  ⟨wLinks { d3hot := true }, ⟨false, 0⟩, by decide⟩
theorem test_linksDetachQueuesAndPortsAnswer_6 : ∃ (s : State) (f : FnId), s.fnExists f = true ∧ (s.port f.port).linkUp = true :=
  ⟨wLinks {}, ⟨false, 0⟩, by decide⟩
theorem test_linksDetachQueuesAndPortsAnswer_7 : ∃ (s : State) (port : Bool), (s.port port).linkUp = true ∧ (s.port port).ideSecure = true :=
  ⟨wPorts {} { linkUp := true, ideSecure := true }, true, by decide⟩
theorem test_linksDetachQueuesAndPortsAnswer_8b : ∃ (s : State) (port : Bool) (msg : Bytes) (i k : Nat), doeUp s port = true ∧ k = ideKeyOf msg ∧ (s.port port).spdm ≠ 2 :=
  ⟨wLinks {}, false, [0, 4], 1, 0, by decide⟩
theorem test_linksDetachQueuesAndPortsAnswer_8c : ∃ (s : State) (port : Bool) (msg : Bytes) (i k : Nat), doeUp s port = true ∧ k = ideKeyOf msg ∧ (s.port port).spdm = 2 ∧ field msg 1 1 = 2 :=
  ⟨wSecure, false, [0, 2, 0, 0, 0, 0, 0x11], 1, 5, by decide⟩
theorem test_linksDetachQueuesAndPortsAnswer_8d : ∃ (s : State) (port : Bool) (msg : Bytes) (i k : Nat), doeUp s port = true ∧ k = ideKeyOf msg ∧ (s.port port).spdm = 2 ∧ field msg 1 1 = 4 ∧ k ∈ (s.port port).ideKeys :=
  ⟨wSecure, false, [0, 4], 1, 0, by decide⟩
theorem test_linksDetachQueuesAndPortsAnswer_8e : ∃ (s : State) (port : Bool) (msg : Bytes) (i k : Nat), doeUp s port = true ∧ k = ideKeyOf msg ∧ (s.port port).spdm = 2 ∧ field msg 1 1 = 5 :=
  ⟨wSecure, false, [0, 5], 1, 0, by decide⟩
theorem test_linksDetachQueuesAndPortsAnswer_8f : ∃ (s : State) (port : Bool) (msg : Bytes) (i k : Nat), doeUp s port = true ∧ k = ideKeyOf msg ∧ (s.port port).spdm = 2 ∧ field msg 1 1 ≠ 2 ∧ field msg 1 1 ≠ 4 ∧ field msg 1 1 ≠ 5 :=
  ⟨wSecure, false, [0, 0], 1, 0, by decide⟩
theorem test_linksDetachQueuesAndPortsAnswer_8 : ∃ (s : State) (port : Bool) (msg : Bytes) (i k : Nat), doeUp s port = true ∧ k = ideKeyOf msg :=
  ⟨wLinks {}, false, [0, 4], 1, 0, by decide⟩

theorem test_reattachAndFunctionLevelResets_1b : ∃ (s : State) (f : FnId) (v : BitVec 32), s.fnExists f = true ∧ (s.fn f).resetting = false ∧ (s.port f.port).linkUp = true ∧ (s.fn f).reState = 1 :=
  ⟨wLinks { reState := 1 }, ⟨false, 0⟩, 0x80000000, by decide⟩
theorem test_reattachAndFunctionLevelResets_1c : ∃ (s : State) (f : FnId) (v : BitVec 32), s.fnExists f = true ∧ (s.fn f).resetting = false ∧ (s.port f.port).linkUp = true ∧ (s.fn f).reState ≠ 1 ∧ v.getLsbD 31 = true :=
  ⟨wLinks {}, ⟨false, 0⟩, 0xFFFFFFFF, by decide⟩
theorem test_reattachAndFunctionLevelResets_1d : ∃ (s : State) (f : FnId) (v : BitVec 32), s.fnExists f = true ∧ (s.fn f).resetting = false ∧ (s.port f.port).linkUp = true ∧ (s.fn f).reState ≠ 1 ∧ v.getLsbD 31 = false :=
  ⟨wLinks { reState := 3 }, ⟨false, 0⟩, 0x101, by decide⟩
theorem test_reattachAndFunctionLevelResets_1 : ∃ (s : State) (f : FnId) (v : BitVec 32), s.fnExists f = true ∧ (s.fn f).resetting = false ∧ (s.port f.port).linkUp = true :=
  ⟨wLinks { reState := 1 }, ⟨false, 0⟩, 0x80000000, by decide⟩
theorem test_reattachAndFunctionLevelResets_2 : ∃ (s : State) (f h : FnId) (v : BitVec 32) (sq dq : Nat), s.fnExists f = true ∧ (s.fn f).resetting = false ∧ (s.port f.port).linkUp = true ∧ v.getLsbD 31 = true ∧ (s.fns.map (·.1)).Nodup ∧ (∀ p ∈ s.fns, p.2.reState ≠ 1) ∧ sq = v.toNat % 64 ∧ dq = v.toNat / 256 % 64 ∧ (if v.getLsbD 6 then some f else s.peer f) = some h ∧ f.vf < 32 ∧ h.vf < 32 ∧ reattachResult s f (some h) sq dq = 0 :=
  ⟨wBusyIdle { detachedAt := some 0 }, ⟨true, 0⟩, ⟨false, 0⟩, 0x80000000, 0, 0, by decide⟩
theorem test_reattachAndFunctionLevelResets_3b : ∃ (s : State) (f h : FnId) (v : BitVec 32) (sq dq : Nat), s.fnExists f = true ∧ (s.fn f).reState = 1 ∧ (s.fn f).reattach = v ∧ sq = v.toNat % 64 ∧ dq = v.toNat / 256 % 64 ∧ (if v.getLsbD 6 then some f else s.peer f) = some h ∧ f.vf < 32 ∧ h.vf < 32 ∧ reattachResult s f (some h) sq dq = 0 :=
  ⟨wBusy 0x80000000 { detachedAt := some 0 }, ⟨true, 0⟩, ⟨false, 0⟩, 0x80000000, 0, 0, by decide⟩
theorem test_reattachAndFunctionLevelResets_3c : ∃ (s : State) (f h : FnId) (v : BitVec 32) (sq dq : Nat), s.fnExists f = true ∧ (s.fn f).reState = 1 ∧ (s.fn f).reattach = v ∧ sq = v.toNat % 64 ∧ dq = v.toNat / 256 % 64 ∧ (if v.getLsbD 6 then some f else s.peer f) = some h ∧ f.vf < 32 ∧ h.vf < 32 ∧ (s.queue h sq).detached = false :=
  ⟨wBusy 0x80000000 {}, ⟨true, 0⟩, ⟨false, 0⟩, 0x80000000, 0, 0, by decide⟩
theorem test_reattachAndFunctionLevelResets_3d : ∃ (s : State) (f h : FnId) (v : BitVec 32) (sq dq : Nat), s.fnExists f = true ∧ (s.fn f).reState = 1 ∧ (s.fn f).reattach = v ∧ sq = v.toNat % 64 ∧ dq = v.toNat / 256 % 64 ∧ (if v.getLsbD 6 then some f else s.peer f) = some h ∧ f.vf < 32 ∧ h.vf < 32 ∧ ((s.queue h sq).detached = true ∧ (s.queuePairs f ≤ dq ∨ (s.queue f dq).enabled = false ∨ (s.queue f dq).idle = false)) :=
  ⟨wBusy 0x80003F00 { detachedAt := some 0 }, ⟨true, 0⟩, ⟨false, 0⟩, 0x80003F00, 0, 63, by decide⟩
theorem test_reattachAndFunctionLevelResets_3 : ∃ (s : State) (f h : FnId) (v : BitVec 32) (sq dq : Nat), s.fnExists f = true ∧ (s.fn f).reState = 1 ∧ (s.fn f).reattach = v ∧ sq = v.toNat % 64 ∧ dq = v.toNat / 256 % 64 ∧ (if v.getLsbD 6 then some f else s.peer f) = some h ∧ f.vf < 32 ∧ h.vf < 32 :=
  ⟨wBusy 0x80000000 { detachedAt := some 0 }, ⟨true, 0⟩, ⟨false, 0⟩, 0x80000000, 0, 0, by decide⟩
theorem test_reattachAndFunctionLevelResets_4 : ∃ (s : State) (f : FnId), (s.fn f).reattach.getLsbD 6 = false ∧ s.peer f = none :=
  ⟨{ wLinks { reState := 1, reattach := 0x80000000 } with pwr := { x16 := true } }, ⟨false, 0⟩, by decide⟩
theorem test_reattachAndFunctionLevelResets_5b : ∃ (s : State) (f : FnId), s.fnExists f = true ∧ f.vf ≠ 0 ∧ f.vf < 32 ∧ (s.fn f).resetting = true :=
  ⟨wVf1.setFn ⟨false, 1⟩ { resetting := true }, ⟨false, 1⟩, by decide⟩
theorem test_reattachAndFunctionLevelResets_5c : ∃ (s : State) (f : FnId), s.fnExists f = true ∧ f.vf ≠ 0 ∧ f.vf < 32 ∧ (s.fn f).resetting = false :=
  ⟨wVf1, ⟨false, 1⟩, by decide⟩
theorem test_reattachAndFunctionLevelResets_5 : ∃ (s : State) (f : FnId), s.fnExists f = true ∧ f.vf ≠ 0 ∧ f.vf < 32 :=
  ⟨wVf1, ⟨false, 1⟩, by decide⟩
theorem test_reattachAndFunctionLevelResets_6b : ∃ (s : State) (f : FnId), f.vf < 32 ∧ (s.cis.records.map (·.1)).Nodup ∧ (s.fn f).resetting = true ∧ cascadesClear s f = true :=
  ⟨(wLinks {}).setFn ⟨false, 1⟩ { resetting := true, generation := 4 }, ⟨false, 1⟩, by decide⟩
theorem test_reattachAndFunctionLevelResets_6c : ∃ (s : State) (f : FnId), f.vf < 32 ∧ (s.cis.records.map (·.1)).Nodup ∧ ((s.fn f).resetting = false ∨ cascadesClear s f = false) :=
  ⟨wLinks {}, ⟨false, 1⟩, by decide⟩
theorem test_reattachAndFunctionLevelResets_6 : ∃ (s : State) (f : FnId), f.vf < 32 ∧ (s.cis.records.map (·.1)).Nodup :=
  ⟨(wLinks {}).setFn ⟨false, 1⟩ { resetting := true, generation := 4 }, ⟨false, 1⟩, by decide⟩
theorem test_reattachAndFunctionLevelResets_7b : ∃ (s : State) (port : Bool) (n : Nat), (s.port port).linkUp = true ∧ (s.port port).vfEnable = false ∧ s.portExists port = true ∧ 1 ≤ n ∧ n ≤ 31 :=
  ⟨wLinks {}, true, 31, by decide⟩
theorem test_reattachAndFunctionLevelResets_7c : ∃ (s : State) (port : Bool) (n : Nat), (n = 0 ∨ 31 < n ∨ (s.port port).vfEnable = true) :=
  ⟨wLinks {}, true, 32, by decide⟩
theorem test_reattachAndFunctionLevelResets_7d : ∃ (s : State) (port : Bool) (n : Nat), (s.port port).vfEnable = true :=
  ⟨wPorts { linkUp := true, vfEnable := true, numVfs := 1 } {}, false, 1, by decide⟩
theorem test_reattachAndFunctionLevelResets_7e : ∃ (s : State) (port : Bool) (n : Nat), (s.port port).vfEnable = false :=
  ⟨wLinks {}, true, 0, by decide⟩

/-- Basin 3 serves and runs a command in entry 5. -/
def wFault (x : Basin) : State :=
  (State.reset.setBasin 3 { x with st := .serving, role := some 3 }).setCmd 5 { wCmd with basin := some 3, firstBasin := some 3, phase := .running }
/-- The same with the command's fault in retest. -/
def wRetest (c : Cmd) : State :=
  (State.reset.setBasin 3 { st := .serving, role := some 3, retest := [(3, some 5, 0)] }).setCmd 5
    { c with basin := some 3, firstBasin := some 3, phase := .retest }
/-- The same with basin 4 serving too, under a Layout whose shared pool is all roles. -/
def wRetestOther (c : Cmd) : State := { (wRetest c).setBasin 4 { st := .serving, role := some 4 } with lay := { active := some { shared := 0xFF } } }

theorem test_detectedFaultsRetestReplayAndRetire_1 : ∃ (s : State) (b el : Nat) (e : Option Nat), FewFaults s b :=
  ⟨wFault {}, 3, 5, some 5, by unfold FewFaults; decide +kernel⟩
theorem test_detectedFaultsRetestReplayAndRetire_2b : ∃ (s : State) (b j e : Nat), FewFaults s b ∧ j < 8 :=
  ⟨wFault {}, 3, 7, 5, by unfold FewFaults; decide +kernel⟩
theorem test_detectedFaultsRetestReplayAndRetire_2c : ∃ (s : State) (b j e : Nat), FewFaults s b ∧ (j = 8 ∨ j = 9) :=
  ⟨wFault {}, 3, 9, 5, by unfold FewFaults; decide +kernel⟩
theorem test_detectedFaultsRetestReplayAndRetire_2 : ∃ (s : State) (b j e : Nat), FewFaults s b :=
  ⟨wFault {}, 3, 7, 5, by unfold FewFaults; decide +kernel⟩
theorem test_detectedFaultsRetestReplayAndRetire_3 : ∃ (s u : State) (b : Nat) (x : Sys2Proof.Unit) (e : Option Nat), u = (({ s with wei := { s.wei with tagFails := s.wei.tagFails + 1, event := s.wei.event.set 5 } } : State)).assertSource 14 ∧ (x = .vault ∨ x = .sluice ∨ x = .cistern ∨ x = .fountainhead ∨ x = .spring ∨ x = .grotto) ∧ FewFaults u b :=
  ⟨wFault {}, (({ wFault {} with wei := { tagFails := 1, event := ({} : Events).set 5 } } : State)).assertSource 14, 3, .vault, some 5, by unfold FewFaults; decide +kernel⟩
theorem test_detectedFaultsRetestReplayAndRetire_4 : ∃ (s : State) (b : Nat), b < 8 :=
  ⟨State.reset, 7, by decide⟩
theorem test_detectedFaultsRetestReplayAndRetire_5 : ∃ (s : State) (b : Nat) (e : Option Nat), FewFaults s b ∧ (s.basin b).retest = [] :=
  ⟨wFault {}, 3, some 5, by unfold FewFaults; decide +kernel⟩
theorem test_detectedFaultsRetestReplayAndRetire_6b : ∃ (s : State) (e : Option Nat), (∀ t, s.fnt.lastFault = some t → t + 10000000000 < s.tbs.now) :=
  ⟨State.reset, none, by intro t h; cases h⟩
theorem test_detectedFaultsRetestReplayAndRetire_6c : ∃ (s : State) (e : Option Nat), s.fnt.lastFault = some 0 ∧ s.tbs.now ≤ 0 + 10000000000 :=
  ⟨{ State.reset with fnt := { lastFault := some 0 } }, none, by decide⟩
theorem test_detectedFaultsRetestReplayAndRetire_7b : ∃ (s : State) (b e d idx : Nat) (c : Cmd) (r : List (Nat × Option Nat × Nat)), (s.basin b).retest = (d, some e, idx) :: r ∧ (s.basin b).st = .serving ∧ s.cmd e = some c ∧ c.phase = .retest ∧ c.usedOther = false ∧ c.usedSame = true ∧ otherComes s c = true :=
  ⟨wRetestOther { wCmd with usedSame := true }, 3, 5, 3, 0, { wCmd with basin := some 3, firstBasin := some 3, phase := .retest, usedSame := true }, [], by decide +kernel⟩
theorem test_detectedFaultsRetestReplayAndRetire_7c : ∃ (s : State) (b e d idx : Nat) (c : Cmd) (r : List (Nat × Option Nat × Nat)), (s.basin b).retest = (d, some e, idx) :: r ∧ (s.basin b).st = .serving ∧ s.cmd e = some c ∧ c.phase = .retest ∧ (c.usedOther = true ∨ (c.usedSame = true ∧ otherComes s c = false)) :=
  ⟨wRetest { wCmd with usedSame := true }, 3, 5, 3, 0, { wCmd with basin := some 3, firstBasin := some 3, phase := .retest, usedSame := true }, [], by decide +kernel⟩
theorem test_detectedFaultsRetestReplayAndRetire_7d : ∃ (s : State) (b e d idx : Nat) (c : Cmd) (r : List (Nat × Option Nat × Nat)), (s.basin b).retest = (d, some e, idx) :: r ∧ (s.basin b).st = .serving ∧ s.cmd e = some c ∧ c.phase = .retest ∧ (c.usedOther = true ∨ (c.usedSame = true ∧ otherComes s c = false)) :=
  ⟨wRetest { wCmd with usedOther := true, verdict := .allow }, 3, 5, 3, 0, { wCmd with basin := some 3, firstBasin := some 3, phase := .retest, usedOther := true, verdict := .allow }, [], by decide +kernel⟩
theorem test_detectedFaultsRetestReplayAndRetire_7 : ∃ (s : State) (b e d idx : Nat) (c : Cmd) (r : List (Nat × Option Nat × Nat)), (s.basin b).retest = (d, some e, idx) :: r ∧ (s.basin b).st = .serving ∧ s.cmd e = some c ∧ c.phase = .retest :=
  ⟨wRetest wCmd, 3, 5, 3, 0, { wCmd with basin := some 3, firstBasin := some 3, phase := .retest }, [], by decide +kernel⟩
theorem test_detectedFaultsRetestReplayAndRetire_8 : ∃ (s : State) (b d idx : Nat) (a : Option Nat) (r : List (Nat × Option Nat × Nat)), b < 8 ∧ (s.basin b).retest = (d, a, idx) :: r ∧ (s.basin b).st = .serving :=
  ⟨wRetest wCmd, 3, 3, 0, some 5, [], by decide⟩
theorem test_detectedFaultsRetestReplayAndRetire_9 : ∃ (s : State) (b : Nat) (p : Bool), (s.basin b).retest = [] :=
  ⟨State.reset, 3, true, by decide⟩

/-- Basin 3 in a state, its DRBG seeded. -/
def wTest (x : Basin) : State := (State.reset.setBasin 3 x).setDrbg 3 { inst := true }
/-- An accepted keeper image is staged and basin 3 is being updated to it. -/
def wImage : StagedFw := { bytes := [], version := 9, accepted := true, digest := List.replicate 48 7 }
def wUpdate (fw : List FwEntry) : State :=
  { wTest { st := .testing, testFor := 4 } with
    fnt := { State.reset.fnt with staged := [(0, wImage)], op := .serving }, bsn := { updState := 1, updBasin := 3 }
    lay := { active := some { firmware := fw, spare := 7 } } }
/-- The same with a Layout whose spare is basin 7. -/
def wRoles (x : Basin) : State := { wTest x with lay := { active := some { spare := 7 } } }
def wFwEntry : FwEntry := { kind := 0, version := 9, digest := List.replicate 48 7 }

theorem test_selfTestsDrainsDiagnosisAndTheRollingUpdate_1b : ∃ (s : State) (b : Nat) (p : Bool), (s.basin b).st = .testing ∧ (s.basin b).testFor = 1 ∧ p = true ∧ (s.drbg b).inst = true :=
  ⟨wTest { st := .testing, testFor := 1, role := some 3 }, 3, true, by decide⟩
theorem test_selfTestsDrainsDiagnosisAndTheRollingUpdate_1c : ∃ (s : State) (b : Nat) (p : Bool), (s.basin b).st = .testing ∧ (s.basin b).testFor = 1 ∧ (p = false ∨ (s.drbg b).inst = false) :=
  ⟨wTest { st := .testing, testFor := 1, role := some 3 }, 3, false, by decide⟩
theorem test_selfTestsDrainsDiagnosisAndTheRollingUpdate_1 : ∃ (s : State) (b : Nat) (p : Bool), (s.basin b).st = .testing ∧ (s.basin b).testFor = 1 :=
  ⟨wTest { st := .testing, testFor := 1, role := some 3 }, 3, true, by decide⟩
theorem test_selfTestsDrainsDiagnosisAndTheRollingUpdate_2b : ∃ (s : State) (b r : Nat) (p : Bool) (l : Layout), (s.basin b).st = .testing ∧ (s.basin b).testFor = 2 ∧ (s.basin b).role.getD b = r ∧ s.lay.active = some l ∧ l.spare ≠ r ∧ p = true ∧ (s.drbg b).inst = true ∧ roleFilled s b r = true :=
  ⟨(wRoles { st := .testing, testFor := 2, role := some 3 }).setBasin 5 { st := .serving, role := some 3 }, 3, 3, true, { spare := 7 }, by decide⟩
theorem test_selfTestsDrainsDiagnosisAndTheRollingUpdate_2c : ∃ (s : State) (b r : Nat) (p : Bool) (l : Layout), (s.basin b).st = .testing ∧ (s.basin b).testFor = 2 ∧ (s.basin b).role.getD b = r ∧ s.lay.active = some l ∧ l.spare ≠ r ∧ p = true ∧ (s.drbg b).inst = true ∧ roleFilled s b r = false :=
  ⟨wRoles { st := .testing, testFor := 2 }, 3, 3, true, { spare := 7 }, by decide⟩
theorem test_selfTestsDrainsDiagnosisAndTheRollingUpdate_2d : ∃ (s : State) (b r : Nat) (p : Bool) (l : Layout), (s.basin b).st = .testing ∧ (s.basin b).testFor = 2 ∧ (s.basin b).role.getD b = r ∧ s.lay.active = some l ∧ l.spare ≠ r ∧ (p = false ∨ (s.drbg b).inst = false) :=
  ⟨wRoles { st := .testing, testFor := 2, role := some 3 }, 3, 3, false, { spare := 7 }, by decide⟩
theorem test_selfTestsDrainsDiagnosisAndTheRollingUpdate_2 : ∃ (s : State) (b r : Nat) (p : Bool) (l : Layout), (s.basin b).st = .testing ∧ (s.basin b).testFor = 2 ∧ (s.basin b).role.getD b = r ∧ s.lay.active = some l ∧ l.spare ≠ r :=
  ⟨wRoles { st := .testing, testFor := 2, role := some 3 }, 3, 3, true, { spare := 7 }, by decide⟩
theorem test_selfTestsDrainsDiagnosisAndTheRollingUpdate_3b : ∃ (s : State) (b r : Nat) (p : Bool), (s.basin b).st = .testing ∧ (s.basin b).testFor = 3 ∧ (s.basin b).subFor = some r ∧ p = false :=
  ⟨wTest { st := .testing, testFor := 3, subFor := some 5 }, 3, 5, false, by decide⟩
theorem test_selfTestsDrainsDiagnosisAndTheRollingUpdate_3 : ∃ (s : State) (b r : Nat) (p : Bool), (s.basin b).st = .testing ∧ (s.basin b).testFor = 3 ∧ (s.basin b).subFor = some r :=
  ⟨wTest { st := .testing, testFor := 3, subFor := some 5 }, 3, 5, true, by decide⟩
theorem test_selfTestsDrainsDiagnosisAndTheRollingUpdate_4b : ∃ (s : State) (b : Nat) (p : Bool), (s.basin b).st = .testing ∧ ((s.basin b).testFor = 5 ∨ (s.basin b).testFor = 7) ∧ p = false ∧ (s.basin b).testFor = 5 :=
  ⟨wTest { st := .testing, testFor := 5 }, 3, false, by decide⟩
theorem test_selfTestsDrainsDiagnosisAndTheRollingUpdate_4c : ∃ (s : State) (b : Nat) (p : Bool), (s.basin b).st = .testing ∧ ((s.basin b).testFor = 5 ∨ (s.basin b).testFor = 7) ∧ p = true ∧ (s.drbg b).inst = true ∧ listedFw s 0 (s.basin b).fwVersion (s.basin b).fwDigest = true :=
  ⟨{ wTest { st := .testing, testFor := 5, fwVersion := 9, fwDigest := List.replicate 48 7 } with lay := { active := some { firmware := [wFwEntry], spare := 7 } } }, 3, true, by decide⟩
theorem test_selfTestsDrainsDiagnosisAndTheRollingUpdate_4 : ∃ (s : State) (b : Nat) (p : Bool), (s.basin b).st = .testing ∧ ((s.basin b).testFor = 5 ∨ (s.basin b).testFor = 7) :=
  ⟨wTest { st := .testing, testFor := 7 }, 3, false, by decide⟩
theorem test_selfTestsDrainsDiagnosisAndTheRollingUpdate_5 : ∃ (s : State) (b : Nat) (p : Bool), (s.basin b).st ≠ .testing :=
  ⟨State.reset, 3, true, by decide⟩
theorem test_selfTestsDrainsDiagnosisAndTheRollingUpdate_6 : ∃ (s : State) (n : Nat), s.spare? = some n :=
  ⟨State.reset.setBasin 7 { st := .spare }, 7, by decide⟩
theorem test_selfTestsDrainsDiagnosisAndTheRollingUpdate_7b : ∃ (s : State) (b t0 : Nat), (s.basin b).drainFrom = some t0 ∧ (s.basin b).st = .draining ∧ s.tbs.now < t0 + 2000000 :=
  ⟨wTest { st := .draining, drainFrom := some 0 }, 3, 0, by decide⟩
theorem test_selfTestsDrainsDiagnosisAndTheRollingUpdate_7c : ∃ (s : State) (b t0 : Nat), (s.basin b).drainFrom = some t0 ∧ (s.basin b).st = .draining ∧ t0 + 2000000 ≤ s.tbs.now ∧ (s.basin b).testFor ≠ 4 :=
  ⟨{ wTest { st := .draining, drainFrom := some 0 } with tbs := { now := 2000000 } }, 3, 0, by decide⟩
theorem test_selfTestsDrainsDiagnosisAndTheRollingUpdate_7 : ∃ (s : State) (b t0 : Nat), (s.basin b).drainFrom = some t0 ∧ (s.basin b).st = .draining :=
  ⟨wTest { st := .draining, drainFrom := some 0 }, 3, 0, by decide⟩
theorem test_selfTestsDrainsDiagnosisAndTheRollingUpdate_8b : ∃ (s : State) (b : Nat) (p : Bool), ((s.basin b).st = .resetting ∨ (s.basin b).st = .retired ∨ ((s.basin b).st = .draining ∧ (s.basin b).testFor ≠ 4)) ∧ drainedBasin s b = true :=
  ⟨wTest { st := .resetting }, 3, true, by decide⟩
theorem test_selfTestsDrainsDiagnosisAndTheRollingUpdate_8c : ∃ (s : State) (b : Nat) (p : Bool), ((s.basin b).st = .resetting ∨ (s.basin b).st = .retired ∨ ((s.basin b).st = .draining ∧ (s.basin b).testFor ≠ 4)) ∧ drainedBasin s b = true :=
  ⟨wTest { st := .draining }, 3, false, by decide⟩
theorem test_selfTestsDrainsDiagnosisAndTheRollingUpdate_8d : ∃ (s : State) (b : Nat) (p : Bool), ((s.basin b).st = .resetting ∨ (s.basin b).st = .retired ∨ ((s.basin b).st = .draining ∧ (s.basin b).testFor ≠ 4)) ∧ drainedBasin s b = false :=
  ⟨wTest { st := .resetting, cas := { wiping := true } }, 3, true, by decide⟩
theorem test_selfTestsDrainsDiagnosisAndTheRollingUpdate_8 : ∃ (s : State) (b : Nat) (p : Bool), ((s.basin b).st = .resetting ∨ (s.basin b).st = .retired ∨ ((s.basin b).st = .draining ∧ (s.basin b).testFor ≠ 4)) :=
  ⟨wTest { st := .resetting }, 3, true, by decide⟩
theorem test_selfTestsDrainsDiagnosisAndTheRollingUpdate_9b : ∃ (s : State) (f : FnId) (i : StagedFw), f.vf = 0 ∧ s.fnExists f = true ∧ s.bsn.updState ≠ 1 ∧ (keeperImage s = some i ∧ listedFw s 0 i.version i.digest = true ∧ s.gateOp = .serving ∧ (∀ b ∈ basinNums, (s.basin b).st ≠ .testing ∧ (s.basin b).st ≠ .resetting) ∧ (∃ b ∈ basinNums, runsImage (s.basin b) i = false ∧ ((s.basin b).st = .spare ∨ (s.basin b).st = .serving ∨ (s.basin b).st = .parked))) :=
  ⟨{ (wUpdate [wFwEntry]).setBasin 3 { st := .serving } with bsn := {} }, ⟨false, 0⟩, wImage, by decide +kernel⟩
theorem test_selfTestsDrainsDiagnosisAndTheRollingUpdate_9c : ∃ (s : State) (f : FnId) (i : StagedFw), f.vf = 0 ∧ s.fnExists f = true ∧ s.bsn.updState ≠ 1 ∧ (keeperImage s = some i ∧ listedFw s 0 i.version i.digest = true ∧ s.gateOp = .serving ∧ (∀ b ∈ basinNums, (s.basin b).st ≠ .testing ∧ (s.basin b).st ≠ .resetting) ∧ (∀ b ∈ basinNums, runsImage (s.basin b) i = true ∨ ((s.basin b).st ≠ .spare ∧ (s.basin b).st ≠ .serving ∧ (s.basin b).st ≠ .parked))) :=
  ⟨{ (wUpdate [wFwEntry]).setBasin 3 { st := .serving, fwVersion := 9, fwDigest := List.replicate 48 7 } with bsn := {} }, ⟨false, 0⟩, wImage, by decide +kernel⟩
theorem test_selfTestsDrainsDiagnosisAndTheRollingUpdate_9d : ∃ (s : State) (f : FnId) (i : StagedFw), f.vf = 0 ∧ s.fnExists f = true ∧ s.bsn.updState ≠ 1 ∧ keeperImage s = some i ∧ listedFw s 0 i.version i.digest = false :=
  ⟨{ wUpdate [] with bsn := {} }, ⟨false, 0⟩, wImage, by decide +kernel⟩
theorem test_selfTestsDrainsDiagnosisAndTheRollingUpdate_9e : ∃ (s : State) (f : FnId) (i : StagedFw), f.vf = 0 ∧ s.fnExists f = true ∧ s.bsn.updState ≠ 1 ∧ keeperImage s = some i ∧ listedFw s 0 i.version i.digest = true ∧ s.gateOp ≠ .serving :=
  ⟨{ wUpdate [wFwEntry] with bsn := {}, gro := { sealAt := some 0 } }, ⟨false, 0⟩, wImage, by decide +kernel⟩
theorem test_selfTestsDrainsDiagnosisAndTheRollingUpdate_9 : ∃ (s : State) (f : FnId) (i : StagedFw), f.vf = 0 ∧ s.fnExists f = true ∧ s.bsn.updState ≠ 1 :=
  ⟨State.reset.setPort false { linkUp := true }, ⟨false, 0⟩, wImage, by decide⟩
theorem test_selfTestsDrainsDiagnosisAndTheRollingUpdate_10b : ∃ (s : State) (b : Nat) (i : StagedFw), b < 8 ∧ s.bsn.updState = 1 ∧ s.bsn.updBasin = b ∧ (s.basin b).testFor = 4 ∧ (s.basin b).st = .testing ∧ keeperImage s = some i ∧ listedFw s 0 i.version i.digest = true :=
  ⟨wUpdate [wFwEntry], 3, wImage, by decide +kernel⟩
theorem test_selfTestsDrainsDiagnosisAndTheRollingUpdate_10 : ∃ (s : State) (b : Nat) (i : StagedFw), b < 8 ∧ s.bsn.updState = 1 ∧ s.bsn.updBasin = b ∧ (s.basin b).testFor = 4 ∧ (s.basin b).st = .testing ∧ keeperImage s = some i :=
  ⟨wUpdate [], 3, wImage, by decide +kernel⟩
theorem test_selfTestsDrainsDiagnosisAndTheRollingUpdate_11b : ∃ (s : State) (b : Nat), s.bsn.updState = 1 ∧ s.bsn.updBasin = b ∧ (s.basin b).testFor = 4 ∧ (s.basin b).st = .draining ∧ drainedBasin s b = true :=
  ⟨(wUpdate [wFwEntry]).setBasin 3 { st := .draining, testFor := 4 }, 3, by decide⟩
theorem test_selfTestsDrainsDiagnosisAndTheRollingUpdate_11c : ∃ (s : State) (b : Nat), s.bsn.updState = 1 ∧ s.bsn.updBasin = b ∧ (s.basin b).testFor = 4 ∧ (s.basin b).st = .draining ∧ drainedBasin s b = false :=
  ⟨(wUpdate [wFwEntry]).setBasin 3 { st := .draining, testFor := 4, cas := { wiping := true } }, 3, by decide⟩
theorem test_selfTestsDrainsDiagnosisAndTheRollingUpdate_11d : ∃ (s : State) (b : Nat), s.bsn.updState = 1 ∧ s.bsn.updBasin = b ∧ (s.basin b).testFor = 4 ∧ (s.basin b).st = .resetting :=
  ⟨(wUpdate [wFwEntry]).setBasin 3 { st := .resetting, testFor := 4 }, 3, by decide⟩
theorem test_selfTestsDrainsDiagnosisAndTheRollingUpdate_11 : ∃ (s : State) (b : Nat), s.bsn.updState = 1 ∧ s.bsn.updBasin = b ∧ (s.basin b).testFor = 4 :=
  ⟨(wUpdate [wFwEntry]).setBasin 3 { st := .draining, testFor := 4 }, 3, by decide⟩

/-- A Cascade of basin 0 owned by entry 5, with a number 7 at slot 0x100 as the modulus of context 0, 3 at 0x110 and 6 at 0x120. -/
def wCascade : Cascade :=
  { owner := some 5
    slots := [(0x100, { data := 7, t := false, u := true }), (0x110, { data := 3, t := false, u := true }),
              (0x120, { data := 6, t := true, u := true })]
    ctxs := [(0, { s := 0x100, n := 1, taint := false, m := 7 })] }
def wCas : State := State.reset.setBasin 0 { st := .serving, cas := wCascade }
def wOp : CasOps := { nw := 0, ctx := 0, d := 0x200, a := 0x110, b := 0x120, c := 0x130, l := 16, mode := 0, entry := 5 }

/-- The same with KEY1 of entry 5 in the basin's key cache. -/
def wCasKey : State := (wCas.setCmd 5 wCmd).setBasin 0 { (wCas.basin 0) with
  cache := [{ handle := 0, record := { comps := [(0, [1, 2])] } }] }

theorem test_cascadeModularCommands_1 : ∃ (s : State) (b m : Nat) (o : CasOps), CasReady s b o ∧ o.a + 2 * (o.nw + 1) ≤ 4096 ∧ m = (s.basin b).cas.num o.a (o.nw + 1) ∧ m % 2 = 1 ∧ 1 < m :=
  ⟨wCas, 0, 7, { wOp with a := 0x100 }, by decide +kernel⟩
theorem test_cascadeModularCommands_2 : ∃ (s : State) (b m : Nat) (o : CasOps), CasReady s b o ∧ o.a + 2 * (o.nw + 1) ≤ 4096 ∧ m = (s.basin b).cas.num o.a (o.nw + 1) ∧ (m % 2 = 0 ∨ m = 1) :=
  ⟨wCas, 0, 6, { wOp with a := 0x120 }, by decide +kernel⟩
theorem test_cascadeModularCommands_3 : ∃ (s : State) (b : Nat) (o : CasOps) (c : CasCtx) (va vb : Nat), CasReady s b o ∧ o.d + (o.nw + 1) ≤ 4096 ∧ o.a + (o.nw + 1) ≤ 4096 ∧ o.b + (o.nw + 1) ≤ 4096 ∧ tabFind (s.basin b).cas.ctxs o.ctx = some c ∧ c.n = o.nw + 1 ∧ 1 < c.m ∧ c.m < 2 ^ (128 * (o.nw + 1)) ∧ va = (s.basin b).cas.num o.a (o.nw + 1) ∧ vb = (s.basin b).cas.num o.b (o.nw + 1) :=
  ⟨wCas, 0, wOp, { s := 0x100, n := 1, taint := false, m := 7 }, 3, 6, by decide +kernel⟩
theorem test_cascadeModularCommands_4 : ∃ (s : State) (b : Nat) (o : CasOps) (c : CasCtx), CasReady s b o ∧ o.d + (o.nw + 1) ≤ 4096 ∧ o.a + 2 * (o.nw + 1) ≤ 4096 ∧ tabFind (s.basin b).cas.ctxs o.ctx = some c ∧ c.n = o.nw + 1 ∧ 1 < c.m ∧ c.m < 2 ^ (128 * (o.nw + 1)) :=
  ⟨wCas, 0, wOp, { s := 0x100, n := 1, taint := false, m := 7 }, by decide +kernel⟩
theorem test_cascadeModularCommands_5 : ∃ (s : State) (b k : Nat) (o : CasOps) (c : CasCtx), CasReady s b o ∧ k = ceilDiv o.l 128 ∧ o.d + (o.nw + 1) ≤ 4096 ∧ o.a + (o.nw + 1) ≤ 4096 ∧ o.b + k ≤ 4096 ∧ 1 ≤ o.l ∧ o.l ≤ 128 * (o.nw + 1) + 32 ∧ tabFind (s.basin b).cas.ctxs o.ctx = some c ∧ c.n = o.nw + 1 ∧ 1 < c.m ∧ c.m < 2 ^ (128 * (o.nw + 1)) :=
  ⟨wCas, 0, 1, wOp, { s := 0x100, n := 1, taint := false, m := 7 }, by decide +kernel⟩
theorem test_cascadeModularCommands_6 : ∃ (s : State) (b : Nat) (o : CasOps), CasReady s b o ∧ o.d + (o.nw + 1) ≤ 4096 ∧ o.a + (o.nw + 1) ≤ 4096 ∧ o.b + (o.nw + 1) ≤ 4096 ∧ (∀ c ∈ tabFind (s.basin b).cas.ctxs o.ctx, c.n ≠ o.nw + 1) :=
  ⟨wCas, 0, { wOp with ctx := 1 }, by decide +kernel⟩

theorem test_cascadeNumbersKeysAndWipes_1 : ∃ (s : State) (b : Nat) (o : CasOps), CasReady s b o ∧ o.d + 2 * (o.nw + 1) ≤ 4096 ∧ o.a + (o.nw + 1) ≤ 4096 ∧ o.b + (o.nw + 1) ≤ 4096 :=
  ⟨wCas, 0, wOp, by decide +kernel⟩
theorem test_cascadeNumbersKeysAndWipes_2 : ∃ (s : State) (b : Nat) (o : CasOps), CasReady s b o ∧ (o.d + (o.nw + 1) ≤ o.a ∨ o.a + (o.nw + 1) ≤ o.d) ∧ o.d + (o.nw + 1) ≤ 4096 ∧ o.a + (o.nw + 1) ≤ 4096 ∧ o.c + o.l / 128 < 4096 :=
  ⟨wCas, 0, { wOp with d := 0x120 }, by decide +kernel⟩
theorem test_cascadeNumbersKeysAndWipes_3 : ∃ (s : State) (b : Nat) (o : CasOps), CasReady s b o ∧ o.d + (o.nw + 1) ≤ 4096 ∧ o.a + (o.nw + 1) ≤ 4096 ∧ o.b + (o.nw + 1) ≤ 4096 ∧ o.c + (o.nw + 1) ≤ 4096 :=
  ⟨wCas, 0, wOp, by decide +kernel⟩
theorem test_cascadeNumbersKeysAndWipes_4 : ∃ (s : State) (b : Nat) (o : CasOps) (r : Record) (v : Bytes), CasReady s b o ∧ o.d + (o.nw + 1) ≤ 4096 ∧ casRecord s b o = some r ∧ r.comps.find? (fun p => p.1 == o.mode % 16) = some (o.mode % 16, v) :=
  ⟨wCasKey, 0, wOp, { comps := [(0, [1, 2])] }, [1, 2], by decide +kernel⟩
theorem test_cascadeNumbersKeysAndWipes_5 : ∃ (s u : State) (b : Nat) (o : CasOps) (bs : Bytes), CasReady s b o ∧ o.d + (o.nw + 1) ≤ 4096 ∧ s.draw b (16 * (o.nw + 1)) = some (bs, u) :=
  ⟨wCas.setDrbg 0 { inst := true, pool := List.replicate 32 7 }, _, 0, wOp, List.replicate 16 7, by decide +kernel, by decide +kernel, rfl⟩
theorem test_cascadeNumbersKeysAndWipes_6 : ∃ (s : State) (b : Nat) (o : CasOps), CasReady s b o ∧ 1 ≤ o.l ∧ o.a + o.l ≤ 4096 :=
  ⟨wCas, 0, wOp, by decide +kernel⟩
theorem test_cascadeNumbersKeysAndWipes_7 : ∃ (s : State) (b : Nat) (o : CasOps), CasReady s b o ∧ 4096 < o.a + (o.nw + 1) :=
  ⟨wCas, 0, { wOp with a := 0xFFF, nw := 1 }, by decide +kernel⟩

/-- The Cascade of `wCas` with an ALG 6 sequence open whose output is slots 0x100 to 0x12F, one CHECK passed. -/
def wSeq : State := (wCas.setCmd 5 wCmd).setBasin 0 { (wCas.basin 0) with
  cas := { wCascade with seqOpen := true, seqAlg := 6, seqA := 0x100, seqL := 0x30, passed := 1 } }

theorem test_cascadeSequencesAndRelease_1b : ∃ (s : State) (b : Nat) (o : CasOps), CasReady s b o ∧ o.mode ≤ 9 ∧ o.a + o.l ≤ 4096 ∧ ((s.basin b).cas.slots.map Prod.fst).Nodup ∧ (s.basin b).cas.seqOpen = false :=
  ⟨wCas, 0, wOp, by decide +kernel⟩
theorem test_cascadeSequencesAndRelease_1c : ∃ (s : State) (b : Nat) (o : CasOps), CasReady s b o ∧ o.mode ≤ 9 ∧ o.a + o.l ≤ 4096 ∧ ((s.basin b).cas.slots.map Prod.fst).Nodup ∧ (s.basin b).cas.seqOpen = true :=
  ⟨wSeq, 0, wOp, by decide +kernel⟩
theorem test_cascadeSequencesAndRelease_1 : ∃ (s : State) (b : Nat) (o : CasOps), CasReady s b o ∧ o.mode ≤ 9 ∧ o.a + o.l ≤ 4096 ∧ ((s.basin b).cas.slots.map Prod.fst).Nodup :=
  ⟨wCas, 0, wOp, by decide +kernel⟩
theorem test_cascadeSequencesAndRelease_2b : ∃ (s : State) (b : Nat) (o : CasOps), CasReady s b o ∧ o.a + (o.nw + 1) ≤ 4096 ∧ o.b + (o.nw + 1) ≤ 4096 ∧ o.mode = 0 ∧ (s.basin b).cas.read o.a (o.nw + 1) = (s.basin b).cas.read o.b (o.nw + 1) :=
  ⟨wCas, 0, { wOp with b := 0x110 }, by decide +kernel⟩
theorem test_cascadeSequencesAndRelease_2c : ∃ (s : State) (b : Nat) (o : CasOps), CasReady s b o ∧ o.a + (o.nw + 1) ≤ 4096 ∧ o.b + (o.nw + 1) ≤ 4096 ∧ o.mode = 0 ∧ (s.basin b).cas.read o.a (o.nw + 1) ≠ (s.basin b).cas.read o.b (o.nw + 1) :=
  ⟨wCas, 0, wOp, by decide +kernel⟩
theorem test_cascadeSequencesAndRelease_2 : ∃ (s : State) (b : Nat) (o : CasOps), CasReady s b o ∧ o.a + (o.nw + 1) ≤ 4096 ∧ o.b + (o.nw + 1) ≤ 4096 ∧ o.mode = 0 :=
  ⟨wCas, 0, wOp, by decide +kernel⟩
theorem test_cascadeSequencesAndRelease_3b : ∃ (s : State) (b : Nat) (o : CasOps), CasReady s b o ∧ o.a + o.l ≤ 4096 ∧ Releasable s b o :=
  ⟨wSeq, 0, { wOp with a := 0x120, l := 16 }, by unfold Releasable; decide +kernel⟩
theorem test_cascadeSequencesAndRelease_3c : ∃ (s : State) (b : Nat) (o : CasOps), CasReady s b o ∧ o.a + o.l ≤ 4096 ∧ ¬ Releasable s b o :=
  ⟨wSeq, 0, { wOp with a := 0x120, l := 17 }, by unfold Releasable; decide +kernel⟩
theorem test_cascadeSequencesAndRelease_3 : ∃ (s : State) (b : Nat) (o : CasOps), CasReady s b o ∧ o.a + o.l ≤ 4096 :=
  ⟨wSeq, 0, { wOp with a := 0x120, l := 16 }, by decide +kernel⟩
theorem test_cascadeSequencesAndRelease_4 : ∃ (s : State) (b : Nat) (o : CasOps) (c : Cmd), CasReady s b o ∧ o.a + o.l ≤ 4096 ∧ Releasable s b o ∧ storesKeys (s.basin b).cas.seqAlg = true ∧ s.cmd o.entry = some c :=
  ⟨wSeq, 0, { wOp with a := 0x120, l := 16 }, wCmd, by unfold Releasable; decide +kernel⟩

theorem test_cascadeWindowsEndsAndWipes_1b : ∃ (s : State) (b : Nat) (v : BitVec 128), b < 8 ∧ (s.basin b).cas.running = none ∧ (s.basin b).cas.wiping = false ∧ ((s.basin b).cas.slot (s.basin b).cas.winAddr).t = false :=
  ⟨wCas, 0, 9, by decide +kernel⟩
theorem test_cascadeWindowsEndsAndWipes_1c : ∃ (s : State) (b : Nat) (v : BitVec 128), b < 8 ∧ (s.basin b).cas.running = none ∧ (s.basin b).cas.wiping = false ∧ ((s.basin b).cas.slot (s.basin b).cas.winAddr).t = true :=
  ⟨wCas.setBasin 0 { (wCas.basin 0) with cas := { wCascade with winAddr := 0x120 } }, 0, 9, by decide +kernel⟩
theorem test_cascadeWindowsEndsAndWipes_1 : ∃ (s : State) (b : Nat) (v : BitVec 128), b < 8 ∧ (s.basin b).cas.running = none ∧ (s.basin b).cas.wiping = false :=
  ⟨wCas, 0, 9, by decide +kernel⟩
theorem test_cascadeWindowsEndsAndWipes_2 : ∃ (s : State) (b : Nat) (v : BitVec 128), b < 8 ∧ ((s.basin b).cas.running ≠ none ∨ (s.basin b).cas.wiping = true) :=
  ⟨wCas.setBasin 0 { (wCas.basin 0) with cas := { wCascade with running := some (2, wOp) } }, 0, 9, by decide +kernel⟩
theorem test_cascadeWindowsEndsAndWipes_3 : ∃ (s : State) (b op : Nat) (o : CasOps), b < 8 ∧ (s.basin b).cas.running = some (op, o) ∧ (s.basin b).cas.queue = [] :=
  ⟨wCas.setBasin 0 { (wCas.basin 0) with cas := { wCascade with running := some (2, wOp) } }, 0, 2, wOp, by decide +kernel⟩
theorem test_cascadeWindowsEndsAndWipes_4 : ∃ (s : State) (b : Nat), b < 8 ∧ (s.basin b).cas.running = none ∧ (s.basin b).cas.wiping = true ∧ ((s.basin b).cas.slots.map Prod.fst).Nodup :=
  ⟨wCas.setBasin 0 { (wCas.basin 0) with cas := { wCascade with wiping := true } }, 0, by decide +kernel⟩

theorem test_cascadeLatticeCommands_1 : ∃ (s : State) (b : Nat) (o : CasOps) (x : Cascade), CasReady s b o ∧ x = (s.basin b).cas ∧ o.d + 64 ≤ 4096 ∧ o.a + 64 ≤ 4096 ∧ o.b + 64 ≤ 4096 :=
  ⟨wCas, 0, wOp, wCascade, by decide +kernel⟩
theorem test_cascadeLatticeCommands_2 : ∃ (s : State) (b : Nat) (o : CasOps) (x : Cascade), CasReady s b o ∧ x = (s.basin b).cas ∧ o.d + 64 ≤ 4096 ∧ o.a + 64 ≤ 4096 ∧ o.b + 64 ≤ 4096 ∧ o.mode ≤ 5 :=
  ⟨wCas, 0, { wOp with mode := 5 }, wCascade, by decide +kernel⟩
theorem test_cascadeLatticeCommands_3b : ∃ (s : State) (b d : Nat) (o : CasOps) (x : Cascade), CasReady s b o ∧ x = (s.basin b).cas ∧ d = o.mode % 128 ∧ 1 ≤ d ∧ d ≤ 32 ∧ o.d + 64 ≤ 4096 ∧ o.a + 64 ≤ 4096 :=
  ⟨wCas, 0, 32, { wOp with mode := 32 }, wCascade, by decide +kernel⟩
theorem test_cascadeLatticeCommands_3 : ∃ (s : State) (b d : Nat) (o : CasOps) (x : Cascade), CasReady s b o ∧ x = (s.basin b).cas ∧ d = o.mode % 128 ∧ 1 ≤ d ∧ d ≤ 32 :=
  ⟨wCas, 0, 10, { wOp with mode := 138 }, wCascade, by decide +kernel⟩
theorem test_cascadeLatticeCommands_4b : ∃ (s : State) (b ln : Nat) (o : CasOps) (x : Cascade), CasReady s b o ∧ x = (s.basin b).cas ∧ o.d + 64 ≤ 4096 ∧ o.a + ceilDiv o.l 16 ≤ 4096 ∧ o.mode ≤ 5 ∧ (x.tainted o.a (ceilDiv o.l 16) = true ∧ (o.mode = 0 ∨ o.mode = 1 ∨ o.mode = 5)) :=
  ⟨wCas, 0, 8, { wOp with a := 0x120, mode := 5, l := 32 }, wCascade, by decide +kernel⟩
theorem test_cascadeLatticeCommands_4c : ∃ (s : State) (b ln : Nat) (o : CasOps) (x : Cascade), CasReady s b o ∧ x = (s.basin b).cas ∧ o.d + 64 ≤ 4096 ∧ o.a + ceilDiv o.l 16 ≤ 4096 ∧ o.mode ≤ 5 ∧ ((x.tainted o.a (ceilDiv o.l 16) = false ∨ (2 ≤ o.mode ∧ o.mode ≤ 4)) ∧ (freeLanes (s.basin b) true).head? = some ln) :=
  ⟨wCas, 0, 8, { wOp with mode := 5, l := 32 }, wCascade, by decide +kernel⟩
theorem test_cascadeLatticeCommands_4 : ∃ (s : State) (b ln : Nat) (o : CasOps) (x : Cascade), CasReady s b o ∧ x = (s.basin b).cas ∧ o.d + 64 ≤ 4096 ∧ o.a + ceilDiv o.l 16 ≤ 4096 ∧ o.mode ≤ 5 :=
  ⟨wCas, 0, 8, { wOp with mode := 5, l := 32 }, wCascade, by decide +kernel⟩

/-- A basin command of an opcode with its keys, OUT_LEN and PARAMS, ready on basin 0. -/
def wRun (op : Nat) (k1 k2 : BitVec 64) (outLen : Nat) (ps : Bytes) : Cmd :=
  { wCmd with
    desc := padTo 128 (natLe 2 op ++ List.replicate 14 0 ++ natLe 8 k1.toNat ++ natLe 8 k2.toNat ++ List.replicate 12 0 ++ natLe 4 outLen
      ++ List.replicate 16 0 ++ ps)
    basin := some 0, phase := .running, listsDone := true, inputDone := true, ej := 0, segs := 0 }
/-- Entry 3 runs on basin 0, whose pool holds 64 bytes; no key record exists. -/
def wReady (c : Cmd) : State := (State.reset.setCmd 3 c).setDrbg 0 { inst := true, pool := List.replicate 64 9 }

theorem test_pinBlocksAreTranslatedAndVerified_1 : ∃ (f : Nat) (pin : List Nat) (rnd : Bytes), (f = 0 ∨ f = 1 ∨ f = 3 ∨ f = 4) ∧ 4 ≤ pin.length ∧ pin.length ≤ 12 ∧ (∀ x ∈ pin, x ≤ 9) ∧ rnd.length = 8 :=
  ⟨3, [1, 2, 3, 9], List.replicate 8 0xF3, by decide⟩
theorem test_pinBlocksAreTranslatedAndVerified_2 : ∃ (s : State) (e b i o : Nat) (c : Cmd) (x : Option (List Nat)), s.ready e (· == 0x0101) = some c ∧ c.basin = some b ∧ i = param c.desc 0 1 ∧ o = param c.desc 1 1 ∧ x = pinOf i (pinField i (pinInKey c.desc (recOf s c (key1Of c.desc))).1 (pinInKey c.desc (recOf s c (key1Of c.desc))).2 (paramBytes c.desc 0x14 11) (paramBytes c.desc 0x28 16)) ∧ (o = 0 ∨ 8 ≤ (s.drbg b).pool.length ∨ x = none) :=
  ⟨wReady (wRun 0x0101 0 0 8 [1, 1]), 3, 0, 1, 1, wRun 0x0101 0 0 8 [1, 1], pinOf 1 (pinField 1 0 [] (List.replicate 11 0) (List.replicate 16 0)), by and_intros <;> first | decide +kernel | rfl⟩
theorem test_pinBlocksAreTranslatedAndVerified_3 : ∃ (s : State) (e b i : Nat) (c : Cmd), s.ready e (· == 0x0102) = some c ∧ c.basin = some b ∧ i = param c.desc 0 1 :=
  ⟨wReady (wRun 0x0102 0 0 0 [1]), 3, 0, 1, wRun 0x0102 0 0 0 [1], by decide +kernel⟩

theorem test_macsCryptogramsAndCardCodes_2 : ∃ (ds : List Nat), ds.length ≤ 6 ∧ (∀ x ∈ ds, x ≤ 9) :=
  ⟨[1, 2, 3, 9], by decide⟩
theorem test_macsCryptogramsAndCardCodes_4 : ∃ (s : State) (e b : Nat) (c : Cmd) (m : Bytes), s.ready e (· == 0x0110) = some c ∧ c.basin = some b ∧ m = MacBytes c.desc (macKey c.desc (recOf s c (key1Of c.desc))).1 (macKey c.desc (recOf s c (key1Of c.desc))).2 c.input :=
  ⟨wReady (wRun 0x0110 0 0 0 [0, 0, 12]), 3, 0, wRun 0x0110 0 0 0 [0, 0, 12], macOf (wRun 0x0110 0 0 0 [0, 0, 12]).desc (recOf (wReady (wRun 0x0110 0 0 0 [0, 0, 12])) (wRun 0x0110 0 0 0 [0, 0, 12]) 0) [], by exact ⟨by decide +kernel, rfl, rfl⟩⟩
theorem test_macsCryptogramsAndCardCodes_5 : ∃ (s : State) (e b : Nat) (c : Cmd), s.ready e (· == 0x0111) = some c ∧ c.basin = some b :=
  ⟨wReady (wRun 0x0111 0 0 0 [0, 0, 12]), 3, 0, wRun 0x0111 0 0 0 [0, 0, 12], by decide +kernel⟩
theorem test_macsCryptogramsAndCardCodes_6 : ∃ (s v : State) (e k b a : Nat) (c g : Cmd), s.ready e (· == 0x0110) = some c ∧ v.ready k (· == 0x0111) = some g ∧ c.basin = some b ∧ g.basin = some a ∧ macKey g.desc (recOf v g (key1Of g.desc)) = macKey c.desc (recOf s c (key1Of c.desc)) ∧ param g.desc 0 1 = param c.desc 0 1 ∧ param g.desc 1 1 = param c.desc 1 1 ∧ param g.desc 2 1 = param c.desc 2 1 ∧ g.input = c.input :=
  ⟨wReady (wRun 0x0110 0 0 0 [0, 0, 12]), wReady (wRun 0x0111 0 0 0 [0, 0, 12]), 3, 3, 0, 0, wRun 0x0110 0 0 0 [0, 0, 12], wRun 0x0111 0 0 0 [0, 0, 12], by decide +kernel⟩
theorem test_macsCryptogramsAndCardCodes_7 : ∃ (s : State) (e b : Nat) (c : Cmd) (r : Record) (m sk : Bytes), s.ready e (· == 0x0120) = some c ∧ c.basin = some b ∧ r = recOf s c (key1Of c.desc) ∧ sk = arqcSession c.desc r ∧ m = (if isTdes r.alg then macAlg3 sk (pad9797 (param c.desc 1 1) 8 c.input) else aesCmac sk c.input).take 8 :=
  ⟨wReady (wRun 0x0120 0 0 0 []), 3, 0, wRun 0x0120 0 0 0 [], {}, (aesCmac (arqcSession (wRun 0x0120 0 0 0 []).desc {}) []).take 8, arqcSession (wRun 0x0120 0 0 0 []).desc {}, by exact ⟨by decide +kernel, rfl, by decide +kernel, rfl, rfl⟩⟩
theorem test_macsCryptogramsAndCardCodes_8 : ∃ (s : State) (e b : Nat) (c : Cmd), s.ready e (· == 0x0130) = some c ∧ c.basin = some b :=
  ⟨wReady (wRun 0x0130 0 0 0 [3]), 3, 0, wRun 0x0130 0 0 0 [3], by decide +kernel⟩
theorem test_macsCryptogramsAndCardCodes_9 : ∃ (s : State) (e b : Nat) (c : Cmd), s.ready e (· == 0x0131) = some c ∧ c.basin = some b :=
  ⟨wReady (wRun 0x0131 0 0 0 [3]), 3, 0, wRun 0x0131 0 0 0 [3], by decide +kernel⟩
theorem test_macsCryptogramsAndCardCodes_10 : ∃ (s v : State) (e k b a : Nat) (c g : Cmd), s.ready e (· == 0x0130) = some c ∧ v.ready k (· == 0x0131) = some g ∧ c.basin = some b ∧ g.basin = some a ∧ (recOf v g (key1Of g.desc)).key = (recOf s c (key1Of c.desc)).key ∧ cardDigits g.desc = cardDigits c.desc ∧ param g.desc 0 1 = param c.desc 0 1 :=
  ⟨wReady (wRun 0x0130 0 0 0 [3]), wReady (wRun 0x0131 0 0 0 [3]), 3, 3, 0, 0, wRun 0x0130 0 0 0 [3], wRun 0x0131 0 0 0 [3], by decide +kernel⟩

/-- One record of one numeral, RADIX 10, WIDTH 1. -/
def wToken (op : Nat) : Cmd := { wRun op 0 0 1 [10, 0, 0, 0, 1, 0, 1, 0, 1] with input := [9] }

def wFatal (s : State) : State := { s with spg := { s.spg with fatal := true } }
/-- One seed of source A, which passes. -/
def wSeeded : State :=
  let s := wReady (wRun 0x0230 0 0 64 [1])
  { s with spg := { s.spg with buffer := [{ bytes := [], fromA := true, fromB := false, at_ := 0 }], srcA := { st := 1 } } }
/-- A RANDOM not yet dispatched with a deadline of n ns from its start at 0. -/
def wHeldRandom (n : Nat) : Cmd := { wCmd with desc := padTo 128 (natLe 2 0x0230 ++ List.replicate 2 0 ++ natLe 4 n) }

theorem test_sealsOpensAndTokens_1b : ∃ (s : State) (e b : Nat) (c : Cmd) (k n aad pt : Bytes), s.ready e (· == 0x0201) = some c ∧ c.basin = some b ∧ k = (recOf s c (key1Of c.desc)).key ∧ n = c.nonce.getD [] ∧ aad = c.input.take (param c.desc 2 2) ∧ pt = c.input.drop (param c.desc 2 2) ∧ param c.desc 0 1 = 0 :=
  ⟨wReady (wRun 0x0201 0 0 0 [0, 12]), 3, 0, wRun 0x0201 0 0 0 [0, 12], [], [], [], [], by decide +kernel⟩
theorem test_sealsOpensAndTokens_1c : ∃ (s : State) (e b : Nat) (c : Cmd) (k n aad pt : Bytes), s.ready e (· == 0x0201) = some c ∧ c.basin = some b ∧ k = (recOf s c (key1Of c.desc)).key ∧ n = c.nonce.getD [] ∧ aad = c.input.take (param c.desc 2 2) ∧ pt = c.input.drop (param c.desc 2 2) ∧ param c.desc 0 1 ≠ 0 ∧ param c.desc 0 1 ≠ 2 :=
  ⟨wReady (wRun 0x0201 0 0 0 [1, 12]), 3, 0, wRun 0x0201 0 0 0 [1, 12], [], [], [], [], by decide +kernel⟩
theorem test_sealsOpensAndTokens_1d : ∃ (s : State) (e b : Nat) (c : Cmd) (k n aad pt : Bytes), s.ready e (· == 0x0201) = some c ∧ c.basin = some b ∧ k = (recOf s c (key1Of c.desc)).key ∧ n = c.nonce.getD [] ∧ aad = c.input.take (param c.desc 2 2) ∧ pt = c.input.drop (param c.desc 2 2) ∧ param c.desc 0 1 = 2 :=
  ⟨wReady (wRun 0x0201 0 0 0 [2]), 3, 0, wRun 0x0201 0 0 0 [2], [], [], [], [], by decide +kernel⟩
theorem test_sealsOpensAndTokens_1 : ∃ (s : State) (e b : Nat) (c : Cmd) (k n aad pt : Bytes), s.ready e (· == 0x0201) = some c ∧ c.basin = some b ∧ k = (recOf s c (key1Of c.desc)).key ∧ n = c.nonce.getD [] ∧ aad = c.input.take (param c.desc 2 2) ∧ pt = c.input.drop (param c.desc 2 2) :=
  ⟨wReady (wRun 0x0201 0 0 0 [0, 12]), 3, 0, wRun 0x0201 0 0 0 [0, 12], [], [], [], [], by decide +kernel⟩
theorem test_sealsOpensAndTokens_2 : ∃ (s : State) (e b : Nat) (c : Cmd) (k n aad ct tag : Bytes), s.ready e (· == 0x0202) = some c ∧ c.basin = some b ∧ k = (recOf s c (key1Of c.desc)).key ∧ n = paramBytes c.desc 0x10 12 ∧ aad = c.input.take (param c.desc 2 2) ∧ ct = c.input.drop (param c.desc 2 2) ∧ tag = paramBytes c.desc 0x30 (param c.desc 1 1) ∧ param c.desc 0 1 ≠ 2 :=
  ⟨wReady (wRun 0x0202 0 0 0 [0, 12]), 3, 0, wRun 0x0202 0 0 0 [0, 12], [], List.replicate 12 0, [], [], List.replicate 12 0, by decide +kernel⟩
theorem test_sealsOpensAndTokens_3 : ∃ (s : State) (e b : Nat) (c : Cmd), s.ready e (· == 0x0202) = some c ∧ c.basin = some b ∧ param c.desc 0 1 = 2 :=
  ⟨wReady (wRun 0x0202 0 0 0 [2]), 3, 0, wRun 0x0202 0 0 0 [2], by decide +kernel⟩
theorem test_sealsOpensAndTokens_4b : ∃ (s : State) (e b radix : Nat) (c : Cmd) (rs : List (Bytes × List Nat)), s.ready e (· == 0x0210) = some c ∧ c.basin = some b ∧ radix = param c.desc 0 4 ∧ rs = tokenRecords (param c.desc 7 1) (param c.desc 4 2) (param c.desc 6 1) (param c.desc 8 2) c.input ∧ (∀ r ∈ rs, ∀ x ∈ r.2, x < radix) :=
  ⟨wReady (wToken 0x0210), 3, 0, 10, (wToken 0x0210), [([], [9])], by decide +kernel⟩
theorem test_sealsOpensAndTokens_4c : ∃ (s : State) (e b radix : Nat) (c : Cmd) (rs : List (Bytes × List Nat)), s.ready e (· == 0x0210) = some c ∧ c.basin = some b ∧ radix = param c.desc 0 4 ∧ rs = tokenRecords (param c.desc 7 1) (param c.desc 4 2) (param c.desc 6 1) (param c.desc 8 2) c.input ∧ (∃ x ∈ (rs.getD 0 ([], [])).2, radix ≤ x) :=
  ⟨wReady { (wToken 0x0210) with input := [10] }, 3, 0, 10, { (wToken 0x0210) with input := [10] }, [([], [10])], by decide +kernel⟩
theorem test_sealsOpensAndTokens_4 : ∃ (s : State) (e b radix : Nat) (c : Cmd) (rs : List (Bytes × List Nat)), s.ready e (· == 0x0210) = some c ∧ c.basin = some b ∧ radix = param c.desc 0 4 ∧ rs = tokenRecords (param c.desc 7 1) (param c.desc 4 2) (param c.desc 6 1) (param c.desc 8 2) c.input :=
  ⟨wReady (wToken 0x0210), 3, 0, 10, (wToken 0x0210), [([], [9])], by decide +kernel⟩
theorem test_sealsOpensAndTokens_5b : ∃ (s : State) (e b radix : Nat) (c : Cmd) (rs : List (Bytes × List Nat)), s.ready e (· == 0x0211) = some c ∧ c.basin = some b ∧ radix = param c.desc 0 4 ∧ rs = tokenRecords (param c.desc 7 1) (param c.desc 4 2) (param c.desc 6 1) (param c.desc 8 2) c.input ∧ (∀ r ∈ rs, ∀ x ∈ r.2, x < radix) :=
  ⟨wReady (wToken 0x0211), 3, 0, 10, (wToken 0x0211), [([], [9])], by decide +kernel⟩
theorem test_sealsOpensAndTokens_5c : ∃ (s : State) (e b radix : Nat) (c : Cmd) (rs : List (Bytes × List Nat)), s.ready e (· == 0x0211) = some c ∧ c.basin = some b ∧ radix = param c.desc 0 4 ∧ rs = tokenRecords (param c.desc 7 1) (param c.desc 4 2) (param c.desc 6 1) (param c.desc 8 2) c.input ∧ (∃ x ∈ (rs.getD 0 ([], [])).2, radix ≤ x) :=
  ⟨wReady { (wToken 0x0211) with input := [10] }, 3, 0, 10, { (wToken 0x0211) with input := [10] }, [([], [10])], by decide +kernel⟩
theorem test_sealsOpensAndTokens_5 : ∃ (s : State) (e b radix : Nat) (c : Cmd) (rs : List (Bytes × List Nat)), s.ready e (· == 0x0211) = some c ∧ c.basin = some b ∧ radix = param c.desc 0 4 ∧ rs = tokenRecords (param c.desc 7 1) (param c.desc 4 2) (param c.desc 6 1) (param c.desc 8 2) c.input :=
  ⟨wReady (wToken 0x0211), 3, 0, 10, (wToken 0x0211), [([], [9])], by decide +kernel⟩

theorem test_digestsMacsAndRandomBytes_1 : ∃ (s : State) (e b : Nat) (c : Cmd), s.ready e (· == 0x0220) = some c ∧ c.basin = some b :=
  ⟨wReady (wRun 0x0220 0 0 32 [0x10]), 3, 0, wRun 0x0220 0 0 32 [0x10], by decide +kernel⟩
theorem test_digestsMacsAndRandomBytes_2 : ∃ (s : State) (e b : Nat) (c : Cmd), s.ready e (· == 0x0221) = some c ∧ c.basin = some b :=
  ⟨wReady (wRun 0x0221 0 0 32 [0x10, 32]), 3, 0, wRun 0x0221 0 0 32 [0x10, 32], by decide +kernel⟩
theorem test_digestsMacsAndRandomBytes_3b : ∃ (s : State) (e b n : Nat) (c : Cmd), s.ready e (· == 0x0230) = some c ∧ c.basin = some b ∧ n = outLenOf c.desc ∧ 1 ≤ n ∧ param c.desc 0 1 = 0 ∧ n ≤ (s.drbg b).pool.length :=
  ⟨wReady (wRun 0x0230 0 0 64 []), 3, 0, 64, wRun 0x0230 0 0 64 [], by decide +kernel⟩
theorem test_digestsMacsAndRandomBytes_3c : ∃ (s : State) (e b n : Nat) (c : Cmd), s.ready e (· == 0x0230) = some c ∧ c.basin = some b ∧ n = outLenOf c.desc ∧ 1 ≤ n ∧ param c.desc 0 1 = 0 ∧ (s.drbg b).pool.length < n ∧ s.spg.fatal = true :=
  ⟨wFatal (wReady (wRun 0x0230 0 0 65 [])), 3, 0, 65, wRun 0x0230 0 0 65 [], by decide +kernel⟩
theorem test_digestsMacsAndRandomBytes_3d : ∃ (s : State) (e b n : Nat) (c : Cmd), s.ready e (· == 0x0230) = some c ∧ c.basin = some b ∧ n = outLenOf c.desc ∧ 1 ≤ n ∧ param c.desc 0 1 = 0 ∧ (s.drbg b).pool.length < n ∧ s.spg.fatal = true ∧ c.verdict = .allow :=
  ⟨wFatal (wReady { wRun 0x0230 0 0 65 [] with verdict := .allow }), 3, 0, 65, { wRun 0x0230 0 0 65 [] with verdict := .allow }, by decide +kernel⟩
theorem test_digestsMacsAndRandomBytes_3e : ∃ (s : State) (e b n : Nat) (c : Cmd), s.ready e (· == 0x0230) = some c ∧ c.basin = some b ∧ n = outLenOf c.desc ∧ 1 ≤ n ∧ param c.desc 0 1 = 0 ∧ (s.drbg b).pool.length < n ∧ s.spg.fatal = false ∧ (s.drbg b).inst = false :=
  ⟨State.reset.setCmd 3 (wRun 0x0230 0 0 65 []), 3, 0, 65, wRun 0x0230 0 0 65 [], by decide +kernel⟩
theorem test_digestsMacsAndRandomBytes_3 : ∃ (s : State) (e b n : Nat) (c : Cmd), s.ready e (· == 0x0230) = some c ∧ c.basin = some b ∧ n = outLenOf c.desc ∧ 1 ≤ n ∧ param c.desc 0 1 = 0 :=
  ⟨wReady (wRun 0x0230 0 0 64 []), 3, 0, 64, wRun 0x0230 0 0 64 [], by decide +kernel⟩
theorem test_digestsMacsAndRandomBytes_4b : ∃ (s : State) (e b n : Nat) (c : Cmd), s.ready e (· == 0x0230) = some c ∧ c.basin = some b ∧ n = outLenOf c.desc ∧ 1 ≤ n ∧ param c.desc 0 1 = 1 ∧ (∃ x rest, s.spg.buffer = x :: rest ∧ seedFresh s x = true ∧ (s.drbg b).inst = true ∧ s.spg.fatal = false) :=
  ⟨wSeeded, 3, 0, 64, wRun 0x0230 0 0 64 [1], by and_intros <;> first | exact ⟨{ bytes := [], fromA := true, fromB := false, at_ := 0 }, [], by decide +kernel, by decide +kernel, by decide +kernel, by decide +kernel⟩ | decide +kernel | rfl⟩
theorem test_digestsMacsAndRandomBytes_4c : ∃ (s : State) (e b n : Nat) (c : Cmd), s.ready e (· == 0x0230) = some c ∧ c.basin = some b ∧ n = outLenOf c.desc ∧ 1 ≤ n ∧ param c.desc 0 1 = 1 ∧ s.spg.fatal = true :=
  ⟨wFatal (wReady (wRun 0x0230 0 0 65 [1])), 3, 0, 65, wRun 0x0230 0 0 65 [1], by decide +kernel⟩
theorem test_digestsMacsAndRandomBytes_4d : ∃ (s : State) (e b n : Nat) (c : Cmd), s.ready e (· == 0x0230) = some c ∧ c.basin = some b ∧ n = outLenOf c.desc ∧ 1 ≤ n ∧ param c.desc 0 1 = 1 ∧ s.spg.fatal = false ∧ s.spg.buffer = [] :=
  ⟨wReady (wRun 0x0230 0 0 65 [1]), 3, 0, 65, wRun 0x0230 0 0 65 [1], by decide +kernel⟩
theorem test_digestsMacsAndRandomBytes_4 : ∃ (s : State) (e b n : Nat) (c : Cmd), s.ready e (· == 0x0230) = some c ∧ c.basin = some b ∧ n = outLenOf c.desc ∧ 1 ≤ n ∧ param c.desc 0 1 = 1 :=
  ⟨wReady (wRun 0x0230 0 0 64 [1]), 3, 0, 64, wRun 0x0230 0 0 64 [1], by decide +kernel⟩
theorem test_digestsMacsAndRandomBytes_5b : ∃ (s : State) (e : Nat) (c : Cmd), s.cmd e = some c ∧ heldForSeed s c = true ∧ c.deadlineAt ≠ 0 ∧ c.deadlineAt ≤ s.tbs.now :=
  ⟨{ State.reset.setCmd 3 (wHeldRandom 5) with tbs := { now := 5 } }, 3, wHeldRandom 5, by decide +kernel⟩
theorem test_digestsMacsAndRandomBytes_5c : ∃ (s : State) (e : Nat) (c : Cmd), s.cmd e = some c ∧ heldForSeed s c = true ∧ (c.deadlineAt = 0 ∨ s.tbs.now < c.deadlineAt) :=
  ⟨{ State.reset.setCmd 3 (wHeldRandom 5) with tbs := { now := 4 } }, 3, wHeldRandom 5, by decide +kernel⟩
theorem test_digestsMacsAndRandomBytes_5 : ∃ (s : State) (e : Nat) (c : Cmd), s.cmd e = some c ∧ heldForSeed s c = true :=
  ⟨State.reset.setCmd 3 (wHeldRandom 5), 3, wHeldRandom 5, by decide +kernel⟩

/-- The base point of P-256. -/
def wP256 : Bytes := 4 :: (natBe 32 0x6b17d1f2e12c4247f8bce6e563a440f277037d812deb33a0f4a13945d898c296 ++ natBe 32 0x4fe342e2fe1a7f9b8ee7eb4a7c0f9e162bce33576b315ececbb6406837bf51f5)
/-- A session key of VF1 of port A at slot 0 with an algorithm, in the cache of basin 0. -/
def wEdHandle : BitVec 64 := 1#64 <<< 63
def wEdRecord : Record := { alg := 0x22, session := true, handle := wEdHandle, fn := ⟨false, 1⟩, state := 1 }
def wKeyOn (r : Record) (op outLen : Nat) (ps : Bytes) : State :=
  let s := (wReady (wRun op wEdHandle 0 outLen ps)).setBasin 0 { cache := [{ handle := wEdHandle, record := r }] }
  { s with cis := { s.cis with records := [(0, r)] } }
def wEd : State := wKeyOn wEdRecord 0x0301 64 []
def wEc : State := wKeyOn { wEdRecord with alg := 0x20 } 0x0301 64 []
def wBoth : State := wKeyOn { wEdRecord with alg := 0x38 } 0x0301 64 []

/-- A seed of source A, which passes, waits for the DRBG of basin 0. -/
def wSeededFor (c : Cmd) : State :=
  let s := wReady c
  { s with spg := { s.spg with buffer := [{ bytes := [], fromA := true, fromB := false, at_ := 0 }], srcA := { st := 1 } } }

theorem test_signaturesVerificationsAndReports_1b : ∃ (s : State) (e b n : Nat) (c : Cmd) (r : Record), s.ready e (· == 0x0301) = some c ∧ c.basin = some b ∧ r = recOf s c (key1Of c.desc) ∧ n = signDraw s c ∧ n ≤ (s.drbg b).pool.length ∧ (r.alg = 0x22 ∨ (r.alg = 0x30 ∧ param c.desc 0 1 = 1)) :=
  ⟨wEd, 3, 0, 0, wRun 0x0301 wEdHandle 0 64 [], wEdRecord, by decide +kernel⟩
theorem test_signaturesVerificationsAndReports_1c : ∃ (s : State) (e b n : Nat) (c : Cmd) (r : Record), s.ready e (· == 0x0301) = some c ∧ c.basin = some b ∧ r = recOf s c (key1Of c.desc) ∧ n = signDraw s c ∧ n ≤ (s.drbg b).pool.length ∧ (r.alg = 0x20 ∨ r.alg = 0x21) :=
  ⟨wEc, 3, 0, 32, wRun 0x0301 wEdHandle 0 64 [], { wEdRecord with alg := 0x20 }, by decide +kernel⟩
theorem test_signaturesVerificationsAndReports_1d : ∃ (s : State) (e b n : Nat) (c : Cmd) (r : Record), s.ready e (· == 0x0301) = some c ∧ c.basin = some b ∧ r = recOf s c (key1Of c.desc) ∧ n = signDraw s c ∧ n ≤ (s.drbg b).pool.length ∧ r.alg = 0x38 :=
  ⟨wBoth, 3, 0, 32, wRun 0x0301 wEdHandle 0 64 [], { wEdRecord with alg := 0x38 }, by decide +kernel⟩
theorem test_signaturesVerificationsAndReports_1 : ∃ (s : State) (e b n : Nat) (c : Cmd) (r : Record), s.ready e (· == 0x0301) = some c ∧ c.basin = some b ∧ r = recOf s c (key1Of c.desc) ∧ n = signDraw s c ∧ n ≤ (s.drbg b).pool.length :=
  ⟨wReady (wRun 0x0301 0 0 64 []), 3, 0, 0, wRun 0x0301 0 0 64 [], {}, by decide +kernel⟩
theorem test_signaturesVerificationsAndReports_2 : ∃ (s : State) (e b n : Nat) (c : Cmd) (r : Record) (m sig : Bytes), s.ready e (· == 0x0302) = some c ∧ c.basin = some b ∧ r = recOf s c (key1Of c.desc) ∧ n = param c.desc 4 4 ∧ (m = (if (r.alg = 0x20 ∨ r.alg = 0x21) ∧ param c.desc 0 1 = 0 then (if r.alg = 0x20 then padTo 32 (Config.sha256 (c.input.take n)) else padTo 48 (Config.sha384 (c.input.take n))) else c.input.take n)) ∧ sig = c.input.drop n :=
  ⟨wReady (wRun 0x0302 0 0 0 []), 3, 0, 0, wRun 0x0302 0 0 0 [], {}, [], [], by and_intros <;> first | exact ⟨by rfl, by decide +kernel⟩ | decide +kernel | rfl⟩
theorem test_signaturesVerificationsAndReports_3 : ∃ (s : State) (e b n v : Nat) (c : Cmd) (pub : Bytes), s.ready e (· == 0x0303) = some c ∧ c.basin = some b ∧ pub = publicEncoding 0x38 (recOf s c (key1Of c.desc)).comps ∧ n = param c.desc 4 4 ∧ v = (if edValid pub (c.input.take n) (c.input.drop n) then 1 else 0) + (if mlValid pub (paramBytes c.desc 8 (param c.desc 2 1)) (c.input.take n) (c.input.drop n) then 2 else 0) :=
  ⟨wReady (wRun 0x0303 0 0 0 []), 3, 0, 0, (if edValid [] [] [] then 1 else 0) + (if mlValid [] [] [] [] then 2 else 0), wRun 0x0303 0 0 0 [], [], by exact ⟨by decide +kernel, rfl, by decide +kernel, by decide +kernel, by
    rw [show (wRun 0x0303 0 0 0 []).input.take 0 = [] from rfl, show (wRun 0x0303 0 0 0 []).input.drop 0 = [] from rfl,
      show paramBytes (wRun 0x0303 0 0 0 []).desc 8 (param (wRun 0x0303 0 0 0 []).desc 2 1) = [] from by decide +kernel]⟩⟩
theorem test_signaturesVerificationsAndReports_5 : ∃ (s : State) (e b : Nat) (c : Cmd), s.ready e (· == 0x0340) = some c ∧ c.basin = some b ∧ c.desc.length = 128 ∧ 32 ≤ (s.drbg b).pool.length :=
  ⟨wReady (wRun 0x0340 0 0 3837 []), 3, 0, wRun 0x0340 0 0 3837 [], by decide +kernel⟩

theorem test_agreementsAndKeyPairsCreateRecords_1 : ∃ (s : State) (e b : Nat) (c : Cmd) (r : Record), s.ready e (· == 0x0320) = some c ∧ c.basin = some b ∧ r = recOf s c (key1Of c.desc) :=
  ⟨wReady (wRun 0x0320 0 0 0 [0, 1]), 3, 0, wRun 0x0320 0 0 0 [0, 1], {}, by decide +kernel⟩
theorem test_agreementsAndKeyPairsCreateRecords_2 : ∃ (alg : Nat) (bs : Bytes), (alg = 0x20 ∨ alg = 0x21) ∧ ecPointOk alg bs = true :=
  ⟨0x20, wP256, by decide +kernel⟩
theorem test_agreementsAndKeyPairsCreateRecords_3 : ∃ (s : State) (e b : Nat) (c : Cmd) (x : Bytes × Bytes), s.ready e (· == 0x0310) = some c ∧ c.basin = some b ∧ 32 ≤ (s.drbg b).pool.length ∧ x = Config.mlkemEncaps ((recOf s c (key1Of c.desc)).comp 2) ((s.drbg b).pool.take 32) :=
  ⟨wReady (wRun 0x0310 0 0 1088 [0, 1]), 3, 0, wRun 0x0310 0 0 1088 [0, 1], Config.mlkemEncaps [] (List.replicate 32 9), by exact ⟨by decide +kernel, rfl, by decide +kernel, by rfl⟩⟩
theorem test_agreementsAndKeyPairsCreateRecords_4 : ∃ (s : State) (e b : Nat) (c : Cmd), s.ready e (· == 0x0311) = some c ∧ c.basin = some b :=
  ⟨wReady (wRun 0x0311 0 0 0 [0, 1]), 3, 0, wRun 0x0311 0 0 0 [0, 1], by decide +kernel⟩
theorem test_agreementsAndKeyPairsCreateRecords_5b : ∃ (s : State) (e b n : Nat) (c : Cmd), s.ready e (· == 0x0330) = some c ∧ c.basin = some b ∧ n = pairDraw (param c.desc 1 1) ∧ if param c.desc 2 1 = 1 then n ≤ (s.drbg b).pool.length else SeedWaits s b ∧ param c.desc 2 1 ≠ 1 :=
  ⟨wSeededFor (wRun 0x0330 0 0 65 [0, 0x20]), 3, 0, 32, wRun 0x0330 0 0 65 [0, 0x20], by refine ⟨by decide +kernel, rfl, by decide +kernel, ?_, by decide +kernel⟩; exact ⟨{ bytes := [], fromA := true, fromB := false, at_ := 0 }, [], by decide +kernel⟩⟩
theorem test_agreementsAndKeyPairsCreateRecords_5 : ∃ (s : State) (e b n : Nat) (c : Cmd), s.ready e (· == 0x0330) = some c ∧ c.basin = some b ∧ n = pairDraw (param c.desc 1 1) ∧ if param c.desc 2 1 = 1 then n ≤ (s.drbg b).pool.length else SeedWaits s b :=
  ⟨wReady (wRun 0x0330 0 0 65 [0, 0x20, 1]), 3, 0, 32, wRun 0x0330 0 0 65 [0, 0x20, 1], by refine ⟨by decide +kernel, rfl, by decide +kernel, ?_⟩; rw [if_pos (by decide +kernel)]; decide +kernel⟩

def wRetiringCmd (x : Effect) : Cmd := { wCmd with verdict := .allow, phase := .done, status := some 0, effect := x }
/-- The session key of VF1 with a command about to retire. -/
def wRetiring (x : Effect) : State :=
  let s := (wOn (wRetiringCmd x)).setQueue ⟨false, 1⟩ 0 { order := [.cmd 3] }
  { s with cis := { s.cis with records := [(0, wRecord)] }, lay := { active := some { keyUnits := 1 } } }
/-- A persistent key of partition 1 at slot 4. -/
def wFixedRecord : Record := { alg := 1, state := 1, part := 1, handle := 0x0001000000000004 }
def wPart1 : Partition :=
  { part := 1, hasA := true, hasB := false, vfA := 1, vfB := 0, qp := 1, pool := 1, keySlots := 8, workMib := 0, sessionKeys := 0, keyBase := 0 }
def wRetiringFixed : State :=
  let s := (wOn (wRetiringCmd (.keyTo 0x0001000000000004 2))).setQueue ⟨false, 1⟩ 0 { order := [.cmd 3] }
  { s with cis := { s.cis with records := [(4, wFixedRecord)] }
           lay := { active := some { keyUnits := 1, partitions := [wPart1] } } }
def wCreating : Cmd := { wCmd with verdict := .allow, phase := .done, status := some 0, effect := .create 9, newRec := some { session := true } }
def wSpendingCmd : Cmd := { wSeal with verdict := .allow, phase := .done, status := some 0, nonce := some (List.replicate 12 0xFF), spent := key1Of wSeal.desc }
def wSpending : State :=
  let s := (wOn wSpendingCmd).setQueue ⟨false, 1⟩ 0 { order := [.cmd 3] }
  { s with cis := { s.cis with records := [(0, wRecord)] }, lay := { active := some { keyUnits := 1 } } }

theorem test_keysAreImportedExportedGeneratedAndDerived_1 : ∃ (s : State) (e b : Nat) (c : Cmd), s.ready e (· == 0x0401) = some c ∧ c.basin = some b ∧ param c.desc 0x20 1 = 1 :=
  ⟨wReady (wRun 0x0401 0 0 0 (padTo 33 ([0, 0x20, 1] ++ List.replicate 29 0 ++ [1]))), 3, 0, wRun 0x0401 0 0 0 (padTo 33 ([0, 0x20, 1] ++ List.replicate 29 0 ++ [1])), by decide +kernel⟩
theorem test_keysAreImportedExportedGeneratedAndDerived_2b : ∃ (alg : Nat) (bs : Bytes) (l : List (Nat × Bytes)), publicImport alg bs = some l ∧ isRsa alg = true :=
  ⟨0x23, List.replicate 256 255 ++ [0, 1, 0, 1], [(5, List.replicate 256 255), (6, [0, 1, 0, 1])], by decide +kernel⟩
theorem test_keysAreImportedExportedGeneratedAndDerived_2c : ∃ (alg : Nat) (bs : Bytes) (l : List (Nat × Bytes)), publicImport alg bs = some l ∧ (alg = 0x20 ∨ alg = 0x21) :=
  ⟨0x20, wP256, [(1, slice wP256 1 32), (2, slice wP256 33 32)], by decide +kernel⟩
theorem test_keysAreImportedExportedGeneratedAndDerived_2 : ∃ (alg : Nat) (bs : Bytes) (l : List (Nat × Bytes)), publicImport alg bs = some l :=
  ⟨0x31, List.replicate 1184 0, [(2, List.replicate 1184 0), (3, padTo 32 (Config.hash 0x18 32 (List.replicate 1184 0)))], by unfold publicImport; rw [if_pos (by decide +kernel)]; rfl⟩
theorem test_keysAreImportedExportedGeneratedAndDerived_3b : ∃ (s : State) (e b : Nat) (c : Cmd) (k : Record), s.ready e (· == 0x0401) = some c ∧ c.basin = some b ∧ param c.desc 0x20 1 = 0 ∧ k = recOf s c (key2Of c.desc) ∧ blockAgrees c.desc c.input k = false :=
  ⟨wReady (wRun 0x0401 0 0 0 [0, 1, 1]), 3, 0, wRun 0x0401 0 0 0 [0, 1, 1], {}, by decide +kernel⟩
theorem test_keysAreImportedExportedGeneratedAndDerived_3 : ∃ (s : State) (e b : Nat) (c : Cmd) (k : Record), s.ready e (· == 0x0401) = some c ∧ c.basin = some b ∧ param c.desc 0x20 1 = 0 ∧ k = recOf s c (key2Of c.desc) :=
  ⟨wReady (wRun 0x0401 0 0 0 [0, 1, 1]), 3, 0, wRun 0x0401 0 0 0 [0, 1, 1], {}, by decide +kernel⟩
theorem test_keysAreImportedExportedGeneratedAndDerived_4b : ∃ (s : State) (e b n : Nat) (c : Cmd), s.ready e (· == 0x0403) = some c ∧ c.basin = some b ∧ n = (if param c.desc 1 1 = 8 then param c.desc 0x20 1 else symLen (param c.desc 1 1)) ∧ 1 ≤ n ∧ if param c.desc 2 1 = 1 then n ≤ (s.drbg b).pool.length else SeedWaits s b ∧ param c.desc 2 1 ≠ 1 :=
  ⟨wSeededFor (wRun 0x0403 0 0 0 [0, 1]), 3, 0, 16, wRun 0x0403 0 0 0 [0, 1], by refine ⟨by decide +kernel, rfl, by decide +kernel, by decide +kernel, ?_, by decide +kernel⟩; exact ⟨{ bytes := [], fromA := true, fromB := false, at_ := 0 }, [], by decide +kernel⟩⟩
theorem test_keysAreImportedExportedGeneratedAndDerived_4 : ∃ (s : State) (e b n : Nat) (c : Cmd), s.ready e (· == 0x0403) = some c ∧ c.basin = some b ∧ n = (if param c.desc 1 1 = 8 then param c.desc 0x20 1 else symLen (param c.desc 1 1)) ∧ 1 ≤ n ∧ if param c.desc 2 1 = 1 then n ≤ (s.drbg b).pool.length else SeedWaits s b :=
  ⟨wReady (wRun 0x0403 0 0 0 [0, 1, 1]), 3, 0, 16, wRun 0x0403 0 0 0 [0, 1, 1], by refine ⟨by decide +kernel, rfl, by decide +kernel, by decide +kernel, ?_⟩; rw [if_pos (by decide +kernel)]; decide +kernel⟩
theorem test_keysAreImportedExportedGeneratedAndDerived_5 : ∃ (s : State) (e b m : Nat) (c : Cmd) (k x : Bytes), s.ready e (· == 0x0404) = some c ∧ c.basin = some b ∧ k = (recOf s c (key1Of c.desc)).key ∧ m = param c.desc 0x20 1 ∧ x = (if m = 0 then Config.kdf k (ascii "OX-DRV") (paramBytes c.desc 0x28 24) (agreedLen (param c.desc 1 1)) else if m = 1 then Config.dukptAesInitial k (paramBytes c.desc 0x28 8) else Config.dukptTdesInitial k (paramBytes c.desc 0x28 10)) :=
  ⟨wReady (wRun 0x0404 0 0 0 [0, 1, 1]), 3, 0, 0, wRun 0x0404 0 0 0 [0, 1, 1], [], Config.kdf [] (ascii "OX-DRV") (List.replicate 24 0) 16, by exact ⟨by decide +kernel, rfl, by decide +kernel, by decide +kernel, by rw [if_pos rfl, show agreedLen (param (wRun 0x0404 0 0 0 [0, 1, 1]).desc 1 1) = 16 from by decide +kernel, show paramBytes (wRun 0x0404 0 0 0 [0, 1, 1]).desc 0x28 24 = List.replicate 24 0 from by decide +kernel]⟩⟩
theorem test_keysAreImportedExportedGeneratedAndDerived_6b : ∃ (s : State) (e b f : Nat) (c : Cmd) (r : Record), s.ready e (· == 0x0402) = some c ∧ c.basin = some b ∧ r = recOf s c (key1Of c.desc) ∧ f = param c.desc 0 1 ∧ f = 2 :=
  ⟨wReady (wRun 0x0402 0 0 0 [2]), 3, 0, 2, wRun 0x0402 0 0 0 [2], {}, by decide +kernel⟩
theorem test_keysAreImportedExportedGeneratedAndDerived_6c : ∃ (s : State) (e b f : Nat) (c : Cmd) (r : Record), s.ready e (· == 0x0402) = some c ∧ c.basin = some b ∧ r = recOf s c (key1Of c.desc) ∧ f = param c.desc 0 1 ∧ f ≠ 2 ∧ exportRow r.usage.toNat ≠ none :=
  ⟨wKeyOn { wEdRecord with alg := 1, usage := 1 } 0x0402 0 [], 3, 0, 0, wRun 0x0402 wEdHandle 0 0 [], { wEdRecord with alg := 1, usage := 1 }, by decide +kernel⟩
theorem test_keysAreImportedExportedGeneratedAndDerived_6d : ∃ (s : State) (e b f : Nat) (c : Cmd) (r : Record), s.ready e (· == 0x0402) = some c ∧ c.basin = some b ∧ r = recOf s c (key1Of c.desc) ∧ f = param c.desc 0 1 ∧ f ≠ 2 ∧ exportRow r.usage.toNat = none :=
  ⟨wReady (wRun 0x0402 0 0 0 []), 3, 0, 0, wRun 0x0402 0 0 0 [], {}, by decide +kernel⟩
theorem test_keysAreImportedExportedGeneratedAndDerived_6 : ∃ (s : State) (e b f : Nat) (c : Cmd) (r : Record), s.ready e (· == 0x0402) = some c ∧ c.basin = some b ∧ r = recOf s c (key1Of c.desc) ∧ f = param c.desc 0 1 :=
  ⟨wReady (wRun 0x0402 0 0 0 [2]), 3, 0, 2, wRun 0x0402 0 0 0 [2], {}, by decide +kernel⟩

theorem test_keyStatesChangeAtRetirement_1 : ∃ (s : State) (e b t0 : Nat) (c : Cmd) (h : BitVec 64), s.ready e (· == 0x0405) = some c ∧ c.basin = some b ∧ h = key1Of c.desc ∧ t0 = param c.desc 0 1 :=
  ⟨wReady (wRun 0x0405 0 0 0 [2]), 3, 0, 2, wRun 0x0405 0 0 0 [2], 0, by decide +kernel⟩
theorem test_keyStatesChangeAtRetirement_2 : ∃ (s : State) (e b : Nat) (c : Cmd), s.ready e (· == 0x0406) = some c ∧ c.basin = some b :=
  ⟨wReady (wRun 0x0406 0 0 0 []), 3, 0, wRun 0x0406 0 0 0 [], by decide +kernel⟩
theorem test_keyStatesChangeAtRetirement_3b : ∃ (s : State) (e k : Nat) (c : Cmd) (h : BitVec 64) (r : Record), s.cmd e = some c ∧ mayRetire s e c = true ∧ stalls s c = false ∧ c.verdict = .allow ∧ c.effect = .keyTo h k ∧ c.block = none ∧ lastNonce c = false ∧ s.record h = some r ∧ (s.queue c.fn c.q).batchRecord = none ∧ stateMove r.state k = true ∧ r.session = false :=
  ⟨wRetiringFixed, 3, 2, wRetiringCmd (.keyTo 0x0001000000000004 2), 0x0001000000000004, wFixedRecord, by decide +kernel⟩
theorem test_keyStatesChangeAtRetirement_3 : ∃ (s : State) (e k : Nat) (c : Cmd) (h : BitVec 64) (r : Record), s.cmd e = some c ∧ mayRetire s e c = true ∧ stalls s c = false ∧ c.verdict = .allow ∧ c.effect = .keyTo h k ∧ c.block = none ∧ lastNonce c = false ∧ s.record h = some r ∧ (s.queue c.fn c.q).batchRecord = none :=
  ⟨wRetiring (.keyTo wHandle 2), 3, 2, wRetiringCmd (.keyTo wHandle 2), wHandle, wRecord, by decide +kernel⟩
theorem test_keyStatesChangeAtRetirement_4 : ∃ (s : State) (e : Nat) (c : Cmd) (h : BitVec 64) (r : Record), s.cmd e = some c ∧ mayRetire s e c = true ∧ stalls s c = false ∧ c.verdict = .allow ∧ c.effect = .destroy h ∧ c.block = none ∧ lastNonce c = false ∧ s.record h = some r ∧ (s.queue c.fn c.q).batchRecord = none :=
  ⟨wRetiring (.destroy wHandle), 3, wRetiringCmd (.destroy wHandle), wHandle, wRecord, by decide +kernel⟩
theorem test_keyStatesChangeAtRetirement_5 : ∃ (s : State) (e n : Nat) (c : Cmd) (r : Record), s.cmd e = some c ∧ mayRetire s e c = true ∧ stalls s c = false ∧ c.verdict = .allow ∧ c.effect = .create n ∧ c.newRec = some r ∧ c.block = none ∧ lastNonce c = false ∧ (s.queue c.fn c.q).batchRecord = none :=
  ⟨(wOn wCreating).setQueue ⟨false, 1⟩ 0 { order := [.cmd 3] }, 3, 9, wCreating, { session := true }, by decide +kernel⟩
theorem test_keyStatesChangeAtRetirement_6 : ∃ (s : State) (e : Nat) (c : Cmd) (r : Record), s.cmd e = some c ∧ mayRetire s e c = true ∧ stalls s c = false ∧ c.verdict = .allow ∧ c.effect = .none ∧ c.block = none ∧ c.spent ≠ 0 ∧ s.record c.spent = some r ∧ r.state < 3 ∧ (s.queue c.fn c.q).batchRecord = none :=
  ⟨wSpending, 3, wSpendingCmd, wRecord, by decide +kernel⟩

/-- Reset with another vault controller. -/
def wVlt (v : VltState) : State := { State.reset with vlt := v }
/-- The same with port A's PF0 reached. -/
def wEn : VltState := { mirrorEn := true, mirrorLog2 := 10, unlocked := true, dirty := [(5, 1, 2)] }

theorem test_diesRewrapMirrorAndReload_1b : ∃ (x : VaultDie) (k : LineKeys) (d line : Nat) (pt : Bytes) (c : CounterBlock) (v : Nat × Nat), c = tabGet x.counters (line / 64) {} ∧ v = (if tabGet c.minors (line % 64) 0 < 127 then (c.major, tabGet c.minors (line % 64) 0 + 1) else (c.major + 1, 0)) ∧ tabGet c.minors (line % 64) 0 < 127 :=
  ⟨{ counters := [(1, { minors := [(6, 126)] })] }, ⟨[], [], []⟩, 1, 70, [5], { minors := [(6, 126)] }, (0, 127), by decide +kernel⟩
theorem test_diesRewrapMirrorAndReload_1 : ∃ (x : VaultDie) (k : LineKeys) (d line : Nat) (pt : Bytes) (c : CounterBlock) (v : Nat × Nat), c = tabGet x.counters (line / 64) {} ∧ v = (if tabGet c.minors (line % 64) 0 < 127 then (c.major, tabGet c.minors (line % 64) 0 + 1) else (c.major + 1, 0)) :=
  ⟨{}, ⟨[], [], []⟩, 1, 70, [5], {}, (0, 1), by decide +kernel⟩
theorem test_diesRewrapMirrorAndReload_2 : ∃ (x : VaultDie) (k : LineKeys) (d line : Nat) (pt : Bytes), line < 2 ^ 26 ∧ (∀ l i, 1 ≤ l → (x.content l i).length = 64) :=
  ⟨{}, ⟨[], [], []⟩, 1, 70, [5], by refine ⟨by decide, ?_⟩; intro l i h; unfold VaultDie.content; rw [if_neg (by omega)]; split <;> rfl⟩
theorem test_diesRewrapMirrorAndReload_3b : ∃ (s : State) (d : Nat), d < 4 ∧ (s.die d).present = true ∧ (∀ n, n < 4 → n ≠ d → (s.die n).retraining = false) ∧ ((s.die d).retraining = true ∨ ∀ t0, (s.die d).trainedAt = some t0 → t0 + 128000000 ≤ s.tbs.now) ∧ (∀ t, (s.die d).failAt = some t → t + 1000000000 < s.tbs.now) :=
  ⟨wVlt { dies := [(1, { present := true })] }, 1, by refine ⟨by decide, by decide, by decide, Or.inr ?_, ?_⟩ <;> intro t h <;> cases h⟩
theorem test_diesRewrapMirrorAndReload_3c : ∃ (s : State) (d : Nat), d < 4 ∧ (s.die d).present = true ∧ (∀ n, n < 4 → n ≠ d → (s.die n).retraining = false) ∧ ((s.die d).retraining = true ∨ ∀ t0, (s.die d).trainedAt = some t0 → t0 + 128000000 ≤ s.tbs.now) ∧ (s.die d).failAt = some 0 ∧ s.tbs.now ≤ 0 + 1000000000 :=
  ⟨wVlt { dies := [(1, { present := true, failAt := some 0 })] }, 1, by exact ⟨by decide, by decide, by decide, Or.inr (fun t h => by cases h), by decide⟩⟩
theorem test_diesRewrapMirrorAndReload_3 : ∃ (s : State) (d : Nat), d < 4 ∧ (s.die d).present = true ∧ (∀ n, n < 4 → n ≠ d → (s.die n).retraining = false) ∧ ((s.die d).retraining = true ∨ ∀ t0, (s.die d).trainedAt = some t0 → t0 + 128000000 ≤ s.tbs.now) :=
  ⟨wVlt { dies := [(1, { present := true, retraining := true })] }, 1, by exact ⟨by decide, by decide, by decide, Or.inl (by decide)⟩⟩
theorem test_diesRewrapMirrorAndReload_4b : ∃ (s : State) (d : Nat) (ok : Bool), d < 4 ∧ (s.die d).present = false :=
  ⟨State.reset, 1, true, by decide⟩
theorem test_diesRewrapMirrorAndReload_4c : ∃ (s : State) (d : Nat) (ok : Bool), d < 4 ∧ (s.die d).present = true ∧ s.vlt.unlocked = true ∧ s.vlt.rewrap = false :=
  ⟨wVlt { dies := [(1, { present := true })], unlocked := true }, 1, true, by decide⟩
-- NO WITNESS test_diesRewrapMirrorAndReload_4
theorem test_diesRewrapMirrorAndReload_5b : ∃ (s : State) (f : FnId), f.vf = 0 ∧ s.fnExists f = true ∧ s.vlt.unlocked = true ∧ s.vlt.rewrap = false :=
  ⟨wVlt { unlocked := true }, ⟨false, 0⟩, by decide⟩
theorem test_diesRewrapMirrorAndReload_5c : ∃ (s : State) (f : FnId), f.vf = 0 ∧ s.fnExists f = true ∧ (s.vlt.unlocked = false ∨ s.vlt.rewrap = true) :=
  ⟨State.reset, ⟨true, 0⟩, by decide⟩
theorem test_diesRewrapMirrorAndReload_5 : ∃ (s : State) (f : FnId), f.vf = 0 ∧ s.fnExists f = true :=
  ⟨wVlt { unlocked := true, rewrap := true }, ⟨false, 0⟩, by decide⟩
theorem test_diesRewrapMirrorAndReload_6 : ∃ (s : State) (d : Nat × Nat × Nat) (r : List (Nat × Nat × Nat)) (p : Nat), s.vlt.dirty = d :: r ∧ s.vlt.mirrorEn = true ∧ s.vlt.unlocked = true ∧ s.vlt.mirrorSeq < s.vlt.durable + 2 ^ s.vlt.mirrorLog2 ∧ p = tabGet s.vlt.pOf d.1 0 ∧ p < 2 ^ 384 :=
  ⟨wVlt wEn, (5, 1, 2), [], 0, by decide⟩
theorem test_diesRewrapMirrorAndReload_7 : ∃ (s : State), (s.vlt.dirty = [] ∨ s.vlt.mirrorEn = false ∨ s.vlt.durable + 2 ^ s.vlt.mirrorLog2 ≤ s.vlt.mirrorSeq) :=
  ⟨wVlt { wEn with mirrorSeq := 1024 }, by decide⟩
theorem test_diesRewrapMirrorAndReload_8b : ∃ (s : State) (f : FnId) (v : BitVec 64), f.vf = 0 ∧ s.fnExists f = true ∧ (v.toNat ≤ s.vlt.durable ∨ s.vlt.mirrorSeq ≤ v.toNat) :=
  ⟨wVlt { wEn with mirrorSeq := 9 }, ⟨true, 0⟩, 9, by decide⟩
theorem test_diesRewrapMirrorAndReload_8c : ∃ (s : State) (f : FnId) (v : BitVec 64), f.vf = 0 ∧ s.fnExists f = true ∧ s.vlt.durable < v.toNat ∧ v.toNat < s.vlt.mirrorSeq :=
  ⟨wVlt { wEn with mirrorSeq := 9 }, ⟨true, 0⟩, 1, by decide⟩
theorem test_diesRewrapMirrorAndReload_8 : ∃ (s : State) (f : FnId) (v : BitVec 64), f.vf = 0 ∧ s.fnExists f = true :=
  ⟨wVlt { wEn with mirrorSeq := 9 }, ⟨true, 0⟩, 8, by decide⟩
theorem test_diesRewrapMirrorAndReload_9 : ∃ (s : State) (e : Bytes) (o : Option Bytes), s.vlt.ackPending = true ∧ o = gcmOpen (mirrorKey s) (mirrorIv s.vlt.mirrorAck) (slice e 0 0x30) (slice e 0x40 320) (slice e 0x30 16) :=
  ⟨wVlt { ackPending := true }, [], gcmOpen (mirrorKey (wVlt { ackPending := true })) (mirrorIv 0) (slice [] 0 0x30) (slice [] 0x40 320) (slice [] 0x30 16), by exact ⟨rfl, rfl⟩⟩
theorem test_diesRewrapMirrorAndReload_10b : ∃ (s : State) (f : FnId) (v : BitVec 32), f.vf = 0 ∧ s.fnExists f = true ∧ s.vlt.mirrorEn = true :=
  ⟨wVlt wEn, ⟨true, 0⟩, 21, by decide⟩
theorem test_diesRewrapMirrorAndReload_10c : ∃ (s : State) (f : FnId) (v : BitVec 32), f.vf = 0 ∧ s.fnExists f = true ∧ s.vlt.mirrorEn = false ∧ v.getLsbD 0 = true ∧ 10 ≤ v.toNat / 2 % 32 ∧ v.toNat / 2 % 32 ≤ 22 :=
  ⟨State.reset, ⟨true, 0⟩, 45, by decide⟩
theorem test_diesRewrapMirrorAndReload_10d : ∃ (s : State) (f : FnId) (v : BitVec 32), f.vf = 0 ∧ s.fnExists f = true ∧ (s.vlt.mirrorEn = false ∧ v.getLsbD 0 = true ∧ (v.toNat / 2 % 32 < 10 ∨ 22 < v.toNat / 2 % 32)) :=
  ⟨State.reset, ⟨true, 0⟩, 47, by decide⟩
theorem test_diesRewrapMirrorAndReload_10 : ∃ (s : State) (f : FnId) (v : BitVec 32), f.vf = 0 ∧ s.fnExists f = true :=
  ⟨State.reset, ⟨true, 0⟩, 21, by decide⟩
theorem test_diesRewrapMirrorAndReload_11b : ∃ (s : State) (f : FnId) (v : BitVec 32), f.vf = 0 ∧ s.fnExists f = true ∧ s.vlt.reload = true ∧ s.vlt.rlState ≠ 3 ∧ s.vlt.endSet = false :=
  ⟨wVlt { reload := true }, ⟨true, 0⟩, 4294967295, by decide⟩
theorem test_diesRewrapMirrorAndReload_11c : ∃ (s : State) (f : FnId) (v : BitVec 32), f.vf = 0 ∧ s.fnExists f = true ∧ s.vlt.reload = true ∧ s.vlt.rlState ≠ 3 ∧ s.vlt.rlHead ≠ s.vlt.tail :=
  ⟨wVlt { reload := true, tail := 3 }, ⟨true, 0⟩, 0, by decide⟩
theorem test_diesRewrapMirrorAndReload_11d : ∃ (s : State) (f : FnId) (v : BitVec 32), f.vf = 0 ∧ s.fnExists f = true ∧ s.vlt.rlState = 3 :=
  ⟨wVlt { reload := true, rlState := 3 }, ⟨true, 0⟩, 0, by decide⟩
theorem test_diesRewrapMirrorAndReload_11e : ∃ (s : State) (f : FnId) (v : BitVec 32), f.vf = 0 ∧ s.fnExists f = true ∧ s.vlt.reload = true ∧ diesGone s = true :=
  ⟨wVlt { reload := true, dies := [(0, { lost := true }), (3, { lost := true })] }, ⟨true, 0⟩, 0, by decide⟩
theorem test_diesRewrapMirrorAndReload_11f : ∃ (s : State) (f : FnId) (v : BitVec 32), f.vf = 0 ∧ s.fnExists f = true ∧ s.vlt.reload = false :=
  ⟨State.reset, ⟨true, 0⟩, 0, by decide⟩
theorem test_diesRewrapMirrorAndReload_11 : ∃ (s : State) (f : FnId) (v : BitVec 32), f.vf = 0 ∧ s.fnExists f = true :=
  ⟨wVlt { reload := true }, ⟨true, 0⟩, 0, by decide⟩
theorem test_diesRewrapMirrorAndReload_12 : ∃ (s : State) (f : FnId), f.vf = 0 ∧ s.fnExists f = true ∧ s.vlt.reload = true ∧ s.vlt.unlocked = true ∧ s.vlt.rlState ≠ 3 ∧ s.vlt.rlHead = s.vlt.tail ∧ diesGone s = false ∧ s.vlt.rlSlots = [] ∧ s.vlt.rlSum = s.vlt.hDurable :=
  ⟨wVlt { reload := true, unlocked := true }, ⟨false, 0⟩, by decide⟩
theorem test_diesRewrapMirrorAndReload_13b : ∃ (s : State) (e : Bytes), s.vlt.reload = true ∧ s.vlt.unlocked = true ∧ s.vlt.rlState = 1 ∧ s.vlt.rlHead < s.vlt.tail ∧ checkEntry s e = .inl 1 :=
  ⟨wVlt { reload := true, unlocked := true, rlState := 1, tail := 1 }, [], by decide +kernel⟩
theorem test_diesRewrapMirrorAndReload_13 : ∃ (s : State) (e : Bytes), s.vlt.reload = true ∧ s.vlt.unlocked = true ∧ s.vlt.rlState = 1 ∧ s.vlt.rlHead < s.vlt.tail :=
  ⟨wVlt { reload := true, unlocked := true, rlState := 1, tail := 1 }, [], by decide⟩

/-- Reset with a debug access under way, and rights over 64 KiB of basin 0's SRAM. -/
def wRights : DebugRights := { serial := 1, notAfter := 0, era := 0, slotRd := 0, slotWr := 0, regions := [{ base := 0x10300000, log2Size := 16, rd := true, wr := true, maxRing := 3 }] }
def wDbg (a : Option DebugAcc) : State := { State.reset with wei := { dbg := some wRights, debugAcc := a } }
/-- A re-key is due and DRBG 8 holds 16 bytes. -/
def wTagPool : State := { State.reset.setDrbg 8 { inst := true, pool := List.replicate 16 7 } with wei := { tagKey := true }, tbs := { now := 2 ^ 30 } }
def wAcc (addr : BitVec 40) (w d : Bool) : DebugAcc := { addr := addr, write := w, lenM1 := 3, data := [1, 2, 3, 4], due := 0, denied := d, set := false, epoch := 0 }

theorem test_tagKeysSelectorsAndDebugAccesses_1 : ∃ (s u : State) (bs : Bytes), rekeyDue s = true ∧ s.draw 8 16 = some (bs, u) :=
  ⟨wTagPool, wTagPool.setDrbg 8 { inst := true, pool := [] }, List.replicate 16 7, by decide +kernel⟩
theorem test_tagKeysSelectorsAndDebugAccesses_3b : ∃ (s : State), s.spg.fatal = false ∧ s.wei.tagKey = true ∧ s.wei.rekeyMark < s.tbs.now / 2 ^ 30 :=
  ⟨{ State.reset with wei := { tagKey := true }, tbs := { now := 2 ^ 30 } }, by decide⟩
theorem test_tagKeysSelectorsAndDebugAccesses_3c : ∃ (s : State), s.spg.fatal = true ∧ rekeyDue s = false :=
  ⟨{ State.reset with spg := { fatal := true }, wei := { tagKey := true }, tbs := { now := 2 ^ 30 } }, by decide⟩
theorem test_tagKeysSelectorsAndDebugAccesses_3d : ∃ (s : State), s.wei.tagKey = false ∧ s.wei.seededAt = none ∧ s.wei.prevKey = none ∧ rekeyDue s = false :=
  ⟨State.reset, by decide⟩
theorem test_tagKeysSelectorsAndDebugAccesses_3e : ∃ (s : State), s.wei.prevKey = some ([], 0) ∧ 0 ≤ s.tbs.now :=
  ⟨{ State.reset with wei := { prevKey := some ([], 0) } }, by decide⟩
theorem test_tagKeysSelectorsAndDebugAccesses_3f : ∃ (s : State), s.wei.prevKey = some ([], 1) ∧ s.tbs.now < 1 :=
  ⟨{ State.reset with wei := { prevKey := some ([], 1) } }, by decide⟩
theorem test_tagKeysSelectorsAndDebugAccesses_4b : ∃ (s : State) (p : Nat) (v : BitVec 32), p ≤ 8 ∧ (s.pair p).ring = 0 ∧ v.toNat % 4 ≠ 3 :=
  ⟨State.reset, 8, 6, by decide⟩
theorem test_tagKeysSelectorsAndDebugAccesses_4c : ∃ (s : State) (p : Nat) (v : BitVec 32), p ≤ 8 ∧ ((s.pair p).ring ≠ 0 ∨ v.toNat % 4 = 3) :=
  ⟨State.reset, 0, 7, by decide⟩
theorem test_tagKeysSelectorsAndDebugAccesses_4 : ∃ (s : State) (p : Nat) (v : BitVec 32), p ≤ 8 :=
  ⟨State.reset, 8, 6, by decide⟩
theorem test_tagKeysSelectorsAndDebugAccesses_5b : ∃ (s : State) (a : BitVec 40) (w : Bool) (n : Nat) (bs : Bytes), s.wei.debugAcc = none ∧ weirCheck s 9 0 s.wei.live a.toNat (n + 1) w = none :=
  ⟨wDbg none, 0x10300000, true, 3, [1, 2, 3, 4], by decide +kernel⟩
theorem test_tagKeysSelectorsAndDebugAccesses_5c : ∃ (s : State) (a : BitVec 40) (w : Bool) (n : Nat) (bs : Bytes), s.wei.debugAcc = none ∧ weirCheck s 9 0 s.wei.live a.toNat (n + 1) w = some (1, 0) :=
  ⟨wDbg none, 0x10310000, true, 3, [1, 2, 3, 4], by decide +kernel⟩
theorem test_tagKeysSelectorsAndDebugAccesses_5d : ∃ (s : State) (a : BitVec 40) (w : Bool) (n : Nat) (bs : Bytes), s.wei.debugAcc = none ∧ n = 0 ∧ targetOf a.toNat = none :=
  ⟨wDbg none, 0xFFFFFFFFFF, true, 0, [], by decide +kernel⟩
theorem test_tagKeysSelectorsAndDebugAccesses_5e : ∃ (s : State) (a : BitVec 40) (w : Bool) (n : Nat) (bs : Bytes), s.wei.debugAcc = none ∧ n = 0 ∧ s.wei.dbg = none :=
  ⟨State.reset, 0, true, 0, [], by decide +kernel⟩
theorem test_tagKeysSelectorsAndDebugAccesses_5 : ∃ (s : State) (a : BitVec 40) (w : Bool) (n : Nat) (bs : Bytes), s.wei.debugAcc = none :=
  ⟨wDbg none, 0x10300000, true, 3, [1, 2, 3, 4], by decide⟩
theorem test_tagKeysSelectorsAndDebugAccesses_6b : ∃ (s : State) (x : DebugAcc), s.wei.debugAcc = some x ∧ s.tbs.now < x.due :=
  ⟨wDbg (some { wAcc 0 true false with due := 4096 }), { wAcc 0 true false with due := 4096 }, by decide⟩
theorem test_tagKeysSelectorsAndDebugAccesses_6c : ∃ (s : State) (x : DebugAcc), s.wei.debugAcc = some x ∧ x.due ≤ s.tbs.now ∧ ¬ Delivers s x :=
  ⟨wDbg (some (wAcc 0 true true)), wAcc 0 true true, by decide⟩
theorem test_tagKeysSelectorsAndDebugAccesses_6d : ∃ (s : State) (x : DebugAcc), s.wei.debugAcc = some x ∧ x.due ≤ s.tbs.now ∧ ¬ Delivers s x :=
  ⟨wDbg (some { wAcc 0x10300000 false false with unit := 0, respGen := 2 }), { wAcc 0x10300000 false false with unit := 0, respGen := 2 }, by decide⟩
theorem test_tagKeysSelectorsAndDebugAccesses_6e : ∃ (s : State) (x : DebugAcc), s.wei.debugAcc = some x ∧ x.due ≤ s.tbs.now ∧ Delivers s x ∧ x.write = true ∧ isMemory x.addr.toNat = true ∧ Memory.wf s.mem = true :=
  ⟨wDbg (some (wAcc 0x10300000 true false)), wAcc 0x10300000 true false, by decide⟩
theorem test_tagKeysSelectorsAndDebugAccesses_6f : ∃ (s : State) (x : DebugAcc), s.wei.debugAcc = some x ∧ (x.due ≤ s.tbs.now ∧ Delivers s x ∧ x.write = true ∧ isMemory x.addr.toNat = false ∧ isVault x.addr.toNat = false ∧ isNvm x.addr.toNat = false ∧ (0x800000 ≤ x.addr.toNat ∨ regPlace x.addr.toNat = none)) :=
  ⟨wDbg (some (wAcc 0 true false)), wAcc 0 true false, by decide⟩
theorem test_tagKeysSelectorsAndDebugAccesses_6g : ∃ (s : State) (x : DebugAcc), s.wei.debugAcc = some x ∧ x.due ≤ s.tbs.now ∧ Delivers s x ∧ x.write = true ∧ isNvm x.addr.toNat = true :=
  ⟨wDbg (some (wAcc 0x30000000 true false)), wAcc 0x30000000 true false, by decide⟩
theorem test_tagKeysSelectorsAndDebugAccesses_6h : ∃ (s : State) (x : DebugAcc), s.wei.debugAcc = some x ∧ x.due ≤ s.tbs.now ∧ Delivers s x ∧ x.write = true ∧ isMemory x.addr.toNat = false ∧ x.addr.toNat < 0x800000 ∧ regPlace x.addr.toNat ≠ none :=
  ⟨wDbg (some (wAcc 0x4000 true false)), wAcc 0x4000 true false, by decide⟩
theorem test_tagKeysSelectorsAndDebugAccesses_6i : ∃ (s : State) (x : DebugAcc), s.wei.debugAcc = some x ∧ x.due ≤ s.tbs.now ∧ Delivers s x ∧ x.write = false ∧ isMemory x.addr.toNat = true :=
  ⟨wDbg (some (wAcc 0x10300000 false false)), wAcc 0x10300000 false false, by decide⟩
theorem test_tagKeysSelectorsAndDebugAccesses_6j : ∃ (s : State) (x : DebugAcc), s.wei.debugAcc = some x ∧ x.due ≤ s.tbs.now ∧ Delivers s x ∧ x.write = true ∧ isVault x.addr.toNat = true :=
  ⟨wDbg (some (wAcc 0x400000000 true false)), wAcc 0x400000000 true false, by decide⟩
theorem test_tagKeysSelectorsAndDebugAccesses_6k : ∃ (s : State) (x : DebugAcc), s.wei.debugAcc = some x ∧ x.due ≤ s.tbs.now ∧ Delivers s x ∧ x.write = false ∧ isMemory x.addr.toNat = false ∧ isVault x.addr.toNat = false :=
  ⟨wDbg (some (wAcc 0 false false)), wAcc 0 false false, by decide⟩
theorem test_tagKeysSelectorsAndDebugAccesses_6 : ∃ (s : State) (x : DebugAcc), s.wei.debugAcc = some x :=
  ⟨wDbg (some (wAcc 0x10300000 true false)), wAcc 0x10300000 true false, by decide⟩

/-- A state in which pair 0 runs the code at 0x100 of its window in ring 0: basin 0 serves, SG0 and SG1 and SG2 cover the
window. -/
def wDesc (right : Nat) : BitVec 128 :=
  BitVec.ofNat 128 (windowBase 0 + 0xFFFFF * 2 ^ 64 + right * 2 ^ 96 + 3 * 2 ^ 99 + 2 ^ 101)

def wPair : KPair :=
  { sg := [(0, wDesc 4), (1, wDesc 3), (2, wDesc 3), (3, wDesc 3)], pc := 0x100, resetVector := false, w := [(1, 5), (2, 7)] }

def wCore : State := (State.reset.setBasin 0 { st := .serving }).setPair 0 wPair

theorem test_keeperAdditionsSubtractionsAndCompares_1 : ∃ (s : State) (p : Nat) (o : AluForm) (i : AluIn), aluIn (s.pair p) o true false false = some i ∧ Runs s p i.size :=
  ⟨wCore, 0, .rr 1 2, { w := 128, rd := 1, a := 5, b := 7, size := 2 }, by decide⟩
theorem test_keeperAdditionsSubtractionsAndCompares_2 : ∃ (s : State) (p : Nat) (o : AluForm) (i : AluIn), aluIn (s.pair p) o false false false = some i ∧ Runs s p i.size :=
  ⟨wCore, 0, .rrr 2 3 1 2, { w := 32, rd := 3, a := 5, b := 7, size := 4 }, by decide⟩
theorem test_keeperAdditionsSubtractionsAndCompares_3 : ∃ (s : State) (p rd rs : Nat), Runs s p 2 :=
  ⟨wCore, 0, 3, 1, by decide⟩
theorem test_keeperAdditionsSubtractionsAndCompares_4 : ∃ (s : State) (p : Nat) (o : AluForm) (i : AluIn), aluIn (s.pair p) o true true false = some i ∧ Runs s p i.size :=
  ⟨wCore, 0, .rrr 1 0 1 2, { w := 64, rd := 0, a := 5, b := 7, size := 4 }, by decide⟩
theorem test_keeperAdditionsSubtractionsAndCompares_5 : ∃ (s : State) (p : Nat) (o : ImmForm) (i : AluIn), immIn (s.pair p) o false = some i ∧ Runs s p i.size :=
  ⟨wCore, 0, .ri 1 127, { w := 128, rd := 1, a := 5, b := 2 ^ 128 - 1, size := 2 }, by decide⟩
theorem test_keeperAdditionsSubtractionsAndCompares_6 : ∃ (s : State) (p : Nat) (o : ImmForm) (i : AluIn), immIn (s.pair p) o true = some i ∧ Runs s p i.size :=
  ⟨wCore, 0, .rri 1 0 9, { w := 128, rd := 1, a := 5, b := 9, size := 4 }, by decide⟩
theorem test_keeperAdditionsSubtractionsAndCompares_7 : ∃ (s : State) (p : Nat) (o : AluForm), aluIn (s.pair p) o false false false = none ∧ Runs s p (AluForm.size o) :=
  ⟨wCore, 0, .rrr 3 3 1 2, by decide⟩

theorem test_keeperLogicShiftsAndCounts_1 : ∃ (s : State) (p : Nat) (o : AluForm) (i : AluIn), aluIn (s.pair p) o true false false = some i ∧ Runs s p i.size :=
  ⟨wCore, 0, .rr 1 2, { w := 128, rd := 1, a := 5, b := 7, size := 2 }, by decide⟩
theorem test_keeperLogicShiftsAndCounts_2 : ∃ (s : State) (p : Nat) (o : AluForm) (i : AluIn), aluIn (s.pair p) o false false false = some i ∧ Runs s p i.size :=
  ⟨wCore, 0, .rrr 0 1 1 2, { w := 128, rd := 1, a := 5, b := 7, size := 4 }, by decide⟩
theorem test_keeperLogicShiftsAndCounts_3 : ∃ (s : State) (p : Nat) (o : AluForm) (i : AluIn), aluIn (s.pair p) o false false true = some i ∧ Runs s p i.size :=
  ⟨wCore, 0, .rrr 1 3 1 0, { w := 64, rd := 3, a := 5, b := 0, size := 4 }, by decide⟩
theorem test_keeperLogicShiftsAndCounts_4 : ∃ (s : State) (p rd rs : Nat), Runs s p 2 :=
  ⟨wCore, 0, 1, 15, by decide⟩
theorem test_keeperLogicShiftsAndCounts_5 : ∃ (s : State) (p rd imm : Nat), imm < 2 ^ 16 ∧ Runs s p 4 :=
  ⟨wCore, 0, 1, 65535, by decide⟩

theorem test_keeperProductsMovesAndFields_1 : ∃ (s : State) (p : Nat) (o : AluForm) (i : AluIn), aluIn (s.pair p) o false false false = some i ∧ Runs s p i.size :=
  ⟨wCore, 0, .rrr 2 3 1 2, { w := 32, rd := 3, a := 5, b := 7, size := 4 }, by decide⟩
theorem test_keeperProductsMovesAndFields_2 : ∃ (s : State) (p rd rs : Nat), Runs s p 2 :=
  ⟨wCore, 0, 15, 1, by decide⟩
theorem test_keeperProductsMovesAndFields_3 : ∃ (s : State) (p rd imm : Nat), imm < 2 ^ 16 ∧ Runs s p 4 :=
  ⟨wCore, 0, 1, 65535, by decide⟩
theorem test_keeperProductsMovesAndFields_4 : ∃ (s : State) (p rd imm : Nat), imm < 128 ∧ Runs s p 2 :=
  ⟨wCore, 0, 15, 127, by decide⟩
theorem test_keeperProductsMovesAndFields_5 : ∃ (s : State) (p rd rs pos len : Nat), 1 ≤ len ∧ pos + len ≤ 128 ∧ Runs s p 4 :=
  ⟨wCore, 0, 1, 2, 0, 128, by decide⟩
theorem test_keeperProductsMovesAndFields_6 : ∃ (s : State) (p rd rs pos len : Nat), 1 ≤ len ∧ pos < 128 ∧ len ≤ 128 ∧ 128 < pos + len ∧ Runs s p 4 :=
  ⟨wCore, 0, 1, 2, 127, 2, by decide⟩

/-- Pair 0 with W3 = 0x40 as a pointer, SP0 = 0x200, and a byte at window offset 0x40. -/
def wMem : State := { wCore.setPair 0 { wPair with w := [(1, 5), (2, 7), (3, 0x40)], sp := [(0, 0x200)] } with
  mem := [(windowBase 0 + 0x40, 9)] }

/-- The same pair with SG4 on the operand area of its own basin. -/
def wFab : State := wMem.setPair 0 { wPair with
  w := [(1, 5), (2, 7), (3, 0x40)]
  sg := tabSet wPair.sg 4 (BitVec.ofNat 128 (0x10300000 + 0xFFF * 2 ^ 64 + 3 * 2 ^ 96 + 2 ^ 101)) }

/-- The Fountainhead pair with SG4 on the companion MRAM. -/
def wNvm : State := wMem.setPair 8 { wPair with
  w := [(1, 5), (2, 7), (3, 0x40)]
  sg := tabSet (tabSet wPair.sg 0 (BitVec.ofNat 128 (windowBase 8 + 0xFFFFF * 2 ^ 64 + 4 * 2 ^ 96 + 3 * 2 ^ 99 + 2 ^ 101))) 4 (BitVec.ofNat 128 (0x30000000 + 0xFFF * 2 ^ 64 + 3 * 2 ^ 96 + 2 ^ 101)) }

/-- The Fountainhead pair with SG4 on the vault's work region, which a region of the Layout grants it, and pair 0 with SG4 on its own control region. -/
def wGrant : WeirRegion := { base := 0x480000000, log2Size := 12, rd := true, wr := true, maxRing := 3 }
def wVt : State := { wMem with lay := { active := some { weirA := { regions := List.replicate 8 [] ++ [[wGrant]] } } } }.setPair 8 { wPair with
  w := [(1, 5), (2, 7), (3, 0x40)]
  sg := tabSet (tabSet wPair.sg 0 (BitVec.ofNat 128 (windowBase 8 + 0xFFFFF * 2 ^ 64 + 4 * 2 ^ 96 + 3 * 2 ^ 99 + 2 ^ 101))) 4 (BitVec.ofNat 128 (0x480000000 + 0xFFF * 2 ^ 64 + 3 * 2 ^ 96 + 2 ^ 101)) }
def wSlot : State := wMem.setPair 0 { wPair with
  w := [(1, 5), (2, 7), (3, 0x40)]
  sg := tabSet wPair.sg 4 (BitVec.ofNat 128 (0xFFF * 2 ^ 64 + 3 * 2 ^ 96 + 2 ^ 101)) }

/-- A waiting fabric load of pair 0. -/
def wLoad : FabLoad :=
  { kind := 0, rd := 4, addr := 0x10300040, size := 1, next := 0x104, set := false, epoch := 0,
    req := { initiator := 0, kind := 0, len := 1, set := false, epoch := 0, addr := 0x10300040, reqGen := 1, respGen := 1, seq := 0, entry := 0, inst := 0, data := [] },
    tag := 0 }

/-- Pair 0 at ring 2. -/
def wRing2 : State := wCore.setPair 0 { wPair with st := 0x80 }

theorem test_keeperLoadsAndStores_1 : ∃ (s : State) (p : Nat) (o : MemForm) (rd seg off n isz a : Nat), memIn (s.pair p) o = some (rd, seg, off, n, isz) ∧ Runs s p isz ∧ accessOf s p seg 0 off n n = .window a :=
  ⟨wMem, 0, .rr 0 4 3, 4, 1, 0x40, 1, 2, windowBase 0 + 0x40, by decide⟩
theorem test_keeperLoadsAndStores_2 : ∃ (s : State) (p : Nat) (o : MemForm) (rd seg off n isz a : Nat), memIn (s.pair p) o = some (rd, seg, off, n, isz) ∧ Runs s p isz ∧ accessOf s p seg 0 off n n = .fabric a :=
  ⟨wFab, 0, .mem 4 4 3 0 0, 4, 4, 0x40, 1, 4, 0x10300040, by decide⟩
theorem test_keeperLoadsAndStores_3 : ∃ (s : State) (p : Nat) (g : ReplyGen) (tag : BitVec 32) (data : Bytes) (l : FabLoad), (s.pair p).load = some l ∧ l.kind = 0 ∧ isMemory l.addr = true ∧ s.fresh (unitAt l.addr) p g = true ∧ s.unitResetting (unitAt l.addr) = false ∧ s.tagOkEither (l.reply g (memReadN s.mem l.addr l.size)) tag = true :=
  ⟨wMem.setPair 0 { wPair with load := some wLoad }, 0, { responder := 1, echoed := 1 }, 0, [], wLoad, by decide +kernel⟩
theorem test_keeperLoadsAndStores_4b : ∃ (s : State) (p : Nat) (g : ReplyGen) (tag : BitVec 32) (data : Bytes) (l : FabLoad), (s.pair p).load = some l ∧ isMemory l.addr = true ∧ s.fresh (unitAt l.addr) p g = false :=
  ⟨wMem.setPair 0 { wPair with load := some wLoad }, 0, { responder := 1, echoed := 0 }, 0, [], wLoad, by decide +kernel⟩
theorem test_keeperLoadsAndStores_4c : ∃ (s : State) (p : Nat) (g : ReplyGen) (tag : BitVec 32) (data : Bytes) (l : FabLoad), (s.pair p).load = some l ∧ isMemory l.addr = true ∧ s.fresh (unitAt l.addr) p g = true ∧ s.unitResetting (unitAt l.addr) = false ∧ s.tagOkEither (l.reply g (memReadN s.mem l.addr l.size)) tag = false :=
  ⟨wMem.setPair 0 { wPair with load := some wLoad }, 0, { responder := 1, echoed := 1 }, 5, [], wLoad, by decide +kernel⟩
theorem test_keeperLoadsAndStores_4 : ∃ (s : State) (p : Nat) (g : ReplyGen) (tag : BitVec 32) (data : Bytes) (l : FabLoad), (s.pair p).load = some l ∧ isMemory l.addr = true :=
  ⟨wMem.setPair 0 { wPair with load := some wLoad }, 0, { responder := 1, echoed := 1 }, 0, [], wLoad, by decide +kernel⟩
theorem test_keeperLoadsAndStores_5 : ∃ (s : State) (p : Nat) (o : MemForm) (rd seg off n isz a : Nat), memIn (s.pair p) o = some (rd, seg, off, n, isz) ∧ Runs s p isz ∧ accessOf s p seg 1 off n n = .window a :=
  ⟨wMem, 0, .mem 1 1 3 2 1, 1, 1, 0x44, 4, 4, windowBase 0 + 0x44, by decide⟩
theorem test_keeperLoadsAndStores_6 : ∃ (s : State) (p : Nat) (o : MemForm) (rd seg off n isz a : Nat), memIn (s.pair p) o = some (rd, seg, off, n, isz) ∧ Runs s p isz ∧ accessOf s p seg 1 off n n = .fabric a ∧ isMemory a = true :=
  ⟨wFab, 0, .mem 1 4 3 0 0, 1, 4, 0x40, 1, 4, 0x10300040, by decide⟩
theorem test_keeperLoadsAndStores_7 : ∃ (s : State) (p : Nat) (o : MemForm) (rd seg off n isz a : Nat), memIn (s.pair p) o = some (rd, seg, off, n, isz) ∧ Runs s p isz ∧ accessOf s p seg 1 off n n = .fabric a ∧ isNvm a = true :=
  ⟨wNvm, 8, .mem 1 4 3 0 0, 1, 4, 0x40, 1, 4, 0x30000040, by decide⟩
theorem test_keeperLoadsAndStores_8b : ∃ (s : State) (p : Nat) (o : MemForm) (rd seg off n isz a : Nat), memIn (s.pair p) o = some (rd, seg, off, n, isz) ∧ Runs s p isz ∧ accessOf s p seg 1 off n n = .fabric a ∧ isMemory a = false ∧ isNvm a = false ∧ isVault a = true :=
  ⟨wVt, 8, .mem 1 4 3 0 0, 1, 4, 0x40, 1, 4, 0x480000040, by decide +kernel⟩
theorem test_keeperLoadsAndStores_8c : ∃ (s : State) (p : Nat) (o : MemForm) (rd seg off n isz a : Nat), memIn (s.pair p) o = some (rd, seg, off, n, isz) ∧ Runs s p isz ∧ accessOf s p seg 1 off n n = .fabric a ∧ isMemory a = false ∧ isNvm a = false ∧ (isVault a = false ∧ (0x800000 ≤ a ∨ regPlace a = none)) :=
  ⟨wSlot, 0, .mem 1 4 3 0 0, 1, 4, 0x40, 1, 4, 0x40, by decide +kernel⟩
theorem test_keeperLoadsAndStores_8 : ∃ (s : State) (p : Nat) (o : MemForm) (rd seg off n isz a : Nat), memIn (s.pair p) o = some (rd, seg, off, n, isz) ∧ Runs s p isz ∧ accessOf s p seg 1 off n n = .fabric a ∧ isMemory a = false ∧ isNvm a = false :=
  ⟨wVt, 8, .mem 1 4 3 0 0, 1, 4, 0x40, 1, 4, 0x480000040, by decide +kernel⟩
theorem test_keeperLoadsAndStores_9 : ∃ (s : State) (p : Nat) (o : MemForm) (rd seg off n isz c : Nat), memIn (s.pair p) o = some (rd, seg, off, n, isz) ∧ Runs s p isz ∧ accessOf s p seg 0 off n n = .seg c ∧ accessOf s p seg 1 off n n = .seg c :=
  ⟨wMem, 0, .mem 1 5 3 2 1, 1, 5, 0x44, 4, 4, 4, by decide⟩
theorem test_keeperLoadsAndStores_10 : ∃ (s : State) (p rd disp a : Nat), Runs s p 4 ∧ accessOf s p 0 2 (((s.pair p).pc.toNat / 16 * 16 + signedOff 20 disp 16) % 2 ^ 32) 16 1 = .window a :=
  ⟨wMem, 0, 6, 2 ^ 20 - 1, windowBase 0 + 0xF0, by decide⟩
theorem test_keeperLoadsAndStores_11 : ∃ (s : State) (p reg a : Nat), Runs s p 2 ∧ accessOf s p 2 1 (((s.pair p).spOf (s.pair p).ring + 2 ^ 32 - 16) % 2 ^ 32) 16 16 = .window a :=
  ⟨wMem, 0, 1, windowBase 0 + 0x1F0, by decide⟩
theorem test_keeperLoadsAndStores_12 : ∃ (s : State) (p reg a : Nat), reg < 15 ∧ Runs s p 2 ∧ accessOf s p 2 0 ((s.pair p).spOf (s.pair p).ring) 16 16 = .window a :=
  ⟨wMem, 0, 1, windowBase 0 + 0x200, by decide⟩
theorem test_keeperLoadsAndStores_13 : ∃ (s : State) (p reg c : Nat), Runs s p 2 ∧ accessOf s p 2 1 (((s.pair p).spOf (s.pair p).ring + 2 ^ 32 - 16) % 2 ^ 32) 16 16 = .seg c :=
  ⟨wCore, 0, 1, 1, by decide +kernel⟩

theorem test_keeperJumpsCallsAndReturns_1 : ∃ (s : State) (p c d : Nat) (b : Bool), cond3Holds (s.pair p) c = some b ∧ Runs s p 2 :=
  ⟨wCore, 0, 2, 255, true, by decide⟩
theorem test_keeperJumpsCallsAndReturns_2 : ∃ (s : State) (p c d : Nat), Runs s p 4 :=
  ⟨wCore, 0, 13, 7, by decide⟩
theorem test_keeperJumpsCallsAndReturns_3 : ∃ (s : State) (p d : Nat), Runs s p 2 :=
  ⟨wCore, 0, 7, by decide⟩
theorem test_keeperJumpsCallsAndReturns_4 : ∃ (s : State) (p rs : Nat), Runs s p 4 :=
  ⟨wCore, 0, 1, by decide⟩
theorem test_keeperJumpsCallsAndReturns_5 : ∃ (s : State) (p rs disp a : Nat), Runs s p 4 ∧ accessOf s p 2 1 (((s.pair p).spOf (s.pair p).ring + 2 ^ 32 - 16) % 2 ^ 32) 16 16 = .window a :=
  ⟨wMem, 0, 1, 4, windowBase 0 + 0x1F0, by decide⟩
theorem test_keeperJumpsCallsAndReturns_6 : ∃ (s : State) (p a : Nat), Runs s p 2 ∧ accessOf s p 2 0 ((s.pair p).spOf (s.pair p).ring) 16 16 = .window a :=
  ⟨wMem, 0, windowBase 0 + 0x200, by decide⟩

theorem test_keeperBitInstructions_1 : ∃ (s : State) (p b rd : Nat), Runs s p 4 ∧ bitAllowed (s.pair p).ring b = true :=
  ⟨wCore, 0, 0x8200, 4, by decide⟩
theorem test_keeperBitInstructions_2 : ∃ (s : State) (p b rd : Nat) (arrived : Nat), Runs s p 4 ∧ bitAllowed (s.pair p).ring b = true ∧ b < 0x8000 ∧ Memory.wf s.mem = true :=
  ⟨wMem, 0, 0x4003, 1, 0, by decide⟩
theorem test_keeperBitInstructions_3 : ∃ (s : State) (p i : Nat) (arrived : Nat), Runs s p 4 ∧ (s.pair p).ring ≤ 1 ∧ i < irqSources p :=
  ⟨wCore, 0, 8, 3, by decide⟩
theorem test_keeperBitInstructions_4 : ∃ (s : State) (p b : Nat), Runs s p 4 ∧ (s.pair p).ring ≤ 1 ∧ 0x8000 ≤ b :=
  ⟨wCore, 0, 0x8200, by decide⟩
theorem test_keeperBitInstructions_5 : ∃ (s : State) (p b : Nat), Runs s p 4 ∧ 2 ≤ (s.pair p).ring ∧ (b < 0x4000 ∨ 0x8000 ≤ b) :=
  ⟨wRing2, 0, 0x3FFF, by decide⟩

/-- Pair 0 with block pointers: W3 at 0x400, W4 at 0x800, the value in W1, RC as given. -/
def wBlk (rc : BitVec 32) : State := { wCore.setPair 0 { wPair with w := [(1, 5), (2, 7), (3, 0x400), (4, 0x800)], rc := rc } with
  mem := [(windowBase 0 + 0x400, 5), (windowBase 0 + 0x800, 5)] }
/-- The same with RC 2 and an enabled interrupt pending. -/
def wBlkIrq : State := (wBlk 2).setPair 0 { (wBlk 2).pair 0 with pend := 4, ena := 4, st := 0x20 }
/-- RC 2, source 2 enabled and not pending. -/
def wBlkEna : State := (wBlk 2).setPair 0 { (wBlk 2).pair 0 with ena := 4, st := 0x20 }
def wCopy : BlkForm := { segS := 1, segD := 1, pS := 3, pD := 4, pV := 0, dir := false }
def wFill : BlkForm := { segS := 0, segD := 1, pS := 0, pD := 4, pV := 1, dir := false }
def wZero : BlkForm := { segS := 0, segD := 1, pS := 0, pD := 4, pV := 0, dir := true }

/-- Pair 0 with ring-table entry 0's stack over the window and SP0 = 0x200. -/
def wStack : State := wCore.setPair 0 { wPair with
  rseg := [(0, (wDesc 4).setWidth 256 ||| ((wDesc 3).setWidth 256 <<< 128))], sp := [(0, 0x200)] }

/-- A gate into ring 0 at 0x300, for callers up to ring 3, as the first of one entry at window offset 0x600. -/
def wGateWord : Nat := 0x300 + 3 * 2 ^ 34 + 2 ^ 36
def wGate : State := { wStack.setPair 0 { wStack.pair 0 with gate := BitVec.ofNat 64 (0x600 + 2 ^ 32) } with
  mem := memWriteN [] (windowBase 0 + 0x600) (natLe 16 wGateWord) }

/-- Pair 0 at 2 us of Timebase time, watchdog period 2 us, timer 1 armed for that instant. -/
def wTimer : State := { wCore.setPair 0 { wPair with wdogPeriod := 2, timers := [(1, (2000, true))] } with
  tbs := { wCore.tbs with now := 2000 } }

/-- Pair 0 with its DRBG's pool filled. -/
def wPool : State := wCore.setDrbg 0 { inst := true, pool := List.replicate 256 7 }

theorem test_keeperBlockInstructions_1 : ∃ (s : State) (p : Nat) (o v z : BlkForm), Runs s p 4 ∧ (s.pair p).rc = 0 ∧ blkTwo o = true ∧ blkVal v = true ∧ blkOne z = true :=
  ⟨wBlk 0, 0, wCopy, wFill, wZero, by decide⟩
theorem test_keeperBlockInstructions_2b : ∃ (s u : State) (p a b : Nat) (o : BlkForm), Runs s p 4 ∧ blkTwo o = true ∧ 0 < (s.pair p).rc.toNat ∧ accessOf s p o.segS 0 (ptr s p o.pS) 16 16 = .window a ∧ accessOf s p o.segD 1 (ptr s p o.pD) 16 16 = .window b ∧ u = elemDone { s with mem := memWriteN s.mem b (memReadN s.mem a 16) } p [o.pS, o.pD] o ∧ (s.pair p).rc = 1 :=
  ⟨wBlk 1, _, 0, windowBase 0 + 0x400, windowBase 0 + 0x800, wCopy, by decide, by decide, by decide, by decide, by decide, rfl, by decide⟩
theorem test_keeperBlockInstructions_2c : ∃ (s u : State) (p a b : Nat) (o : BlkForm), Runs s p 4 ∧ blkTwo o = true ∧ 0 < (s.pair p).rc.toNat ∧ accessOf s p o.segS 0 (ptr s p o.pS) 16 16 = .window a ∧ accessOf s p o.segD 1 (ptr s p o.pD) 16 16 = .window b ∧ u = elemDone { s with mem := memWriteN s.mem b (memReadN s.mem a 16) } p [o.pS, o.pD] o ∧ (s.pair p).rc ≠ 1 ∧ takeable (u.pair p) = none :=
  ⟨wBlk 2, _, 0, windowBase 0 + 0x400, windowBase 0 + 0x800, wCopy, by decide, by decide, by decide, by decide, by decide, rfl, by decide⟩
theorem test_keeperBlockInstructions_2d : ∃ (s u : State) (p a b : Nat) (o : BlkForm), Runs s p 4 ∧ blkTwo o = true ∧ 0 < (s.pair p).rc.toNat ∧ accessOf s p o.segS 0 (ptr s p o.pS) 16 16 = .window a ∧ accessOf s p o.segD 1 (ptr s p o.pD) 16 16 = .window b ∧ u = elemDone { s with mem := memWriteN s.mem b (memReadN s.mem a 16) } p [o.pS, o.pD] o ∧ (s.pair p).rc ≠ 1 ∧ takeable (u.pair p) ≠ none :=
  ⟨wBlkIrq, _, 0, windowBase 0 + 0x400, windowBase 0 + 0x800, wCopy, by decide, by decide, by decide, by decide, by decide, rfl, by decide⟩
theorem test_keeperBlockInstructions_2e : ∃ (s u : State) (p a b : Nat) (o : BlkForm), Runs s p 4 ∧ blkTwo o = true ∧ 0 < (s.pair p).rc.toNat ∧ accessOf s p o.segS 0 (ptr s p o.pS) 16 16 = .window a ∧ accessOf s p o.segD 1 (ptr s p o.pD) 16 16 = .window b ∧ u = elemDone { s with mem := memWriteN s.mem b (memReadN s.mem a 16) } p [o.pS, o.pD] o ∧ (s.pair p).rc ≠ 1 ∧ takeable (s.pair p) = none ∧ takeable (u.pair p) ≠ none :=
  ⟨wBlkEna, _, 0, windowBase 0 + 0x400, windowBase 0 + 0x800, { wCopy with irq := some (2, 0) }, by decide, by decide, by decide, by decide, by decide, rfl, by decide⟩
theorem test_keeperBlockInstructions_2 : ∃ (s u : State) (p a b : Nat) (o : BlkForm), Runs s p 4 ∧ blkTwo o = true ∧ 0 < (s.pair p).rc.toNat ∧ accessOf s p o.segS 0 (ptr s p o.pS) 16 16 = .window a ∧ accessOf s p o.segD 1 (ptr s p o.pD) 16 16 = .window b ∧ u = elemDone { s with mem := memWriteN s.mem b (memReadN s.mem a 16) } p [o.pS, o.pD] o :=
  ⟨wBlk 2, _, 0, windowBase 0 + 0x400, windowBase 0 + 0x800, wCopy, by decide, by decide, by decide, by decide, by decide, rfl⟩
theorem test_keeperBlockInstructions_3b : ∃ (s u x : State) (p b : Nat) (v z : BlkForm), Runs s p 4 ∧ blkVal v = true ∧ blkOne z = true ∧ v.segD = z.segD ∧ v.pD = z.pD ∧ v.dir = z.dir ∧ v.irq = z.irq ∧ 0 < (s.pair p).rc.toNat ∧ accessOf s p v.segD 1 (ptr s p v.pD) 16 16 = .window b ∧ u = elemDone { s with mem := memWriteN s.mem b (natLe 16 ((s.pair p).reg v.pV).toNat) } p [v.pD] v ∧ x = elemDone { s with mem := memWriteN s.mem b (List.replicate 16 0) } p [z.pD] z ∧ (s.pair p).rc ≠ 1 ∧ takeable (u.pair p) = none :=
  ⟨wBlk 2, _, _, 0, windowBase 0 + 0x800, { wFill with dir := true }, wZero, by decide, by decide, by decide, by decide, by decide, by decide, by decide, by decide, by decide, rfl, rfl, by decide⟩
theorem test_keeperBlockInstructions_3c : ∃ (s u x : State) (p b : Nat) (v z : BlkForm), Runs s p 4 ∧ blkVal v = true ∧ blkOne z = true ∧ v.segD = z.segD ∧ v.pD = z.pD ∧ v.dir = z.dir ∧ v.irq = z.irq ∧ 0 < (s.pair p).rc.toNat ∧ accessOf s p v.segD 1 (ptr s p v.pD) 16 16 = .window b ∧ u = elemDone { s with mem := memWriteN s.mem b (natLe 16 ((s.pair p).reg v.pV).toNat) } p [v.pD] v ∧ x = elemDone { s with mem := memWriteN s.mem b (List.replicate 16 0) } p [z.pD] z ∧ (s.pair p).rc ≠ 1 ∧ takeable (u.pair p) ≠ none :=
  ⟨wBlkIrq, _, _, 0, windowBase 0 + 0x800, { wFill with dir := true }, wZero, by decide, by decide, by decide, by decide, by decide, by decide, by decide, by decide, by decide, rfl, rfl, by decide⟩
theorem test_keeperBlockInstructions_3 : ∃ (s u x : State) (p b : Nat) (v z : BlkForm), Runs s p 4 ∧ blkVal v = true ∧ blkOne z = true ∧ v.segD = z.segD ∧ v.pD = z.pD ∧ v.dir = z.dir ∧ v.irq = z.irq ∧ 0 < (s.pair p).rc.toNat ∧ accessOf s p v.segD 1 (ptr s p v.pD) 16 16 = .window b ∧ u = elemDone { s with mem := memWriteN s.mem b (natLe 16 ((s.pair p).reg v.pV).toNat) } p [v.pD] v ∧ x = elemDone { s with mem := memWriteN s.mem b (List.replicate 16 0) } p [z.pD] z :=
  ⟨wBlk 1, _, _, 0, windowBase 0 + 0x800, { wFill with dir := true }, wZero, by decide, by decide, by decide, by decide, by decide, by decide, by decide, by decide, by decide, rfl, rfl⟩
theorem test_keeperBlockInstructions_4b : ∃ (s u : State) (p a b : Nat) (o : BlkForm), Runs s p 4 ∧ blkTwo o = true ∧ 0 < (s.pair p).rc.toNat ∧ accessOf s p o.segS 0 (ptr s p o.pS) 16 16 = .window a ∧ accessOf s p o.segD 0 (ptr s p o.pD) 16 16 = .window b ∧ accessOf s p o.segD 1 (ptr s p o.pD) 16 16 = .window b ∧ u = elemDone { s with mem := memWriteN s.mem b (xorBytes (memReadN s.mem b 16) (memReadN s.mem a 16)) } p [o.pS, o.pD] o ∧ (s.pair p).rc ≠ 1 ∧ takeable (u.pair p) = none :=
  ⟨wBlk 2, _, 0, windowBase 0 + 0x400, windowBase 0 + 0x800, wCopy, by decide, by decide, by decide, by decide, by decide, by decide, rfl, by decide⟩
theorem test_keeperBlockInstructions_4c : ∃ (s u : State) (p a b : Nat) (o : BlkForm), Runs s p 4 ∧ blkTwo o = true ∧ 0 < (s.pair p).rc.toNat ∧ accessOf s p o.segS 0 (ptr s p o.pS) 16 16 = .window a ∧ accessOf s p o.segD 0 (ptr s p o.pD) 16 16 = .window b ∧ accessOf s p o.segD 1 (ptr s p o.pD) 16 16 = .window b ∧ u = elemDone { s with mem := memWriteN s.mem b (xorBytes (memReadN s.mem b 16) (memReadN s.mem a 16)) } p [o.pS, o.pD] o ∧ (s.pair p).rc ≠ 1 ∧ takeable (u.pair p) ≠ none :=
  ⟨wBlkIrq, _, 0, windowBase 0 + 0x400, windowBase 0 + 0x800, wCopy, by decide, by decide, by decide, by decide, by decide, by decide, rfl, by decide⟩
theorem test_keeperBlockInstructions_4 : ∃ (s u : State) (p a b : Nat) (o : BlkForm), Runs s p 4 ∧ blkTwo o = true ∧ 0 < (s.pair p).rc.toNat ∧ accessOf s p o.segS 0 (ptr s p o.pS) 16 16 = .window a ∧ accessOf s p o.segD 0 (ptr s p o.pD) 16 16 = .window b ∧ accessOf s p o.segD 1 (ptr s p o.pD) 16 16 = .window b ∧ u = elemDone { s with mem := memWriteN s.mem b (xorBytes (memReadN s.mem b 16) (memReadN s.mem a 16)) } p [o.pS, o.pD] o :=
  ⟨wBlk 1, _, 0, windowBase 0 + 0x400, windowBase 0 + 0x800, wCopy, by decide, by decide, by decide, by decide, by decide, by decide, rfl⟩
theorem test_keeperBlockInstructions_5b : ∃ (s u : State) (p a b : Nat) (o : BlkForm), Runs s p 4 ∧ blkTwo o = true ∧ 0 < (s.pair p).rc.toNat ∧ accessOf s p o.segS 0 (ptr s p o.pS) 16 16 = .window a ∧ accessOf s p o.segD 0 (ptr s p o.pD) 16 16 = .window b ∧ u = elemDone s p [o.pS, o.pD] o ∧ memReadN s.mem a 16 ≠ memReadN s.mem b 16 :=
  ⟨{ wBlk 2 with mem := [(windowBase 0 + 0x400, 5)] }, _, 0, windowBase 0 + 0x400, windowBase 0 + 0x800, wCopy, by decide, by decide, by decide, by decide, by decide, rfl, by decide +kernel⟩
theorem test_keeperBlockInstructions_5c : ∃ (s u : State) (p a b : Nat) (o : BlkForm), Runs s p 4 ∧ blkTwo o = true ∧ 0 < (s.pair p).rc.toNat ∧ accessOf s p o.segS 0 (ptr s p o.pS) 16 16 = .window a ∧ accessOf s p o.segD 0 (ptr s p o.pD) 16 16 = .window b ∧ u = elemDone s p [o.pS, o.pD] o ∧ (s.pair p).rc ≠ 1 ∧ memReadN s.mem a 16 = memReadN s.mem b 16 ∧ takeable (u.pair p) = none :=
  ⟨wBlk 2, _, 0, windowBase 0 + 0x400, windowBase 0 + 0x800, wCopy, by decide, by decide, by decide, by decide, by decide, rfl, by decide +kernel⟩
theorem test_keeperBlockInstructions_5d : ∃ (s u : State) (p a b : Nat) (o : BlkForm), Runs s p 4 ∧ blkTwo o = true ∧ 0 < (s.pair p).rc.toNat ∧ accessOf s p o.segS 0 (ptr s p o.pS) 16 16 = .window a ∧ accessOf s p o.segD 0 (ptr s p o.pD) 16 16 = .window b ∧ u = elemDone s p [o.pS, o.pD] o ∧ (s.pair p).rc ≠ 1 ∧ memReadN s.mem a 16 = memReadN s.mem b 16 ∧ takeable (u.pair p) ≠ none :=
  ⟨wBlkIrq, _, 0, windowBase 0 + 0x400, windowBase 0 + 0x800, wCopy, by decide, by decide, by decide, by decide, by decide, rfl, by decide +kernel⟩
theorem test_keeperBlockInstructions_5 : ∃ (s u : State) (p a b : Nat) (o : BlkForm), Runs s p 4 ∧ blkTwo o = true ∧ 0 < (s.pair p).rc.toNat ∧ accessOf s p o.segS 0 (ptr s p o.pS) 16 16 = .window a ∧ accessOf s p o.segD 0 (ptr s p o.pD) 16 16 = .window b ∧ u = elemDone s p [o.pS, o.pD] o :=
  ⟨wBlk 1, _, 0, windowBase 0 + 0x400, windowBase 0 + 0x800, wCopy, by decide, by decide, by decide, by decide, by decide, rfl⟩
theorem test_keeperBlockInstructions_6b : ∃ (s u : State) (p b : Nat) (v : BlkForm), Runs s p 4 ∧ blkVal v = true ∧ 0 < (s.pair p).rc.toNat ∧ accessOf s p v.segD 0 (ptr s p v.pD) 16 16 = .window b ∧ u = elemDone s p [v.pD] v ∧ (s.pair p).rc = 1 ∧ memReadN s.mem b 16 ≠ natLe 16 ((s.pair p).reg v.pV).toNat :=
  ⟨wBlk 1, _, 0, windowBase 0 + 0x800, { wFill with pV := 2 }, by decide, by decide, by decide, by decide, rfl, by decide +kernel⟩
theorem test_keeperBlockInstructions_6c : ∃ (s u : State) (p b : Nat) (v : BlkForm), Runs s p 4 ∧ blkVal v = true ∧ 0 < (s.pair p).rc.toNat ∧ accessOf s p v.segD 0 (ptr s p v.pD) 16 16 = .window b ∧ u = elemDone s p [v.pD] v ∧ (s.pair p).rc ≠ 1 ∧ memReadN s.mem b 16 ≠ natLe 16 ((s.pair p).reg v.pV).toNat ∧ takeable (u.pair p) = none :=
  ⟨wBlk 2, _, 0, windowBase 0 + 0x800, { wFill with pV := 2 }, by decide, by decide, by decide, by decide, rfl, by decide +kernel⟩
theorem test_keeperBlockInstructions_6d : ∃ (s u : State) (p b : Nat) (v : BlkForm), Runs s p 4 ∧ blkVal v = true ∧ 0 < (s.pair p).rc.toNat ∧ accessOf s p v.segD 0 (ptr s p v.pD) 16 16 = .window b ∧ u = elemDone s p [v.pD] v ∧ (s.pair p).rc ≠ 1 ∧ memReadN s.mem b 16 ≠ natLe 16 ((s.pair p).reg v.pV).toNat ∧ takeable (u.pair p) ≠ none :=
  ⟨wBlkIrq, _, 0, windowBase 0 + 0x800, { wFill with pV := 2 }, by decide, by decide, by decide, by decide, rfl, by decide +kernel⟩
theorem test_keeperBlockInstructions_6 : ∃ (s u : State) (p b : Nat) (v : BlkForm), Runs s p 4 ∧ blkVal v = true ∧ 0 < (s.pair p).rc.toNat ∧ accessOf s p v.segD 0 (ptr s p v.pD) 16 16 = .window b ∧ u = elemDone s p [v.pD] v :=
  ⟨wBlk 1, _, 0, windowBase 0 + 0x800, wFill, by decide, by decide, by decide, by decide, rfl⟩
theorem test_keeperBlockInstructions_7 : ∃ (s : State) (p c : Nat) (o : BlkForm), Runs s p 4 ∧ 0 < (s.pair p).rc.toNat ∧ blkTwo o = true ∧ accessOf s p o.segS 0 (ptr s p o.pS) 16 16 = .seg c :=
  ⟨wBlk 1, 0, 4, { wCopy with segS := 6 }, by decide⟩
theorem test_keeperBlockInstructions_8 : ∃ (s : State) (p : Nat) (o : BlkForm), Runs s p 4 ∧ blkTwo o = false :=
  ⟨wBlk 1, 0, { wCopy with pD := 3 }, by decide⟩

theorem test_keeperSpecialRegistersFencesAndWaits_1 : ∃ (s : State) (p sr rs rd : Nat), Runs s p 4 ∧ sr < 8 ∧ (s.pair p).ring = 0 ∧ ((s.pair p).reg rs).toNat % 16 = 0 ∧ ((s.pair p).reg rs).toNat &&& descMask = ((s.pair p).reg rs).toNat :=
  ⟨wCore.setPair 0 { wPair with w := [(1, wDesc 7)] }, 0, 5, 1, 2, by decide +kernel⟩
theorem test_keeperSpecialRegistersFencesAndWaits_2b : ∃ (s : State) (p sr rs : Nat), Runs s p 4 ∧ sr < 8 ∧ (s.pair p).ring ≠ 0 :=
  ⟨wRing2, 0, 5, 1, by decide⟩
theorem test_keeperSpecialRegistersFencesAndWaits_2c : ∃ (s : State) (p sr rs : Nat), Runs s p 4 ∧ sr < 8 ∧ (s.pair p).ring = 0 ∧ ((s.pair p).reg rs).toNat % 16 ≠ 0 :=
  ⟨wCore, 0, 7, 1, by decide⟩
theorem test_keeperSpecialRegistersFencesAndWaits_2 : ∃ (s : State) (p sr rs : Nat), Runs s p 4 ∧ sr < 8 :=
  ⟨wRing2, 0, 5, 1, by decide⟩
theorem test_keeperSpecialRegistersFencesAndWaits_3b : ∃ (s : State) (p rs : Nat), Runs s p 4 ∧ (s.pair p).ring = 0 :=
  ⟨wCore, 0, 1, by decide⟩
theorem test_keeperSpecialRegistersFencesAndWaits_3 : ∃ (s : State) (p rs : Nat), Runs s p 4 :=
  ⟨wCore, 0, 1, by decide⟩
theorem test_keeperSpecialRegistersFencesAndWaits_4 : ∃ (s : State) (p rd sr v : Nat), Runs s p 4 ∧ specialOf (s.pair p) sr = some v :=
  ⟨wCore, 0, 2, 7, 0x100, by decide⟩
theorem test_keeperSpecialRegistersFencesAndWaits_5b : ∃ (s : State) (p rd : Nat), Runs s p 4 ∧ entReady s p = false :=
  ⟨wCore, 0, 1, by decide⟩
theorem test_keeperSpecialRegistersFencesAndWaits_5c : ∃ (s : State) (p rd : Nat), Runs s p 4 ∧ entReady s p = true :=
  ⟨wPool, 0, 1, by decide +kernel⟩
theorem test_keeperSpecialRegistersFencesAndWaits_5 : ∃ (s : State) (p rd : Nat), Runs s p 4 :=
  ⟨wCore, 0, 1, by decide⟩
theorem test_keeperSpecialRegistersFencesAndWaits_6b : ∃ (s : State) (p : Nat), Runs s p 4 ∧ (s.pair p).stores = [] ∧ (s.pair p).ring = 0 :=
  ⟨wCore, 0, by decide⟩
theorem test_keeperSpecialRegistersFencesAndWaits_6c : ∃ (s : State) (p : Nat), Runs s p 4 ∧ (s.pair p).stores ≠ [] :=
  ⟨wCore.setPair 0 { wPair with stores := [(0x10300040, [], false, 0, 0)] }, 0, by decide⟩
theorem test_keeperSpecialRegistersFencesAndWaits_6 : ∃ (s : State) (p : Nat), Runs s p 4 :=
  ⟨wCore, 0, by decide⟩
theorem test_keeperSpecialRegistersFencesAndWaits_7 : ∃ (s : State) (p : Nat), (s.pair p).fencing = true :=
  ⟨wCore.setPair 0 { wPair with fencing := true }, 0, by decide⟩
theorem test_keeperSpecialRegistersFencesAndWaits_8 : ∃ (s : State) (p : Nat), (s.pair p).waiting = true :=
  ⟨wCore.setPair 0 { wPair with waiting := true }, 0, by decide⟩

theorem test_keeperExceptionEntryFrames_1 : ∃ (s : State) (p sp a : Nat), Runs s p 2 ∧ (s.pair p).refugeDepth = 0 ∧ sp = ((s.pair p).spOf 0 + 2 ^ 32 - 32) % 2 ^ 32 ∧ s.frameCause p (ringStack (s.pair p) p 0).toNat 1 0 sp = 0 ∧ a = linear (ringStack (s.pair p) p 0).toNat sp ∧ FramePlace p a :=
  ⟨wStack, 0, 0x1E0, windowBase 0 + 0x1E0, by decide +kernel⟩
theorem test_keeperExceptionEntryFrames_2b : ∃ (s : State) (p sp : Nat), Runs s p 2 ∧ (s.pair p).refugeDepth < 8 ∧ sp = ((s.pair p).spOf 0 + 2 ^ 32 - 32) % 2 ^ 32 ∧ (s.pair p).refugeDepth = 0 ∧ s.frameCause p (ringStack (s.pair p) p 0).toNat 1 0 sp ≠ 0 :=
  ⟨wCore, 0, 2 ^ 32 - 32, by decide +kernel⟩
theorem test_keeperExceptionEntryFrames_2c : ∃ (s : State) (p sp : Nat), Runs s p 2 ∧ (s.pair p).refugeDepth < 8 ∧ sp = ((s.pair p).spOf 0 + 2 ^ 32 - 32) % 2 ^ 32 ∧ 0 < (s.pair p).refugeDepth ∧ sp < 0x100 :=
  ⟨wStack.setPair 0 { wStack.pair 0 with refugeDepth := 1, sp := [(0, 0xE0)] }, 0, 0xC0, by decide +kernel⟩
theorem test_keeperExceptionEntryFrames_2 : ∃ (s : State) (p sp : Nat), Runs s p 2 ∧ (s.pair p).refugeDepth < 8 ∧ sp = ((s.pair p).spOf 0 + 2 ^ 32 - 32) % 2 ^ 32 :=
  ⟨wCore, 0, 2 ^ 32 - 32, by decide +kernel⟩
theorem test_keeperExceptionEntryFrames_3b : ∃ (s : State) (p v sp a : Nat), p ≤ 8 ∧ (s.pair p).halted = false ∧ (s.pair p).resetVector = false ∧ takeable (s.pair p) = some v ∧ (s.pair p).refugeDepth = 0 ∧ sp = ((s.pair p).spOf 0 + 2 ^ 32 - 32) % 2 ^ 32 ∧ s.frameCause p (ringStack (s.pair p) p 0).toNat 1 0 sp = 0 ∧ a = linear (ringStack (s.pair p) p 0).toNat sp ∧ FramePlace p a ∧ v = 1 :=
  ⟨wStack.setPair 0 { wStack.pair 0 with notice := some 0x2007 }, 0, 1, 0x1E0, windowBase 0 + 0x1E0, by decide +kernel⟩
theorem test_keeperExceptionEntryFrames_3 : ∃ (s : State) (p v sp a : Nat), p ≤ 8 ∧ (s.pair p).halted = false ∧ (s.pair p).resetVector = false ∧ takeable (s.pair p) = some v ∧ (s.pair p).refugeDepth = 0 ∧ sp = ((s.pair p).spOf 0 + 2 ^ 32 - 32) % 2 ^ 32 ∧ s.frameCause p (ringStack (s.pair p) p 0).toNat 1 0 sp = 0 ∧ a = linear (ringStack (s.pair p) p 0).toNat sp ∧ FramePlace p a :=
  ⟨wStack.setPair 0 { wStack.pair 0 with pend := 4, ena := 4, st := 0x20 }, 0, 18, 0x1E0, windowBase 0 + 0x1E0, by decide +kernel⟩
theorem test_keeperExceptionEntryFrames_4 : ∃ (s : State) (p : Nat), p ≤ 8 ∧ (s.pair p).halted = false ∧ (s.pair p).resetVector = true :=
  ⟨State.reset, 8, by decide⟩

theorem test_keeperGatesReturnsAndTimers_1 : ∃ (s : State) (p i g r sp a : Nat), Runs s p 4 ∧ gateCause s p i = 0 ∧ gateEntry s p i = some g ∧ r = bitsAt g 32 2 ∧ sp = ((s.pair p).spOf r + 2 ^ 32 - 32) % 2 ^ 32 ∧ s.frameCause p (ringStack (s.pair p) p r).toNat 1 r sp = 0 ∧ a = linear (ringStack (s.pair p) p r).toNat sp ∧ FramePlace p a :=
  ⟨wGate, 0, 0, wGateWord, 0, 0x1E0, windowBase 0 + 0x1E0, by decide +kernel⟩
theorem test_keeperGatesReturnsAndTimers_2 : ∃ (s : State) (p i g r : Nat), Runs s p 4 ∧ gateCause s p i = 0 ∧ gateEntry s p i = some g ∧ r = bitsAt g 32 2 ∧ s.frameCause p (ringStack (s.pair p) p r).toNat 1 r (((s.pair p).spOf r + 2 ^ 32 - 32) % 2 ^ 32) ≠ 0 ∧ (s.pair p).refugeDepth = 0 :=
  ⟨wGate.setPair 0 { wGate.pair 0 with sp := [(0, 0x201)] }, 0, 0, wGateWord, 0, by decide +kernel⟩
theorem test_keeperGatesReturnsAndTimers_3 : ∃ (s : State) (p i : Nat), Runs s p 4 ∧ i < 4096 ∧ bitsAt (s.pair p).gate.toNat 32 13 ≤ i :=
  ⟨wCore, 0, 3, by decide⟩
theorem test_keeperGatesReturnsAndTimers_4b : ∃ (s : State) (p : Nat) (f : Bytes), Runs s p 4 ∧ ((s.pair p).ring ≠ 0 ∨ (s.pair p).refugeDepth = 0) ∧ s.frameCause p ((s.pair p).seg 2) 0 (s.pair p).ring ((s.pair p).spOf (s.pair p).ring) = 0 ∧ FramePlace p (linear ((s.pair p).seg 2) ((s.pair p).spOf (s.pair p).ring)) ∧ f = memReadN s.mem (linear ((s.pair p).seg 2) ((s.pair p).spOf (s.pair p).ring)) 32 ∧ field f 4 4 < 256 ∧ (s.pair p).ring ≤ bitsAt (field f 4 4) 6 2 :=
  ⟨wStack, 0, List.replicate 32 0, by decide +kernel⟩
theorem test_keeperGatesReturnsAndTimers_4c : ∃ (s : State) (p : Nat) (f : Bytes), Runs s p 4 ∧ ((s.pair p).ring ≠ 0 ∨ (s.pair p).refugeDepth = 0) ∧ s.frameCause p ((s.pair p).seg 2) 0 (s.pair p).ring ((s.pair p).spOf (s.pair p).ring) = 0 ∧ FramePlace p (linear ((s.pair p).seg 2) ((s.pair p).spOf (s.pair p).ring)) ∧ f = memReadN s.mem (linear ((s.pair p).seg 2) ((s.pair p).spOf (s.pair p).ring)) 32 ∧ field f 4 4 < 256 ∧ bitsAt (field f 4 4) 6 2 < (s.pair p).ring :=
  ⟨wStack.setPair 0 { wStack.pair 0 with st := 0x80, sp := [(2, 0x200)] }, 0, List.replicate 32 0, by decide +kernel⟩
theorem test_keeperGatesReturnsAndTimers_4d : ∃ (s : State) (p : Nat) (f : Bytes), Runs s p 4 ∧ ((s.pair p).ring ≠ 0 ∨ (s.pair p).refugeDepth = 0) ∧ s.frameCause p ((s.pair p).seg 2) 0 (s.pair p).ring ((s.pair p).spOf (s.pair p).ring) = 0 ∧ FramePlace p (linear ((s.pair p).seg 2) ((s.pair p).spOf (s.pair p).ring)) ∧ f = memReadN s.mem (linear ((s.pair p).seg 2) ((s.pair p).spOf (s.pair p).ring)) 32 ∧ 256 ≤ field f 4 4 :=
  ⟨{ wStack with mem := [(windowBase 0 + 0x205, 1)] }, 0, [0, 0, 0, 0, 0, 1] ++ List.replicate 26 0, by decide +kernel⟩
theorem test_keeperGatesReturnsAndTimers_4 : ∃ (s : State) (p : Nat) (f : Bytes), Runs s p 4 ∧ ((s.pair p).ring ≠ 0 ∨ (s.pair p).refugeDepth = 0) ∧ s.frameCause p ((s.pair p).seg 2) 0 (s.pair p).ring ((s.pair p).spOf (s.pair p).ring) = 0 ∧ FramePlace p (linear ((s.pair p).seg 2) ((s.pair p).spOf (s.pair p).ring)) ∧ f = memReadN s.mem (linear ((s.pair p).seg 2) ((s.pair p).spOf (s.pair p).ring)) 32 :=
  ⟨wStack, 0, List.replicate 32 0, by decide +kernel⟩
theorem test_keeperGatesReturnsAndTimers_5 : ∃ (s : State) (p : Nat) (f : Bytes), Runs s p 4 ∧ (s.pair p).ring = 0 ∧ 0 < (s.pair p).refugeDepth ∧ s.frameCause p (refugeDesc p).toNat 0 0 ((s.pair p).spOf 0) = 0 ∧ f = memReadN s.mem (windowBase p + 0xFEF00 + (s.pair p).spOf 0) 32 ∧ field f 4 4 < 256 :=
  ⟨wStack.setPair 0 { wStack.pair 0 with refugeDepth := 1, sp := [(0, 0xE0)] }, 0, List.replicate 32 0, by decide +kernel⟩
theorem test_keeperGatesReturnsAndTimers_6b : ∃ (s : State) (p : Nat), p ≤ 8 ∧ (s.pair p).wdogPeriod ≠ 0 ∧ (s.pair p).wdogSpent = false ∧ (s.pair p).wdogKick + 1000 * (s.pair p).wdogPeriod ≤ s.tbs.now :=
  ⟨wTimer, 0, by decide⟩
theorem test_keeperGatesReturnsAndTimers_6c : ∃ (s : State) (p : Nat), p ≤ 8 ∧ (s.pair p).ring = 0 :=
  ⟨wTimer, 8, by decide⟩
theorem test_keeperGatesReturnsAndTimers_6d : ∃ (s : State) (p : Nat), p ≤ 8 ∧ (∃ k instant, k < 2 ∧ tabGet (s.pair p).timers k (0, false) = (instant, true) ∧ instant ≤ s.tbs.now ∧ s.tbs.now < instant + 2 ^ 47 ∧ instant < 2 ^ 48) :=
  ⟨wTimer, 0, by exact ⟨by decide, 1, 2000, by decide⟩⟩
theorem test_keeperGatesReturnsAndTimers_6 : ∃ (s : State) (p : Nat), p ≤ 8 :=
  ⟨wCore, 0, by decide⟩

/-- Reset with another Spring. -/
def withSpg (g : SpgState) : State := { State.reset with spg := g }
def wSeed : Seed := { bytes := List.replicate 64 1, fromA := true, fromB := false, at_ := 0 }

/-- Entry 3 holds an ENTROPY.RAW of 512 samples of source A that Fountainhead serves. -/
def wRawCmd : Cmd := wPf0 0x0570 (natLe 4 0 ++ natLe 4 512)
def wRaw : State := wMgmt wRawCmd

/-- SHA-256 of 64 bytes at local offset 0x30_0000 into 0x30_1000, for entry 5. -/
def wJobWord : Nat := 0x10 + 0x300000 * 2 ^ 64 + 0x301000 * 2 ^ 96 + 64 * 2 ^ 128 + 5 * 2 ^ 192
/-- The basin's DRBG is instantiated. -/
def wCasSeeded : State := wCas.setDrbg 0 { inst := true }

theorem test_springSourceTestsAndExclusion_1b : ∃ (s : State) (b : Bool) (bias l1 l2 l3 : Int), bias.natAbs ≤ 2048 ∧ l1.natAbs ≤ 2048 ∧ l2.natAbs ≤ 2048 ∧ l3.natAbs ≤ 2048 :=
  ⟨State.reset, true, 2048, -2048, 0, 1, by decide⟩
theorem test_springSourceTestsAndExclusion_1c : ∃ (s : State) (b : Bool) (bias l1 l2 l3 : Int), 2048 < bias.natAbs :=
  ⟨State.reset, true, -2049, 0, 0, 1, by decide⟩
theorem test_springSourceTestsAndExclusion_2 : ∃ (s : State) (b : Bool) (rct apt : Nat) (blocks : List Bytes), (s.src b).settle = none ∧ rct < (if b then 39 else 61) ∧ apt < (if b then 685 else 814) ∧ (s.src b).startWin = true :=
  ⟨withSpg { srcB := { settle := none, startWin := true } }, true, 38, 684, [], by decide⟩
theorem test_springSourceTestsAndExclusion_3b : ∃ (s : State) (b : Bool) (rct apt : Nat) (blk : Bytes), (s.src b).settle = none ∧ rct < (if b then 39 else 61) ∧ apt < (if b then 685 else 814) ∧ (s.src b).startWin = false ∧ (s.src b).st = 1 ∧ s.spg.raw = none ∧ s.spg.fatal = false ∧ s.spg.buffer.length < 16 ∧ s.spg.cond.length = 3 :=
  ⟨withSpg { srcA := { settle := none, startWin := false, st := 1 }, cond := [([], true), ([], true), ([], true)] }, false, 60, 813, [], by decide⟩
theorem test_springSourceTestsAndExclusion_3 : ∃ (s : State) (b : Bool) (rct apt : Nat) (blk : Bytes), (s.src b).settle = none ∧ rct < (if b then 39 else 61) ∧ apt < (if b then 685 else 814) ∧ (s.src b).startWin = false ∧ (s.src b).st = 1 ∧ s.spg.raw = none ∧ s.spg.fatal = false ∧ s.spg.buffer.length < 16 :=
  ⟨withSpg { srcA := { settle := none, startWin := false, st := 1 } }, false, 60, 813, [], by decide⟩
theorem test_springSourceTestsAndExclusion_4b : ∃ (s : State) (b : Bool) (rct apt : Nat) (blocks : List Bytes), (s.src b).settle = none ∧ ((if b then 39 else 61) ≤ rct ∨ (if b then 685 else 814) ≤ apt) ∧ s.spg.raw = none ∧ (s.src b).st ≠ 3 ∧ (s.src (!b)).st ≠ 3 ∧ ((s.src b).fails.filter (fun x => decide (s.tbs.now < x + 1000000000))).length = 2 :=
  ⟨withSpg { srcA := { settle := none, fails := [0, 0] }, srcB := { settle := none } }, false, 0, 814, [], by decide⟩
theorem test_springSourceTestsAndExclusion_4 : ∃ (s : State) (b : Bool) (rct apt : Nat) (blocks : List Bytes), (s.src b).settle = none ∧ ((if b then 39 else 61) ≤ rct ∨ (if b then 685 else 814) ≤ apt) ∧ s.spg.raw = none ∧ (s.src b).st ≠ 3 ∧ (s.src (!b)).st ≠ 3 :=
  ⟨withSpg { srcA := { settle := none }, srcB := { settle := none } }, false, 61, 0, [], by decide⟩
theorem test_springSourceTestsAndExclusion_5 : ∃ (s : State) (b : Bool) (t0 : Nat), (s.src b).settle = some t0 :=
  ⟨withSpg { srcA := { settle := some 5 } }, false, 5, by decide⟩
theorem test_springSourceTestsAndExclusion_6 : ∃ (s : State) (b : Bool), (s.src b).st = 3 ∧ (∀ x ∈ (s.src b).fails, x + 1000000000 ≤ s.tbs.now) :=
  ⟨withSpg { srcA := { settle := none, st := 3, fails := [] } }, false, by decide⟩

theorem test_springDrbgsPoolsAndRawRuns_1 : ∃ (s : State) (n : Nat) (x : Seed) (rest : List Seed), s.spg.buffer = x :: rest ∧ (s.drbg n).inst = false ∧ s.spg.fatal = false ∧ drbgPowered s n = true ∧ drbgTurn s n = true ∧ s.spg.seeded = true :=
  ⟨withSpg { buffer := [wSeed], seeded := true }, 8, wSeed, [], by decide +kernel⟩
theorem test_springDrbgsPoolsAndRawRuns_2 : ∃ (s : State) (n : Nat) (x : Seed) (rest : List Seed), s.spg.buffer = x :: rest ∧ (s.drbg n).inst = true ∧ s.spg.fatal = false ∧ (s.spg.reseed.getLsbD n = true ∨ 2 ^ 16 ≤ (s.drbg n).calls ∨ (s.drbg n).lastReseed + 100000000 ≤ s.tbs.now) ∧ n < 9 :=
  ⟨withSpg { buffer := [wSeed], reseed := 256, drbgs := [(8, { inst := true })] }, 8, wSeed, [], by decide +kernel⟩
theorem test_springDrbgsPoolsAndRawRuns_3 : ∃ (s : State) (f : FnId) (v : BitVec 32), f.vf = 0 ∧ s.spg.fatal = false :=
  ⟨State.reset, ⟨false, 0⟩, 0x1FF, by decide⟩
theorem test_springDrbgsPoolsAndRawRuns_4b : ∃ (s : State) (n len : Nat), canGenerate s n = true ∧ (s.drbg n).pool.length ≤ randomPool n ∧ (2 * (s.drbg n).pool.length < randomPool n ∨ (s.drbg n).filling = true) ∧ entReady s n = false ∧ 16 ≤ len ∧ 16 ≤ randomPool n - (s.drbg n).pool.length :=
  ⟨withSpg { drbgs := [(8, { inst := true })] }, 8, 16, by decide +kernel⟩
theorem test_springDrbgsPoolsAndRawRuns_4 : ∃ (s : State) (n len : Nat), canGenerate s n = true ∧ (s.drbg n).pool.length ≤ randomPool n ∧ (2 * (s.drbg n).pool.length < randomPool n ∨ (s.drbg n).filling = true) :=
  ⟨withSpg { drbgs := [(8, { inst := true })] }, 8, 16, by decide +kernel⟩
theorem test_springDrbgsPoolsAndRawRuns_5b : ∃ (s : State) (e n : Nat) (c : Cmd) (b : Bool), s.ready e (· == 0x0570) = some c ∧ s.spg.raw = none ∧ b = (param c.desc 0 1 == 1) ∧ n = param c.desc 4 4 ∧ ((s.src (!b)).st < 2 ∨ s.spg.fatal = true) :=
  ⟨wRaw, 3, 512, wRawCmd, false, by decide +kernel⟩
theorem test_springDrbgsPoolsAndRawRuns_5c : ∃ (s : State) (e n : Nat) (c : Cmd) (b : Bool), s.ready e (· == 0x0570) = some c ∧ s.spg.raw = none ∧ b = (param c.desc 0 1 == 1) ∧ n = param c.desc 4 4 ∧ 2 ≤ (s.src (!b)).st ∧ s.spg.fatal = false :=
  ⟨{ wRaw with spg := { wRaw.spg with srcB := { st := 3 } } }, 3, 512, wRawCmd, false, by decide +kernel⟩
theorem test_springDrbgsPoolsAndRawRuns_5 : ∃ (s : State) (e n : Nat) (c : Cmd) (b : Bool), s.ready e (· == 0x0570) = some c ∧ s.spg.raw = none ∧ b = (param c.desc 0 1 == 1) ∧ n = param c.desc 4 4 :=
  ⟨wRaw, 3, 512, wRawCmd, false, by decide +kernel⟩
theorem test_springDrbgsPoolsAndRawRuns_6 : ∃ (s : State) (samples : Bytes) (rct apt n e till : Nat) (c : Cmd) (b : Bool), s.spg.raw = some (b, n, e, till) ∧ till ≤ s.tbs.now ∧ s.ready e (· == 0x0570) = some c :=
  ⟨{ wRaw with spg := { wRaw.spg with raw := some (false, 512, 3, 0) } }, [], 0, 0, 512, 3, 0, wRawCmd, false, by decide +kernel⟩

theorem test_keeperJetJobs_1 : ∃ (s : State) (b err : Nat) (j : BitVec 256), b < 8 ∧ (s.basin b).jobState ≠ 1 ∧ jobFails s b j.toNat = err ∧ err ≠ 0 :=
  ⟨wCas, 0, 1, 0xFF, by decide⟩
theorem test_keeperJetJobs_2b : ∃ (s : State) (b : Nat) (j : BitVec 256) (ls : List Nat), b < 8 ∧ (s.basin b).jobState ≠ 1 ∧ jobFails s b j.toNat = 0 ∧ s.hwCheck (0x10 + b) (localBase b + jobSrc j.toNat) (max 1 (jobLen j.toNat)) false (some (jobEntry j.toNat)) = none ∧ ls = (freeLanes (s.basin b) (jobHashes j.toNat)).take (jobLaneCount j.toNat) ∧ jobFits s b j.toNat = true ∧ jobDraws j.toNat = false :=
  ⟨wCasSeeded, 0, BitVec.ofNat 256 wJobWord, [8], by decide +kernel⟩
theorem test_keeperJetJobs_2c : ∃ (s : State) (b : Nat) (j : BitVec 256) (ls : List Nat), b < 8 ∧ (s.basin b).jobState ≠ 1 ∧ jobFails s b j.toNat = 0 ∧ s.hwCheck (0x10 + b) (localBase b + jobSrc j.toNat) (max 1 (jobLen j.toNat)) false (some (jobEntry j.toNat)) = none ∧ ls = (freeLanes (s.basin b) (jobHashes j.toNat)).take (jobLaneCount j.toNat) ∧ jobFits s b j.toNat = false :=
  ⟨wCas, 0, BitVec.ofNat 256 wJobWord, [8], by decide +kernel⟩
theorem test_keeperJetJobs_2 : ∃ (s : State) (b : Nat) (j : BitVec 256) (ls : List Nat), b < 8 ∧ (s.basin b).jobState ≠ 1 ∧ jobFails s b j.toNat = 0 ∧ s.hwCheck (0x10 + b) (localBase b + jobSrc j.toNat) (max 1 (jobLen j.toNat)) false (some (jobEntry j.toNat)) = none ∧ ls = (freeLanes (s.basin b) (jobHashes j.toNat)).take (jobLaneCount j.toNat) :=
  ⟨wCasSeeded, 0, BitVec.ofNat 256 wJobWord, [8], by decide +kernel⟩
theorem test_keeperJetJobs_3b : ∃ (s : State) (b : Nat) (j : BitVec 256), (s.basin b).jobState = 1 ∧ b < 8 ∧ (s.basin b).jobLanes = 0 ∧ jobFits s b (s.basin b).job.toNat = false :=
  ⟨State.reset.setBasin 2 { jobState := 1 }, 2, 0, by decide⟩
theorem test_keeperJetJobs_3 : ∃ (s : State) (b : Nat) (j : BitVec 256), (s.basin b).jobState = 1 :=
  ⟨State.reset.setBasin 2 { jobState := 1 }, 2, 0, by decide⟩
theorem test_keeperJetJobs_4 : ∃ (s : State) (b n j : Nat), b < 8 ∧ (s.basin b).jobState = 1 ∧ (s.basin b).jobLanes ≠ 0 ∧ j = (s.basin b).job.toNat ∧ jobDigest (jobAlg j) = some n ∧ jobMode j = 0 ∧ jobDst j + n ≤ 0x400000 ∧ weirCheck s (0x10 + b) 0 s.wei.live (localBase b + jobDst j) n true = none :=
  ⟨State.reset.setBasin 0 { jobState := 1, jobLanes := 256, job := BitVec.ofNat 256 wJobWord }, 0, 32, wJobWord, by decide +kernel⟩
theorem test_keeperJetJobs_5 : ∃ (s : State) (b j : Nat), b < 8 ∧ (s.basin b).jobState = 1 ∧ (s.basin b).jobLanes ≠ 0 ∧ j = (s.basin b).job.toNat ∧ jobHashes j = false ∧ (jobMode j = 7 ∨ jobMode j = 8 ∨ jobMode j = 9) ∧ jobDir j = true ∧ jobDst j + 1 ≤ 0x400000 ∧ weirCheck s (0x10 + b) 0 s.wei.live (localBase b + jobDst j) 1 true = none :=
  ⟨State.reset.setBasin 0 { jobState := 1, jobLanes := 1, job := BitVec.ofNat 256 (wJobWord - 0x10 + 0x1703) }, 0, wJobWord - 0x10 + 0x1703, by decide +kernel⟩

/-- A session of a purpose that needs three approvals, with n counted. -/
def wSess (p n : Nat) : Session :=
  { purpose := p, number := 1, arg := 0, subject := List.replicate 48 0, challenge := [], m := 3, ends := 5, counted := List.replicate n 0 }
/-- Fountainhead serves PF0's command in an operating state, with a session; a Layout is active. -/
def wQ (o : OpState) (x : Option Session) (c : Cmd) : State :=
  { wMgmt c with fnt := { State.reset.fnt with op := o, session := x }, lay := { active := some { quorumM := 3 } } }
def wPool8 (s : State) : State :=
  { (s.setDrbg 8 { inst := true, pool := List.replicate 96 1 }) with spg := { (s.setDrbg 8 { inst := true, pool := List.replicate 96 1 }).spg with
      buffer := [{ bytes := [], fromA := true, fromB := false, at_ := 0 }], srcA := { st := 1 } } }
def wOpen487 (p : Nat) : Cmd := wPf0 0x0530 [BitVec.ofNat 8 p]
def wClose (a n : Nat) : Cmd := wPf0 0x0531 (natLe 8 a ++ natLe 8 n)
/-- DEBUG.INSTALL of one byte. -/
def wCertIn : Cmd := { wPf0 0x0560 [] with desc := (wPf0 0x0560 []).desc.set 0x28 1, input := [7] }
def wStageFw (kind last off : Nat) (inp : Bytes) : Cmd := { wPf0 0x0510 (natLe 1 kind ++ natLe 1 last ++ natLe 2 0 ++ natLe 4 off) with input := inp }

theorem test_quorumSessionsOpenCommitAndEnd_1b : ∃ (s : State) (e p : Nat) (c : Cmd), s.ready e (· == 0x0530) = some c ∧ c.basin = none ∧ param c.desc 1 1 = 0 ∧ p = param c.desc 0 1 ∧ s.fnt.session.isSome = true :=
  ⟨wQ .serving (some (wSess 7 0)) (wOpen487 7), 3, 7, wOpen487 7, by decide +kernel⟩
theorem test_quorumSessionsOpenCommitAndEnd_1c : ∃ (s : State) (e p : Nat) (c : Cmd), s.ready e (· == 0x0530) = some c ∧ c.basin = none ∧ param c.desc 1 1 = 0 ∧ p = param c.desc 0 1 ∧ purposeAllowed p s.gateOp = false :=
  ⟨wQ .maintenance none (wOpen487 7), 3, 7, wOpen487 7, by decide +kernel⟩
theorem test_quorumSessionsOpenCommitAndEnd_1d : ∃ (s : State) (e p : Nat) (c : Cmd), s.ready e (· == 0x0530) = some c ∧ c.basin = none ∧ param c.desc 1 1 = 0 ∧ p = param c.desc 0 1 ∧ p ≠ 8 ∧ purposeReady s c = false :=
  ⟨wQ .restoreOnly none (wOpen487 6), 3, 6, wOpen487 6, by decide +kernel⟩
theorem test_quorumSessionsOpenCommitAndEnd_1e : ∃ (s : State) (e p : Nat) (c : Cmd), s.ready e (· == 0x0530) = some c ∧ c.basin = none ∧ param c.desc 1 1 = 0 ∧ p = param c.desc 0 1 ∧ p = 8 ∧ s.fnt.session = none ∧ purposeAllowed p s.gateOp = true ∧ certReason s 2 c.input = some 1 :=
  ⟨wQ .serving none (wOpen487 8), 3, 8, wOpen487 8, by decide +kernel⟩
theorem test_quorumSessionsOpenCommitAndEnd_1f : ∃ (s : State) (e p : Nat) (c : Cmd), s.ready e (· == 0x0530) = some c ∧ c.basin = none ∧ param c.desc 1 1 = 0 ∧ p = param c.desc 0 1 ∧ (s.fnt.session = none ∧ purposeAllowed p s.gateOp = true ∧ purposeReady s c = true ∧ (p ≠ 8 ∨ certReason s 2 c.input = none) ∧ approvalsFor s p c.input = some 3 ∧ p ≠ 4 ∧ 32 ≤ (s.drbg 8).pool.length) :=
  ⟨wPool8 (wQ .serving none (wOpen487 7)), 3, 7, wOpen487 7, by decide +kernel⟩
theorem test_quorumSessionsOpenCommitAndEnd_1g : ∃ (s : State) (e p : Nat) (c : Cmd), s.ready e (· == 0x0530) = some c ∧ c.basin = none ∧ param c.desc 1 1 = 0 ∧ p = param c.desc 0 1 ∧ s.fnt.session = none ∧ purposeAllowed 4 s.gateOp = true ∧ purposeReady s c = true ∧ approvalsFor s 4 c.input = some 3 ∧ p = 4 ∧ 32 + 32 * (3 - 1) ≤ (s.drbg 8).pool.length ∧ SeedWaits s 8 :=
  ⟨{ wPool8 (wQ .maintenance none (wOpen487 4)) with lay := { active := some { quorumM := 3, quorum := List.replicate 3 { id := 5, badge := false } } } }, 3, 4, wOpen487 4, by and_intros <;> first | exact ⟨{ bytes := [], fromA := true, fromB := false, at_ := 0 }, [], by decide +kernel, by decide +kernel, by decide +kernel, by decide +kernel⟩ | decide +kernel | rfl⟩
theorem test_quorumSessionsOpenCommitAndEnd_1 : ∃ (s : State) (e p : Nat) (c : Cmd), s.ready e (· == 0x0530) = some c ∧ c.basin = none ∧ param c.desc 1 1 = 0 ∧ p = param c.desc 0 1 :=
  ⟨wPool8 (wQ .serving none (wOpen487 7)), 3, 7, wOpen487 7, by decide +kernel⟩
theorem test_quorumSessionsOpenCommitAndEnd_2b : ∃ (s : State) (e n : Nat) (c : Cmd), s.ready e (· == 0x0531) = some c ∧ c.basin = none ∧ param c.desc 0 1 = 0 ∧ n = param c.desc 8 8 ∧ s.fnt.session = some (wSess 7 0) ∧ (wSess 7 0).number = n :=
  ⟨wQ .serving (some (wSess 7 0)) (wClose 0 1), 3, 1, wClose 0 1, by decide +kernel⟩
theorem test_quorumSessionsOpenCommitAndEnd_2c : ∃ (s : State) (e n : Nat) (c : Cmd), s.ready e (· == 0x0531) = some c ∧ c.basin = none ∧ param c.desc 0 1 = 0 ∧ n = param c.desc 8 8 ∧ s.fnt.session = none :=
  ⟨wQ .serving none (wClose 0 1), 3, 1, wClose 0 1, by decide +kernel⟩
theorem test_quorumSessionsOpenCommitAndEnd_2 : ∃ (s : State) (e n : Nat) (c : Cmd), s.ready e (· == 0x0531) = some c ∧ c.basin = none ∧ param c.desc 0 1 = 0 ∧ n = param c.desc 8 8 :=
  ⟨wQ .serving (some (wSess 7 0)) (wClose 0 1), 3, 1, wClose 0 1, by decide +kernel⟩
theorem test_quorumSessionsOpenCommitAndEnd_3b : ∃ (s : State) (e n : Nat) (c : Cmd) (x : Session), s.ready e (· == 0x0531) = some c ∧ c.basin = none ∧ param c.desc 0 1 = 1 ∧ n = param c.desc 8 8 ∧ s.fnt.session = some x ∧ x.number ≠ n :=
  ⟨wQ .serving (some (wSess 7 3)) (wClose 1 2), 3, 2, wClose 1 2, wSess 7 3, by decide +kernel⟩
theorem test_quorumSessionsOpenCommitAndEnd_3c : ∃ (s : State) (e n : Nat) (c : Cmd) (x : Session), s.ready e (· == 0x0531) = some c ∧ c.basin = none ∧ param c.desc 0 1 = 1 ∧ n = param c.desc 8 8 ∧ s.fnt.session = some x ∧ (x.number = n ∧ (x.purpose = 1 ∨ x.purpose = 3 ∨ x.purpose = 6)) :=
  ⟨wQ .serving (some (wSess 6 3)) (wClose 1 1), 3, 1, wClose 1 1, wSess 6 3, by decide +kernel⟩
theorem test_quorumSessionsOpenCommitAndEnd_3d : ∃ (s : State) (e n : Nat) (c : Cmd) (x : Session), s.ready e (· == 0x0531) = some c ∧ c.basin = none ∧ param c.desc 0 1 = 1 ∧ n = param c.desc 8 8 ∧ s.fnt.session = some x ∧ x.number = n ∧ x.purpose ∉ [1, 3, 6] ∧ x.counted.length < x.m :=
  ⟨wQ .serving (some (wSess 7 2)) (wClose 1 1), 3, 1, wClose 1 1, wSess 7 2, by decide +kernel⟩
theorem test_quorumSessionsOpenCommitAndEnd_3e : ∃ (s : State) (e n : Nat) (c : Cmd) (x : Session), s.ready e (· == 0x0531) = some c ∧ c.basin = none ∧ param c.desc 0 1 = 1 ∧ n = param c.desc 8 8 ∧ s.fnt.session = some x ∧ x.number = n ∧ x.purpose = 5 ∧ x.m ≤ x.counted.length ∧ s.gro.active.getLsbD 0 = true ∧ s.gro.off 0 = false ∧ s.response 0 = 1 :=
  ⟨{ wQ .sealed (some (wSess 5 3)) (wClose 1 1) with gro := { State.reset.gro with active := 1, floors := 0x1005 } }, 3, 1, wClose 1 1, wSess 5 3, by decide +kernel⟩
theorem test_quorumSessionsOpenCommitAndEnd_3f : ∃ (s : State) (e n : Nat) (c : Cmd) (x : Session), s.ready e (· == 0x0531) = some c ∧ c.basin = none ∧ param c.desc 0 1 = 1 ∧ n = param c.desc 8 8 ∧ s.fnt.session = some x ∧ (x.number = n ∧ x.purpose ∉ [1, 3, 6] ∧ commitEnough s x = true ∧ (x.purpose ≠ 5 ∨ sealSourceActive s = false) ∧ x.purpose ≠ 8) :=
  ⟨wQ .serving (some (wSess 7 3)) (wClose 1 1), 3, 1, wClose 1 1, wSess 7 3, by decide +kernel⟩
theorem test_quorumSessionsOpenCommitAndEnd_3 : ∃ (s : State) (e n : Nat) (c : Cmd) (x : Session), s.ready e (· == 0x0531) = some c ∧ c.basin = none ∧ param c.desc 0 1 = 1 ∧ n = param c.desc 8 8 ∧ s.fnt.session = some x :=
  ⟨wQ .serving (some (wSess 7 3)) (wClose 1 1), 3, 1, wClose 1 1, wSess 7 3, by decide +kernel⟩
theorem test_quorumSessionsOpenCommitAndEnd_4b : ∃ (s : State) (x : Session) (rnd : Bytes), s.fnt.session = some x ∧ x.purpose = 2 ∧ tabFind s.fnt.staged (x.arg % 256) = some { bytes := [7] } :=
  ⟨{ State.reset with fnt := { session := some (wSess 2 3), staged := [(0, { bytes := [7] })] } }, wSess 2 3, [], by decide⟩
theorem test_quorumSessionsOpenCommitAndEnd_4c : ∃ (s : State) (x : Session) (rnd : Bytes), s.fnt.session = some x ∧ x.purpose = 4 :=
  ⟨wQ .maintenance (some (wSess 4 3)) (wClose 1 1), wSess 4 3, [], by decide⟩
theorem test_quorumSessionsOpenCommitAndEnd_4d : ∃ (s : State) (x : Session) (rnd : Bytes), s.fnt.session = some x ∧ x.purpose = 7 ∧ s.gateOp = .serving :=
  ⟨wQ .serving (some (wSess 7 3)) (wClose 1 1), wSess 7 3, [], by decide⟩
theorem test_quorumSessionsOpenCommitAndEnd_4 : ∃ (s : State) (x : Session) (rnd : Bytes), s.fnt.session = some x :=
  ⟨wQ .serving (some (wSess 7 3)) (wClose 1 1), wSess 7 3, [], by decide⟩
theorem test_quorumSessionsOpenCommitAndEnd_5b : ∃ (s : State), s.fnt.session = some (wSess 3 3) ∧ (wSess 3 3).ends ≤ s.tbs.now :=
  ⟨{ wQ .serving (some (wSess 3 3)) (wClose 1 1) with tbs := { now := 5 } }, by decide⟩
theorem test_quorumSessionsOpenCommitAndEnd_5c : ∃ (s : State), s.fnt.session = some (wSess 3 3) ∧ s.tbs.now < (wSess 3 3).ends :=
  ⟨{ wQ .serving (some (wSess 3 3)) (wClose 1 1) with tbs := { now := 4 } }, by decide⟩
theorem test_quorumSessionsOpenCommitAndEnd_6b : ∃ (s : State) (e n : Nat) (c : Cmd), s.ready e (· == 0x0580) = some c ∧ c.basin = none ∧ n = param c.desc 0 8 ∧ s.fnt.session = some { wSess 6 3 with shares := List.replicate 3 (1, []) } ∧ n = 1 :=
  ⟨wQ .restoreOnly (some { wSess 6 3 with shares := List.replicate 3 (1, []) }) (wPf0 0x0580 (natLe 8 1)), 3, 1, wPf0 0x0580 (natLe 8 1), by decide +kernel⟩
theorem test_quorumSessionsOpenCommitAndEnd_6 : ∃ (s : State) (e n : Nat) (c : Cmd), s.ready e (· == 0x0580) = some c ∧ c.basin = none ∧ n = param c.desc 0 8 :=
  ⟨wQ .restoreOnly none (wPf0 0x0580 (natLe 8 1)), 3, 1, wPf0 0x0580 (natLe 8 1), by decide +kernel⟩

theorem test_debugCertificatesFirmwareAndThePairRestart_1b : ∃ (s : State) (e : Nat) (c : Cmd), s.ready e (· == 0x0560) = some c ∧ c.basin = none ∧ inLenOf c.desc ≠ 0 :=
  ⟨wQ .serving none wCertIn, 3, wCertIn, by decide +kernel⟩
theorem test_debugCertificatesFirmwareAndThePairRestart_1c : ∃ (s : State) (e : Nat) (c : Cmd), s.ready e (· == 0x0560) = some c ∧ c.basin = none ∧ inLenOf c.desc = 0 :=
  ⟨wQ .serving none (wPf0 0x0560 []), 3, wPf0 0x0560 [], by decide +kernel⟩
theorem test_debugCertificatesFirmwareAndThePairRestart_1 : ∃ (s : State) (e : Nat) (c : Cmd), s.ready e (· == 0x0560) = some c ∧ c.basin = none :=
  ⟨wQ .serving none (wPf0 0x0560 []), 3, wPf0 0x0560 [], by decide +kernel⟩
theorem test_debugCertificatesFirmwareAndThePairRestart_2b : ∃ (s : State), (∀ u, s.fnt.debugCheck = some u → u + 1000000000 ≤ s.tbs.now) ∧ s.wei.dbg = some { serial := 1, notAfter := 5, era := 0, slotRd := 0, slotWr := 0, regions := [] } ∧ 5 < s.tbs.now :=
  ⟨{ State.reset with tbs := { now := 6 }, wei := { dbg := some { serial := 1, notAfter := 5, era := 0, slotRd := 0, slotWr := 0, regions := [] } } }, by exact ⟨(fun u h => by cases h), by decide +kernel⟩⟩
theorem test_debugCertificatesFirmwareAndThePairRestart_2c : ∃ (s : State), (∀ u, s.fnt.debugCheck = some u → u + 1000000000 ≤ s.tbs.now) ∧ s.wei.dbg = some { serial := 1, notAfter := 5, era := 0, slotRd := 0, slotWr := 0, regions := [] } ∧ s.tbs.now ≤ 5 ∧ 0 = s.tbs.era :=
  ⟨{ State.reset with tbs := { now := 5 }, wei := { dbg := some { serial := 1, notAfter := 5, era := 0, slotRd := 0, slotWr := 0, regions := [] } } }, by exact ⟨(fun u h => by cases h), by decide +kernel⟩⟩
theorem test_debugCertificatesFirmwareAndThePairRestart_2 : ∃ (s : State), (∀ u, s.fnt.debugCheck = some u → u + 1000000000 ≤ s.tbs.now) :=
  ⟨State.reset, by exact fun u h => by cases h⟩
theorem test_debugCertificatesFirmwareAndThePairRestart_3b : ∃ (s : State) (e kind off : Nat) (c : Cmd) (held all : Bytes), s.ready e (· == 0x0510) = some c ∧ c.basin = none ∧ kind = param c.desc 0 1 ∧ off = param c.desc 4 4 ∧ kind ≤ 3 ∧ (kind ≠ 3 ∨ s.life = 2) ∧ all = (if off = 0 then [] else held) ++ c.input ∧ off ≠ 0 ∧ tabFind s.fnt.staged kind = none :=
  ⟨wQ .serving none (wStageFw 1 0 2 [9]), 3, 1, 2, wStageFw 1 0 2 [9], [], [9], by decide +kernel⟩
theorem test_debugCertificatesFirmwareAndThePairRestart_3c : ∃ (s : State) (e kind off : Nat) (c : Cmd) (held all : Bytes), s.ready e (· == 0x0510) = some c ∧ c.basin = none ∧ kind = param c.desc 0 1 ∧ off = param c.desc 4 4 ∧ kind ≤ 3 ∧ (kind ≠ 3 ∨ s.life = 2) ∧ all = (if off = 0 then [] else held) ++ c.input ∧ off ≠ 0 ∧ tabFind s.fnt.staged kind = some { bytes := [8] } ∧ held.length = off ∧ bitAt (param c.desc 1 1) 0 = false :=
  ⟨{ wMgmt (wStageFw 1 0 1 [9]) with fnt := { staged := [(1, { bytes := [8] })] } }, 3, 1, 1, wStageFw 1 0 1 [9], [8], [8, 9], by decide +kernel⟩
theorem test_debugCertificatesFirmwareAndThePairRestart_3d : ∃ (s : State) (e kind off : Nat) (c : Cmd) (held all : Bytes), s.ready e (· == 0x0510) = some c ∧ c.basin = none ∧ kind = param c.desc 0 1 ∧ off = param c.desc 4 4 ∧ kind ≤ 3 ∧ (kind ≠ 3 ∨ s.life = 2) ∧ all = (if off = 0 then [] else held) ++ c.input ∧ off = 0 ∧ bitAt (param c.desc 1 1) 0 = true ∧ kind ≤ 1 ∧ fwReason s kind all ≠ 0 :=
  ⟨wQ .serving none (wStageFw 1 1 0 [9]), 3, 1, 0, wStageFw 1 1 0 [9], [], [9], by decide +kernel⟩
theorem test_debugCertificatesFirmwareAndThePairRestart_3 : ∃ (s : State) (e kind off : Nat) (c : Cmd) (held all : Bytes), s.ready e (· == 0x0510) = some c ∧ c.basin = none ∧ kind = param c.desc 0 1 ∧ off = param c.desc 4 4 ∧ kind ≤ 3 ∧ (kind ≠ 3 ∨ s.life = 2) ∧ all = (if off = 0 then [] else held) ++ c.input :=
  ⟨wQ .serving none (wStageFw 1 0 0 [9]), 3, 1, 0, wStageFw 1 0 0 [9], [], [9], by decide +kernel⟩
theorem test_debugCertificatesFirmwareAndThePairRestart_4b : ∃ (s : State) (f : FnId), f.vf = 0 ∧ s.fnExists f = true ∧ s.gateOp = .maintenance :=
  ⟨wQ .maintenance none (wStageFw 1 0 0 [9]), ⟨true, 0⟩, by decide⟩
theorem test_debugCertificatesFirmwareAndThePairRestart_4c : ∃ (s : State) (f : FnId), f.vf = 0 ∧ s.fnExists f = true ∧ s.gateOp ≠ .maintenance ∧ tabFind s.fnt.staged 1 = none :=
  ⟨State.reset, ⟨false, 0⟩, by decide⟩
theorem test_debugCertificatesFirmwareAndThePairRestart_4d : ∃ (s : State) (f : FnId), f.vf = 0 ∧ s.fnExists f = true ∧ tabFind s.fnt.staged 1 = some { bytes := [], accepted := true } ∧ s.fnt.restartAt = none ∧ s.slu.mgmt.head? = some 3 :=
  ⟨{ wMgmt { wPf0 0x0510 [] with execStart := some 0 } with fnt := { staged := [(1, { bytes := [], accepted := true })] } }, ⟨false, 0⟩, by decide +kernel⟩
theorem test_debugCertificatesFirmwareAndThePairRestart_4 : ∃ (s : State) (f : FnId), f.vf = 0 ∧ s.fnExists f = true :=
  ⟨wQ .maintenance none (wStageFw 1 0 0 [9]), ⟨false, 0⟩, by decide⟩
theorem test_debugCertificatesFirmwareAndThePairRestart_5 : ∃ (s : State) (f : FnId), f.vf ≠ 0 :=
  ⟨State.reset, ⟨false, 4⟩, by decide⟩
theorem test_debugCertificatesFirmwareAndThePairRestart_6b : ∃ (s : State), s.fnt.op ≠ .halted ∧ (∃ r, s.fnt.restartAt = some r ∧ r + 40000000 ≤ s.tbs.now) ∧ s.fnt.pendingLc = none ∧ s.slu.mgmt = [] ∧ s.fnt.restartSwitch = false ∧ runningListed s = true :=
  ⟨{ State.reset with tbs := { now := 40000000 }, fnt := { restartAt := some 0, op := .serving } }, by exact ⟨by decide, ⟨0, by decide, by decide⟩, by decide +kernel⟩⟩
theorem test_debugCertificatesFirmwareAndThePairRestart_6c : ∃ (s : State), s.fnt.op ≠ .halted ∧ (∃ r, s.fnt.restartAt = some r ∧ r + 40000000 ≤ s.tbs.now) ∧ s.fnt.pendingLc = none ∧ s.slu.mgmt = [] ∧ s.fnt.restartSwitch = true ∧ tabFind s.fnt.staged 1 = some { bytes := [], accepted := true } ∧ s.lay.active = none :=
  ⟨{ State.reset with tbs := { now := 40000000 }, fnt := { restartAt := some 0, restartSwitch := true, op := .serving, staged := [(1, { bytes := [], accepted := true })] } }, by exact ⟨by decide, ⟨0, by decide, by decide⟩, by decide +kernel⟩⟩
theorem test_debugCertificatesFirmwareAndThePairRestart_6 : ∃ (s : State), s.fnt.op ≠ .halted ∧ (∃ r, s.fnt.restartAt = some r ∧ r + 40000000 ≤ s.tbs.now) :=
  ⟨{ State.reset with tbs := { now := 40000000 }, fnt := { restartAt := some 0, op := .serving } }, by exact ⟨by decide, 0, by decide, by decide⟩⟩
theorem test_debugCertificatesFirmwareAndThePairRestart_7 : ∃ (s : State) (b : Bool), ((∀ r, s.fnt.restartAt = some r → s.tbs.now < r + 40000000) ∨ s.fnt.op = .halted) :=
  ⟨State.reset, true, by exact .inl fun r h => by cases h⟩

/-- Reset with another Grotto, serving. -/
def wGro (g : GroState) : State := { State.reset with gro := g, fnt := { op := .serving } }
/-- The same with main power absent. -/
def wBat (g : GroState) : State := { wGro g with pwr := { main := false, por := true } }
/-- TEMP_HIGH, in an event of its own, awaits corroboration since 0. -/
def wItem : TamperItem := { source := 7, asserted := 0, reached := 1, pending := true }
def wTamper : TamperEvent := { opened := 0, night := 0, items := [wItem], applied := 1 }

theorem test_tamperSourcesSealEraseAndTheBattery_1b : ∃ (s : State) (i : Nat), i < 16 ∧ s.pwr.main = true ∧ s.pwr.por = false ∧ s.gro.active.getLsbD i = false ∧ s.gro.disabled.getLsbD i = false ∧ s.gro.open_ = none ∧ (s.response i = 1 ∧ (i ≤ 1 → s.gro.active.getLsbD (1 - i) = false)) :=
  ⟨wGro {}, 1, by decide +kernel⟩
theorem test_tamperSourcesSealEraseAndTheBattery_1c : ∃ (s : State) (i : Nat), i < 16 ∧ s.pwr.main = true ∧ s.pwr.por = false ∧ s.gro.active.getLsbD i = false ∧ s.gro.disabled.getLsbD i = false ∧ s.gro.open_ = none ∧ (s.response i = 2 ∧ 2 ≤ i ∧ (∀ o, o < 16 → corroborates s o i = false)) :=
  ⟨wGro { floors := 0x8000 }, 7, by decide +kernel⟩
theorem test_tamperSourcesSealEraseAndTheBattery_1d : ∃ (s : State) (i : Nat), i < 16 ∧ s.pwr.main = true ∧ s.pwr.por = false ∧ s.gro.active.getLsbD i = false ∧ s.gro.disabled.getLsbD i = false ∧ s.gro.open_ = none ∧ s.response i = 2 ∧ 2 ≤ i ∧ (∃ o, o < 16 ∧ corroborates s o i = true) :=
  ⟨wGro { floors := 0x8000, active := 4 }, 7, by decide +kernel⟩
theorem test_tamperSourcesSealEraseAndTheBattery_1e : ∃ (s : State) (i : Nat), i < 16 ∧ s.pwr.main = true ∧ s.pwr.por = false ∧ s.gro.active.getLsbD i = false ∧ s.gro.disabled.getLsbD i = false ∧ s.gro.open_ = none ∧ i ≤ 1 ∧ s.gro.active.getLsbD (1 - i) = true ∧ s.gro.disabled.getLsbD (1 - i) = false :=
  ⟨wGro { active := 2 }, 0, by decide +kernel⟩
theorem test_tamperSourcesSealEraseAndTheBattery_1 : ∃ (s : State) (i : Nat), i < 16 ∧ s.pwr.main = true ∧ s.pwr.por = false ∧ s.gro.active.getLsbD i = false ∧ s.gro.disabled.getLsbD i = false ∧ s.gro.open_ = none :=
  ⟨wGro {}, 7, by decide +kernel⟩
theorem test_tamperSourcesSealEraseAndTheBattery_2b : ∃ (s : State) (i : Nat), i < 12 ∧ s.gro.active.getLsbD i = true :=
  ⟨wGro { active := 0x800 }, 11, by decide⟩
theorem test_tamperSourcesSealEraseAndTheBattery_2c : ∃ (s : State) (i : Nat), (16 ≤ i ∨ s.pwr.main = false) :=
  ⟨wGro {}, 16, by decide⟩
theorem test_tamperSourcesSealEraseAndTheBattery_2d : ∃ (s : State) (i : Nat), i < 16 ∧ s.pwr.main = true ∧ s.gro.active.getLsbD i = false ∧ s.gro.disabled.getLsbD i = true :=
  ⟨wGro { disabled := 0x8000 }, 15, by decide⟩
theorem test_tamperSourcesSealEraseAndTheBattery_2e : ∃ (s : State) (i : Nat), i < 16 ∧ s.gro.active.getLsbD i = false :=
  ⟨wGro {}, 15, by decide⟩
theorem test_tamperSourcesSealEraseAndTheBattery_3b : ∃ (s : State) (v : TamperEvent) (i : TamperItem), s.pwr.main = true ∧ s.pwr.por = false ∧ s.gro.open_ = some v ∧ v.items = [i] ∧ i.pending = true ∧ i.corroborated = false ∧ v.applied = 1 ∧ i.reached = 1 ∧ s.gro.active.getLsbD i.source = true ∧ i.asserted + 10000000 ≤ s.tbs.now :=
  ⟨{ wGro { open_ := some wTamper, active := 0x80 } with tbs := { now := 10000000 } }, wTamper, wItem, by decide⟩
theorem test_tamperSourcesSealEraseAndTheBattery_3c : ∃ (s : State) (v : TamperEvent) (i : TamperItem), s.pwr.main = true ∧ s.pwr.por = false ∧ s.gro.open_ = some v ∧ v.items = [i] ∧ i.pending = true ∧ i.corroborated = false ∧ v.applied = 1 ∧ i.reached = 1 ∧ s.gro.active.getLsbD i.source = false ∧ i.asserted + 1000000 < s.tbs.now ∧ v.opened + 1000000 < s.tbs.now :=
  ⟨{ wGro { open_ := some wTamper } with tbs := { now := 1000001 } }, wTamper, wItem, by decide⟩
theorem test_tamperSourcesSealEraseAndTheBattery_3d : ∃ (s : State) (v : TamperEvent) (i : TamperItem), s.pwr.main = true ∧ s.pwr.por = false ∧ s.gro.open_ = some v ∧ v.items = [i] ∧ i.pending = true ∧ i.corroborated = false ∧ v.applied = 1 ∧ i.reached = 1 ∧ s.tbs.now ≤ i.asserted + 1000000 :=
  ⟨{ wGro { open_ := some wTamper } with tbs := { now := 1000000 } }, wTamper, wItem, by decide⟩
theorem test_tamperSourcesSealEraseAndTheBattery_3 : ∃ (s : State) (v : TamperEvent) (i : TamperItem), s.pwr.main = true ∧ s.pwr.por = false ∧ s.gro.open_ = some v ∧ v.items = [i] ∧ i.pending = true ∧ i.corroborated = false ∧ v.applied = 1 ∧ i.reached = 1 :=
  ⟨wGro { open_ := some wTamper, active := 0x80 }, wTamper, wItem, by decide⟩
theorem test_tamperSourcesSealEraseAndTheBattery_4b : ∃ (s : State), s.gro.sealAt = some 5 :=
  ⟨wGro { sealAt := some 5 }, by decide⟩
theorem test_tamperSourcesSealEraseAndTheBattery_4c : ∃ (s : State), s.gro.sealAt = none :=
  ⟨wGro {}, by decide⟩
theorem test_tamperSourcesSealEraseAndTheBattery_4d : ∃ (s : State), s.gro.erasing = true ∧ s.gro.sealAt = none ∧ s.gro.rootHalf = none ∧ 3 ≤ s.life ∧ s.life < 5 ∧ s.fnt.pendingLc = none ∧ s.fnt.rbFnt ≤ s.fnt.runningRollback :=
  ⟨wGro { erasing := true, rootHalf := none }, by decide +kernel⟩
theorem test_tamperSourcesSealEraseAndTheBattery_5b : ∃ (s : State) (a w : BitVec 16), s.pwr.main = false ∧ s.gro.night / 128 ≠ s.gro.sampleMark ∧ w = a &&& 0x027F &&& ~~~ s.gro.disabled ∧ s.gro.open_ = none ∧ w &&& ~~~ s.gro.active = 0 :=
  ⟨wBat { active := 8, night := 255 }, 8, 8, by decide⟩
theorem test_tamperSourcesSealEraseAndTheBattery_5c : ∃ (s : State) (a w : BitVec 16), s.pwr.main = false ∧ s.gro.night / 128 ≠ s.gro.sampleMark ∧ w = a &&& 0x027F &&& ~~~ s.gro.disabled ∧ (s.gro.open_ = none ∧ w.getLsbD 0 = true ∧ w.getLsbD 1 = true ∧ (s.gro.active.getLsbD 0 = false ∨ s.gro.active.getLsbD 1 = false)) :=
  ⟨wBat { active := 2, night := 128 }, 3, 3, by decide⟩
theorem test_tamperSourcesSealEraseAndTheBattery_5d : ∃ (s : State) (a w : BitVec 16), s.pwr.main = false ∧ s.gro.night / 128 ≠ s.gro.sampleMark ∧ w = a &&& 0x027F &&& ~~~ s.gro.disabled ∧ 6 < 16 ∧ s.gro.open_ = none ∧ w.getLsbD 6 = true ∧ s.gro.active.getLsbD 6 = false ∧ 1 ≤ s.gro.copied 6 :=
  ⟨wBat { night := 128 }, 0x40, 0x40, by decide⟩
theorem test_tamperSourcesSealEraseAndTheBattery_5e : ∃ (s : State) (a w : BitVec 16), s.pwr.main = false ∧ s.gro.night / 128 ≠ s.gro.sampleMark ∧ w = a &&& 0x027F &&& ~~~ s.gro.disabled ∧ ((∀ i, i < 16 → s.gro.copied i ≤ 1) ∧ w.getLsbD 0 = false ∧ s.gro.open_ = none) :=
  ⟨wBat { night := 128 }, 0xFF80, 0x0200, by decide⟩
theorem test_tamperSourcesSealEraseAndTheBattery_5 : ∃ (s : State) (a w : BitVec 16), s.pwr.main = false ∧ s.gro.night / 128 ≠ s.gro.sampleMark ∧ w = a &&& 0x027F &&& ~~~ s.gro.disabled :=
  ⟨wBat { night := 128 }, 0x0003, 0x0003, by decide⟩
theorem test_tamperSourcesSealEraseAndTheBattery_6b : ∃ (s : State) (a : BitVec 16), s.pwr.main = true ∧ s.gro.open_ = some wTamper ∧ s.pwr.por = false :=
  ⟨{ wGro { open_ := some wTamper } with pwr := { por := false } }, 0, by decide⟩
theorem test_tamperSourcesSealEraseAndTheBattery_6 : ∃ (s : State) (a : BitVec 16), s.pwr.main = true :=
  ⟨wGro {}, 0, by decide⟩
theorem test_tamperSourcesSealEraseAndTheBattery_7 : ∃ (s : State), s.pwr.main = false :=
  ⟨wBat {}, by decide⟩
theorem test_tamperSourcesSealEraseAndTheBattery_8b : ∃ (s : State) (f : FnId) (v : BitVec 32) (r : BitVec 16), f.vf = 0 ∧ s.fnt.op = .maintenance :=
  ⟨{ wGro {} with fnt := { op := .maintenance } }, ⟨true, 0⟩, 3, 1, by decide⟩
theorem test_tamperSourcesSealEraseAndTheBattery_8c : ∃ (s : State) (f : FnId) (v : BitVec 32) (r : BitVec 16), f.vf = 0 ∧ (s.life = 1 ∨ s.life = 2) :=
  ⟨{ wGro {} with fnt := { lifeWord := 0xFF } }, ⟨true, 0⟩, 3, 0, by decide⟩
theorem test_tamperSourcesSealEraseAndTheBattery_8d : ∃ (s : State) (f : FnId) (v : BitVec 32) (r : BitVec 16), f.vf = 0 ∧ s.life ≠ 1 ∧ s.life ≠ 2 ∧ s.fnt.op = .maintenance :=
  ⟨{ wGro {} with fnt := { op := .maintenance } }, ⟨true, 0⟩, 3, 0, by decide⟩
theorem test_tamperSourcesSealEraseAndTheBattery_8e : ∃ (s : State) (f : FnId) (v : BitVec 32) (r : BitVec 16), f.vf = 0 ∧ s.life ≠ 1 ∧ s.life ≠ 2 ∧ s.fnt.op ≠ .maintenance :=
  ⟨wGro {}, ⟨true, 0⟩, 3, 0, by decide⟩
theorem test_tamperSourcesSealEraseAndTheBattery_8 : ∃ (s : State) (f : FnId) (v : BitVec 32) (r : BitVec 16), f.vf = 0 :=
  ⟨wGro {}, ⟨true, 0⟩, 3, 0, by decide⟩

def withGau (g : GauState) : State := { State.reset with gau := g }
def wEvent (q : Nat) : GaugeEvent := { seq := q, hours := 0, cycles := 1, era := 0, kind := 1, source := 9, time := 0, srcSeq := q, detail := [] }
def wRead (region first n : Nat) : Cmd := wPf0 0x0540 (natLe 4 region ++ natLe 4 first ++ natLe 4 n)
def wGauge (region first n : Nat) : State :=
  { wMgmt (wRead region first n) with gau := { events := [wEvent 2, wEvent 1], eventSeq := 2 }, fnt := { State.reset.fnt with mgmtRun := some 3 } }

theorem test_gaugeCommitsSamplesHoursAndReads_1 : ∃ (s : State) (temp : Int) (mv : Nat), s.pwr.main = true ∧ s.pwr.por = false ∧ s.tbs.now / 1000000000 ≠ s.gau.secondMark :=
  ⟨withTbs { now := 1000000000 }, 16, 3000, by decide⟩
theorem test_gaugeCommitsSamplesHoursAndReads_2b : ∃ (s : State), s.tbs.now < s.gau.commitAt + 60000000000 :=
  ⟨State.reset, by decide⟩
theorem test_gaugeCommitsSamplesHoursAndReads_2c : ∃ (s : State), s.gau.commitAt + 60000000000 ≤ s.tbs.now :=
  ⟨withTbs { now := 60000000000 }, by decide⟩
theorem test_gaugeCommitsSamplesHoursAndReads_2d : ∃ (s : State), (s.pwr.por = true ∨ s.pwr.main = false ∨ s.tbs.now / 2 ^ 30 = s.tbs.syncMark) :=
  ⟨State.reset, by decide⟩
theorem test_gaugeCommitsSamplesHoursAndReads_2e : ∃ (s : State), s.pwr.por = false ∧ s.pwr.main = true ∧ s.tbs.now / 2 ^ 30 ≠ s.tbs.syncMark :=
  ⟨withTbs { now := 2 ^ 30 }, by decide⟩
theorem test_gaugeCommitsSamplesHoursAndReads_3b : ∃ (s : State), s.gau.acc.seconds < 3600 :=
  ⟨withGau { acc := { seconds := 3599 } }, by decide⟩
theorem test_gaugeCommitsSamplesHoursAndReads_3c : ∃ (s : State), 3600 ≤ s.gau.acc.seconds :=
  ⟨withGau { acc := { seconds := 3600 } }, by decide⟩
theorem test_gaugeCommitsSamplesHoursAndReads_4b : ∃ (s : State) (e region first n : Nat) (c : Cmd), s.ready e (· == 0x0540) = some c ∧ c.basin = none ∧ region = param c.desc 0 1 ∧ first = param c.desc 4 4 ∧ n = param c.desc 8 4 ∧ region = 0 :=
  ⟨wGauge 0 0 1, 3, 0, 0, 1, wRead 0 0 1, by decide +kernel⟩
theorem test_gaugeCommitsSamplesHoursAndReads_4c : ∃ (s : State) (e region first n : Nat) (c : Cmd), s.ready e (· == 0x0540) = some c ∧ c.basin = none ∧ region = param c.desc 0 1 ∧ first = param c.desc 4 4 ∧ n = param c.desc 8 4 ∧ region = 1 :=
  ⟨wGauge 1 0 2, 3, 1, 0, 2, wRead 1 0 2, by decide +kernel⟩
theorem test_gaugeCommitsSamplesHoursAndReads_4d : ∃ (s : State) (e region first n : Nat) (c : Cmd), s.ready e (· == 0x0540) = some c ∧ c.basin = none ∧ region = param c.desc 0 1 ∧ first = param c.desc 4 4 ∧ n = param c.desc 8 4 ∧ 2 ≤ region ∧ s.gau.events.getLast? = some (wEvent 1) :=
  ⟨wGauge 2 0 2, 3, 2, 0, 2, wRead 2 0 2, by decide +kernel⟩
theorem test_gaugeCommitsSamplesHoursAndReads_4 : ∃ (s : State) (e region first n : Nat) (c : Cmd), s.ready e (· == 0x0540) = some c ∧ c.basin = none ∧ region = param c.desc 0 1 ∧ first = param c.desc 4 4 ∧ n = param c.desc 8 4 :=
  ⟨wGauge 2 0 2, 3, 2, 0, 2, wRead 2 0 2, by decide +kernel⟩

def wTr (op : Nat) : CardTrans := { slot := 1, forCollect := false, opcode := op, params := [] }
def wTrC (op : Nat) : CardTrans := { wTr op with forCollect := true }
/-- Slot 1 as given, with a transaction on the bus. -/
def wCard (x : CardSlot) (t : Option CardTrans) : State := { State.reset with ccb := { slots := [(1, x)], trans := t } }
/-- A COLLECT of entry 3 in a session. -/
def wCollect (x : CardSlot) (t : Option CardTrans) (k : Collect) (v : Session) : State :=
  { wQ .serving (some v) (wPf0 0x0530 [7, 1, 1]) with
    ccb := { slots := [(1, x)], trans := t }, fnt := { (wQ .serving (some v) (wPf0 0x0530 [7, 1, 1])).fnt with collect := some k } }
def wK (stage : Nat) : Collect := { entry := 3, source := 1, stage := stage }
def wKB (stage : Nat) : Collect := { entry := 3, source := 4, stage := stage }
def wCert0 : TokenCert := { type_ := 0, tokenId := [], issued := 0, expires := 0, authLimit := 0, signKey := [], kemKey := [] }
def wC530 (p source : Nat) : Cmd := wPf0 0x0530 [BitVec.ofNat 8 p, 1, BitVec.ofNat 8 source]
def wNoCollect (p source st : Nat) : State :=
  { wQ .serving (some (wSess p 0)) (wC530 p source) with ccb := { slots := [(1, { st := st })] } }
/-- The reader is on. -/
def wCls (c : ClsState) : State := { State.reset with cls := c, pwr := { main := true }, fnt := { op := .serving } }
def wReader (c : ClsState) (k : Collect) : State :=
  { wCollect {} none k (wSess 7 0) with cls := c, pwr := { main := true } }

theorem test_cardsAreBroughtUpAndSignOverTheBus_1b : ∃ (s : State) (n : Nat), n < 4 ∧ (s.slot n).present = false :=
  ⟨State.reset, 3, by decide⟩
theorem test_cardsAreBroughtUpAndSignOverTheBus_1c : ∃ (s : State) (n : Nat), n < 4 ∧ (s.slot n).present = true ∧ s.fnt.collect = none :=
  ⟨wCard { present := true } none, 1, by decide⟩
theorem test_cardsAreBroughtUpAndSignOverTheBus_1d : ∃ (s : State) (n : Nat), n < 4 ∧ (s.slot n).present = true ∧ s.fnt.collect = some (wK 5) ∧ (wK 5).source = n ∧ s.cmd 3 = some (wPf0 0x0530 [7, 1, 1]) :=
  ⟨wCollect { present := true } (some { wTrC 0x11 with busyFrom := some 1 }) (wK 5) (wSess 4 0), 1, by decide +kernel⟩
theorem test_cardsAreBroughtUpAndSignOverTheBus_1e : ∃ (s : State) (n : Nat), n < 4 ∧ (s.slot n).present = true ∧ s.fnt.collect = some (wK 8) ∧ (wK 8).source = n ∧ s.cmd 3 = some (wPf0 0x0530 [7, 1, 1]) :=
  ⟨wCollect { present := true } none (wK 8) (wSess 4 0), 1, by decide +kernel⟩
theorem test_cardsAreBroughtUpAndSignOverTheBus_1 : ∃ (s : State) (n : Nat), n < 4 :=
  ⟨State.reset, 1, by decide⟩
theorem test_cardsAreBroughtUpAndSignOverTheBus_2b : ∃ (s : State) (n : Nat), n < 4 ∧ (s.ccb.trans = none ∧ (s.slot n).st = 1 ∧ (∀ m, m < n → (s.slot m).st ≠ 1)) :=
  ⟨wCard { st := 1 } none, 1, by decide⟩
theorem test_cardsAreBroughtUpAndSignOverTheBus_2c : ∃ (s : State) (n : Nat), n < 4 ∧ s.ccb.trans = none ∧ (s.slot n).st = 1 ∧ (∃ m, m < n ∧ (s.slot m).st = 1) :=
  ⟨{ State.reset with ccb := { slots := [(1, { st := 1 }), (3, { st := 1 })] } }, 3, by decide⟩
theorem test_cardsAreBroughtUpAndSignOverTheBus_2d : ∃ (s : State) (n : Nat), n < 4 ∧ (s.slot n).st = 4 ∧ (s.slot n).fails < 3 ∧ (s.slot n).holdFrom = some 0 ∧ 0 + 100000000 ≤ s.tbs.now :=
  ⟨{ wCard { st := 4, holdFrom := some 0 } none with tbs := { now := 100000000 } }, 1, by decide⟩
theorem test_cardsAreBroughtUpAndSignOverTheBus_2e : ∃ (s : State) (n : Nat), n < 4 ∧ 3 ≤ (s.slot n).fails :=
  ⟨wCard { st := 4, fails := 3, holdFrom := some 0 } none, 1, by decide⟩
theorem test_cardsAreBroughtUpAndSignOverTheBus_2 : ∃ (s : State) (n : Nat), n < 4 :=
  ⟨State.reset, 2, by decide⟩
theorem test_cardsAreBroughtUpAndSignOverTheBus_3b : ∃ (s : State) (n : Nat) (x : CardTrans) (st : BitVec 32) (y : CardSlot) (ex : Bytes), s.ccb.trans = some x ∧ x.slot = n ∧ x.busyFrom = none ∧ x.forCollect = false ∧ y = { s.slot n with authUsed := bitsAt st.toNat 0 17, refused := st.getLsbD 20 } ∧ x.opcode = 2 :=
  ⟨wCard { st := 2 } (some (wTr 2)), 1, wTr 2, 5, { st := 2, authUsed := 5 }, [], by decide⟩
theorem test_cardsAreBroughtUpAndSignOverTheBus_3c : ∃ (s : State) (n : Nat) (x : CardTrans) (st : BitVec 32) (y : CardSlot) (ex : Bytes), s.ccb.trans = some x ∧ x.slot = n ∧ x.busyFrom = none ∧ x.forCollect = false ∧ y = { s.slot n with authUsed := bitsAt st.toNat 0 17, refused := st.getLsbD 20 } ∧ x.opcode = 3 ∧ st.getLsbD 20 = false :=
  ⟨wCard { st := 2 } (some (wTr 3)), 1, wTr 3, 5, { st := 2, authUsed := 5 }, [], by decide⟩
theorem test_cardsAreBroughtUpAndSignOverTheBus_3d : ∃ (s : State) (n : Nat) (x : CardTrans) (st : BitVec 32) (y : CardSlot) (ex : Bytes), s.ccb.trans = some x ∧ x.slot = n ∧ x.busyFrom = none ∧ x.forCollect = false ∧ y = { s.slot n with authUsed := bitsAt st.toNat 0 17, refused := st.getLsbD 20 } ∧ x.opcode = 3 ∧ st.getLsbD 20 = true ∧ (s.slot n).width4 = true :=
  ⟨wCard { st := 2, width4 := true, clock := 2 } (some (wTr 3)), 1, wTr 3, 0x100000, { st := 2, width4 := true, clock := 2, refused := true }, [], by decide⟩
theorem test_cardsAreBroughtUpAndSignOverTheBus_3e : ∃ (s : State) (n : Nat) (x : CardTrans) (st : BitVec 32) (y : CardSlot) (ex : Bytes), s.ccb.trans = some x ∧ x.slot = n ∧ x.busyFrom = none ∧ x.forCollect = false ∧ y = { s.slot n with authUsed := bitsAt st.toNat 0 17, refused := st.getLsbD 20 } ∧ x.opcode = 3 ∧ st.getLsbD 20 = true ∧ (s.slot n).width4 = false :=
  ⟨wCard { st := 2 } (some (wTr 3)), 1, wTr 3, 0x100000, { st := 2, refused := true }, [], by decide⟩
theorem test_cardsAreBroughtUpAndSignOverTheBus_3f : ∃ (s : State) (n : Nat) (x : CardTrans) (st : BitVec 32) (y : CardSlot) (ex : Bytes), s.ccb.trans = some x ∧ x.slot = n ∧ x.busyFrom = none ∧ x.forCollect = false ∧ y = { s.slot n with authUsed := bitsAt st.toNat 0 17, refused := st.getLsbD 20 } ∧ x.opcode = 4 :=
  ⟨wCard { st := 2 } (some (wTr 4)), 1, wTr 4, 5, { st := 2, authUsed := 5 }, [], by decide⟩
theorem test_cardsAreBroughtUpAndSignOverTheBus_3g : ∃ (s : State) (n : Nat) (x : CardTrans) (st : BitVec 32) (y : CardSlot) (ex : Bytes), s.ccb.trans = some x ∧ x.slot = n ∧ x.busyFrom = none ∧ x.forCollect = false ∧ y = { s.slot n with authUsed := bitsAt st.toNat 0 17, refused := st.getLsbD 20 } ∧ x.opcode = 5 ∧ (s.slot n).pending = false :=
  ⟨wCard { st := 2 } (some (wTr 5)), 1, wTr 5, 5, { st := 2, authUsed := 5 }, [], by decide⟩
theorem test_cardsAreBroughtUpAndSignOverTheBus_3h : ∃ (s : State) (n : Nat) (x : CardTrans) (st : BitVec 32) (y : CardSlot) (ex : Bytes), s.ccb.trans = some x ∧ x.slot = n ∧ x.busyFrom = none ∧ x.forCollect = false ∧ y = { s.slot n with authUsed := bitsAt st.toNat 0 17, refused := st.getLsbD 20 } ∧ x.opcode = 5 ∧ (s.slot n).pending = true ∧ (s.slot n).pendingId = (s.slot n).tokenId ∧ (s.slot n).pendingSeq = field ex 0 4 :=
  ⟨wCard { st := 2, pending := true, pendingSeq := 42 } (some (wTr 5)), 1, wTr 5, 5, { st := 2, authUsed := 5, pending := true, pendingSeq := 42 }, [42], by decide⟩
theorem test_cardsAreBroughtUpAndSignOverTheBus_3i : ∃ (s : State) (n : Nat) (x : CardTrans) (st : BitVec 32) (y : CardSlot) (ex : Bytes), s.ccb.trans = some x ∧ x.slot = n ∧ x.busyFrom = none ∧ x.forCollect = false ∧ y = { s.slot n with authUsed := bitsAt st.toNat 0 17, refused := st.getLsbD 20 } ∧ x.opcode = 5 ∧ (s.slot n).pending = true ∧ (s.slot n).pendingSeq ≠ field ex 0 4 :=
  ⟨wCard { st := 2, pending := true, pendingSeq := 42 } (some (wTr 5)), 1, wTr 5, 5, { st := 2, authUsed := 5, pending := true, pendingSeq := 42 }, [41], by decide⟩
theorem test_cardsAreBroughtUpAndSignOverTheBus_3 : ∃ (s : State) (n : Nat) (x : CardTrans) (st : BitVec 32) (y : CardSlot) (ex : Bytes), s.ccb.trans = some x ∧ x.slot = n ∧ x.busyFrom = none ∧ x.forCollect = false ∧ y = { s.slot n with authUsed := bitsAt st.toNat 0 17, refused := st.getLsbD 20 } :=
  ⟨wCard { st := 2 } (some (wTr 1)), 1, wTr 1, 5, { st := 2, authUsed := 5 }, [], by decide⟩
theorem test_cardsAreBroughtUpAndSignOverTheBus_4b : ∃ (s : State) (n : Nat) (x : CardTrans) (i : Instr), s.ccb.trans = some x ∧ x.slot = n ∧ x.busyFrom = none ∧ (i = .cardResponseTimeout n ∨ i = .cardResponse n .badCrc) ∧ x.resent < 2 :=
  ⟨wCard { st := 2 } (some { wTr 1 with resent := 1 }), 1, { wTr 1 with resent := 1 }, .cardResponse 1 .badCrc, by decide⟩
theorem test_cardsAreBroughtUpAndSignOverTheBus_4c : ∃ (s : State) (n : Nat) (x : CardTrans) (i : Instr), s.ccb.trans = some x ∧ x.slot = n ∧ x.busyFrom = none ∧ (i = .cardResponseTimeout n ∨ i = .cardResponse n .badCrc) ∧ 2 ≤ x.resent ∧ x.forCollect = false :=
  ⟨wCard { st := 2 } (some { wTr 1 with resent := 2 }), 1, { wTr 1 with resent := 2 }, .cardResponse 1 .badCrc, by decide⟩
theorem test_cardsAreBroughtUpAndSignOverTheBus_4d : ∃ (s : State) (n : Nat) (x : CardTrans) (i : Instr), s.ccb.trans = some x ∧ x.slot = n ∧ x.busyFrom = none ∧ (i = .cardResponseTimeout n ∨ i = .cardResponse n .badCrc) ∧ 2 ≤ x.resent ∧ x.forCollect = true ∧ s.fnt.collect = some (wK 1) ∧ (wK 1).source = n ∧ s.cmd 3 = some (wPf0 0x0530 [7, 1, 1]) :=
  ⟨wCollect { st := 3 } (some { wTrC 4 with resent := 2 }) (wK 1) (wSess 7 0), 1, { wTrC 4 with resent := 2 }, .cardResponseTimeout 1, by decide +kernel⟩
theorem test_cardsAreBroughtUpAndSignOverTheBus_4 : ∃ (s : State) (n : Nat) (x : CardTrans) (i : Instr), s.ccb.trans = some x ∧ x.slot = n ∧ x.busyFrom = none ∧ (i = .cardResponseTimeout n ∨ i = .cardResponse n .badCrc) :=
  ⟨wCard { st := 2 } (some (wTr 1)), 1, wTr 1, .cardResponseTimeout 1, by decide⟩
theorem test_cardsAreBroughtUpAndSignOverTheBus_5b : ∃ (s : State) (n : Nat) (x : CardTrans) (st : BitVec 32) (y : CardSlot) (e : Bool), s.ccb.trans = some x ∧ x.slot = n ∧ x.busyFrom = none ∧ y = { s.slot n with authUsed := bitsAt st.toNat 0 17, refused := st.getLsbD 20 } ∧ x.toSend = [[7]] :=
  ⟨wCard { st := 3 } (some { wTrC 0x12 with toSend := [[7]] }), 1, { wTrC 0x12 with toSend := [[7]] }, 0, { st := 3 }, false, by decide⟩
theorem test_cardsAreBroughtUpAndSignOverTheBus_5c : ∃ (s : State) (n : Nat) (x : CardTrans) (st : BitVec 32) (y : CardSlot) (e : Bool), s.ccb.trans = some x ∧ x.slot = n ∧ x.busyFrom = none ∧ y = { s.slot n with authUsed := bitsAt st.toNat 0 17, refused := st.getLsbD 20 } ∧ x.toSend = [[7], [8]] ∧ x.blockRetry = false :=
  ⟨wCard { st := 3 } (some { wTrC 0x12 with toSend := [[7], [8]] }), 1, { wTrC 0x12 with toSend := [[7], [8]] }, 0, { st := 3 }, true, by decide⟩
theorem test_cardsAreBroughtUpAndSignOverTheBus_5 : ∃ (s : State) (n : Nat) (x : CardTrans) (st : BitVec 32) (y : CardSlot) (e : Bool), s.ccb.trans = some x ∧ x.slot = n ∧ x.busyFrom = none ∧ y = { s.slot n with authUsed := bitsAt st.toNat 0 17, refused := st.getLsbD 20 } :=
  ⟨wCard { st := 3 } (some (wTrC 0x12)), 1, wTrC 0x12, 0, { st := 3 }, false, by decide⟩
theorem test_cardsAreBroughtUpAndSignOverTheBus_6b : ∃ (s : State) (n : Nat) (x : CardTrans) (b d : Bytes), s.ccb.trans = some x ∧ x.slot = n ∧ x.opcode = 0x10 ∧ d = x.data ++ padTo 256 b ∧ x.object = 1 ∧ x.block < 13 :=
  ⟨wCard { st := 2 } (some { wTrC 0x10 with object := 1, block := 12 }), 1, { wTrC 0x10 with object := 1, block := 12 }, [], padTo 256 [], by decide +kernel⟩
theorem test_cardsAreBroughtUpAndSignOverTheBus_6c : ∃ (s : State) (n : Nat) (x : CardTrans) (b d : Bytes), s.ccb.trans = some x ∧ x.slot = n ∧ x.opcode = 0x10 ∧ d = x.data ++ padTo 256 b ∧ x.forCollect = false ∧ x.object = 0 ∧ x.block = 25 :=
  ⟨wCard { st := 2 } (some { wTr 0x10 with block := 25 }), 1, { wTr 0x10 with block := 25 }, [], padTo 256 [], by decide +kernel⟩
theorem test_cardsAreBroughtUpAndSignOverTheBus_6d : ∃ (s : State) (n : Nat) (x : CardTrans) (b d : Bytes), s.ccb.trans = some x ∧ x.slot = n ∧ x.opcode = 0x10 ∧ d = x.data ++ padTo 256 b ∧ x.blockRetry = true ∧ x.forCollect = false ∧ x.block = 0 ∧ (s.slot n).width4 = true ∧ (s.slot n).clock = 2 :=
  ⟨wCard { width4 := true, clock := 2 } (some { wTr 0x10 with blockRetry := true }), 1, { wTr 0x10 with blockRetry := true }, [], padTo 256 [], by decide +kernel⟩
theorem test_cardsAreBroughtUpAndSignOverTheBus_6e : ∃ (s : State) (n : Nat) (x : CardTrans) (b d : Bytes), s.ccb.trans = some x ∧ x.slot = n ∧ x.opcode = 0x10 ∧ d = x.data ++ padTo 256 b ∧ x.forCollect = true ∧ x.object = 1 ∧ x.block = 13 ∧ s.fnt.collect = some (wK 3) ∧ s.cmd 3 = some (wPf0 0x0530 [7, 1, 1]) ∧ s.fnt.session = some (wSess 4 0) ∧ (s.slot n).cert = some wCert0 :=
  ⟨wCollect { cert := some wCert0 } (some { wTrC 0x10 with object := 1, block := 13 }) (wK 3) (wSess 4 0), 1, { wTrC 0x10 with object := 1, block := 13 }, [], padTo 256 [], by decide +kernel⟩
theorem test_cardsAreBroughtUpAndSignOverTheBus_6 : ∃ (s : State) (n : Nat) (x : CardTrans) (b d : Bytes), s.ccb.trans = some x ∧ x.slot = n ∧ x.opcode = 0x10 ∧ d = x.data ++ padTo 256 b :=
  ⟨wCard { st := 2 } (some (wTr 0x10)), 1, wTr 0x10, [], padTo 256 [], by decide +kernel⟩
theorem test_cardsAreBroughtUpAndSignOverTheBus_7b : ∃ (s : State) (n : Nat) (x : CardTrans) (k : Collect) (c : Cmd) (v : Session) (st : BitVec 32) (ex : Bytes), s.ccb.trans = some x ∧ x.slot = n ∧ x.busyFrom = none ∧ x.forCollect = true ∧ s.fnt.collect = some k ∧ s.cmd k.entry = some c ∧ c.basin = none ∧ s.fnt.session = some v ∧ x.opcode = 0x12 ∧ st.getLsbD 20 = true :=
  ⟨wCollect { st := 3 } (some (wTrC 0x12)) (wK 1) (wSess 7 0), 1, wTrC 0x12, wK 1, wPf0 0x0530 [7, 1, 1], wSess 7 0, 0x100000, [], by decide +kernel⟩
theorem test_cardsAreBroughtUpAndSignOverTheBus_7c : ∃ (s : State) (n : Nat) (x : CardTrans) (k : Collect) (c : Cmd) (v : Session) (st : BitVec 32) (ex : Bytes), s.ccb.trans = some x ∧ x.slot = n ∧ x.busyFrom = none ∧ x.forCollect = true ∧ s.fnt.collect = some k ∧ s.cmd k.entry = some c ∧ c.basin = none ∧ s.fnt.session = some v ∧ x.opcode = 0x12 ∧ st.getLsbD 20 = false ∧ x.toSend = [[7]] :=
  ⟨wCollect { st := 3 } (some { wTrC 0x12 with toSend := [[7]] }) (wK 1) (wSess 7 0), 1, { wTrC 0x12 with toSend := [[7]] }, wK 1, wPf0 0x0530 [7, 1, 1], wSess 7 0, 0, [], by decide +kernel⟩
theorem test_cardsAreBroughtUpAndSignOverTheBus_7d : ∃ (s : State) (n : Nat) (x : CardTrans) (k : Collect) (c : Cmd) (v : Session) (st : BitVec 32) (ex : Bytes), s.ccb.trans = some x ∧ x.slot = n ∧ x.busyFrom = none ∧ x.forCollect = true ∧ s.fnt.collect = some k ∧ s.cmd k.entry = some c ∧ c.basin = none ∧ s.fnt.session = some v ∧ x.opcode = 5 ∧ (s.slot n).cert.isSome = true ∧ 32 ≤ (s.drbg 8).pool.length :=
  ⟨wPool8 (wCollect { st := 3, cert := some wCert0 } (some (wTrC 5)) (wK 4) (wSess 4 0)), 1, wTrC 5, wK 4, wPf0 0x0530 [7, 1, 1], wSess 4 0, 0, [], by decide +kernel⟩
theorem test_cardsAreBroughtUpAndSignOverTheBus_7 : ∃ (s : State) (n : Nat) (x : CardTrans) (k : Collect) (c : Cmd) (v : Session) (st : BitVec 32) (ex : Bytes), s.ccb.trans = some x ∧ x.slot = n ∧ x.busyFrom = none ∧ x.forCollect = true ∧ s.fnt.collect = some k ∧ s.cmd k.entry = some c ∧ c.basin = none ∧ s.fnt.session = some v :=
  ⟨wCollect { st := 3 } (some (wTrC 4)) (wK 1) (wSess 7 0), 1, wTrC 4, wK 1, wPf0 0x0530 [7, 1, 1], wSess 7 0, 0, [], by decide +kernel⟩
theorem test_cardsAreBroughtUpAndSignOverTheBus_8b : ∃ (s : State) (n t0 : Nat) (x : CardTrans) (k : Collect) (c : Cmd) (v : Session), s.ccb.trans = some x ∧ x.slot = n ∧ x.forCollect = true ∧ x.busyFrom = some t0 ∧ s.fnt.collect = some k ∧ k.source = n ∧ s.cmd k.entry = some c ∧ c.basin = none ∧ s.fnt.session = some v ∧ k.stage = 5 :=
  ⟨wCollect { st := 3 } (some { wTrC 0x11 with busyFrom := some 0 }) (wK 5) (wSess 4 0), 1, 0, { wTrC 0x11 with busyFrom := some 0 }, wK 5, wPf0 0x0530 [7, 1, 1], wSess 4 0, by decide +kernel⟩
theorem test_cardsAreBroughtUpAndSignOverTheBus_8c : ∃ (s : State) (n t0 : Nat) (x : CardTrans) (k : Collect) (c : Cmd) (v : Session), s.ccb.trans = some x ∧ x.slot = n ∧ x.forCollect = true ∧ x.busyFrom = some t0 ∧ s.fnt.collect = some k ∧ k.source = n ∧ s.cmd k.entry = some c ∧ c.basin = none ∧ s.fnt.session = some v ∧ t0 + (if x.opcode = 0x12 then 2000000000 else 500000000) < s.tbs.now :=
  ⟨{ wCollect { st := 3 } (some { wTrC 0x11 with busyFrom := some 0 }) (wK 5) (wSess 4 0) with tbs := { now := 500000001 } }, 1, 0, { wTrC 0x11 with busyFrom := some 0 }, wK 5, wPf0 0x0530 [7, 1, 1], wSess 4 0, by decide +kernel⟩
theorem test_cardsAreBroughtUpAndSignOverTheBus_8 : ∃ (s : State) (n t0 : Nat) (x : CardTrans) (k : Collect) (c : Cmd) (v : Session), s.ccb.trans = some x ∧ x.slot = n ∧ x.forCollect = true ∧ x.busyFrom = some t0 ∧ s.fnt.collect = some k ∧ k.source = n ∧ s.cmd k.entry = some c ∧ c.basin = none ∧ s.fnt.session = some v :=
  ⟨wCollect { st := 3 } (some { wTrC 0x12 with busyFrom := some 0 }) (wK 2) (wSess 7 0), 1, 0, { wTrC 0x12 with busyFrom := some 0 }, wK 2, wPf0 0x0530 [7, 1, 1], wSess 7 0, by decide +kernel⟩
theorem test_cardsAreBroughtUpAndSignOverTheBus_9b : ∃ (s : State) (e : Nat) (c : Cmd) (k : Collect) (v : Session), s.ready e (· == 0x0530) = some c ∧ c.basin = none ∧ param c.desc 1 1 = 1 ∧ s.fnt.collect = some k ∧ s.fnt.session = some v ∧ k.entry = e ∧ k.stage = 8 :=
  ⟨wCollect { present := true } none (wK 8) (wSess 4 0), 3, wPf0 0x0530 [7, 1, 1], wK 8, wSess 4 0, by decide +kernel⟩
theorem test_cardsAreBroughtUpAndSignOverTheBus_9c : ∃ (s : State) (e : Nat) (c : Cmd) (k : Collect) (v : Session), s.ready e (· == 0x0530) = some c ∧ c.basin = none ∧ param c.desc 1 1 = 1 ∧ s.fnt.collect = some k ∧ s.fnt.session = some v ∧ (k.entry ≠ e ∨ (k.stage ≠ 0 ∧ k.stage ≠ 8)) :=
  ⟨wCollect { present := true } none (wK 5) (wSess 4 0), 3, wPf0 0x0530 [7, 1, 1], wK 5, wSess 4 0, by decide +kernel⟩
theorem test_cardsAreBroughtUpAndSignOverTheBus_9 : ∃ (s : State) (e : Nat) (c : Cmd) (k : Collect) (v : Session), s.ready e (· == 0x0530) = some c ∧ c.basin = none ∧ param c.desc 1 1 = 1 ∧ s.fnt.collect = some k ∧ s.fnt.session = some v :=
  ⟨wCollect { present := true } none (wK 8) (wSess 4 0), 3, wPf0 0x0530 [7, 1, 1], wK 8, wSess 4 0, by decide +kernel⟩
theorem test_cardsAreBroughtUpAndSignOverTheBus_10b : ∃ (s : State) (e : Nat) (c : Cmd), s.ready e (· == 0x0530) = some c ∧ c.basin = none ∧ param c.desc 1 1 = 1 ∧ s.fnt.collect = none ∧ s.fnt.session = none :=
  ⟨wQ .serving none (wC530 7 1), 3, wC530 7 1, by decide +kernel⟩
theorem test_cardsAreBroughtUpAndSignOverTheBus_10c : ∃ (s : State) (e : Nat) (c : Cmd), s.ready e (· == 0x0530) = some c ∧ c.basin = none ∧ param c.desc 1 1 = 1 ∧ s.fnt.collect = none ∧ s.fnt.session = some (wSess 7 0) ∧ (wSess 7 0).purpose = param c.desc 0 1 ∧ (wSess 7 0).subject = paramBytes c.desc 0x10 48 ∧ param c.desc 2 1 = 1 ∧ (s.slot 1).st = 3 :=
  ⟨wNoCollect 7 1 3, 3, wC530 7 1, by decide +kernel⟩
theorem test_cardsAreBroughtUpAndSignOverTheBus_10d : ∃ (s : State) (e : Nat) (c : Cmd), s.ready e (· == 0x0530) = some c ∧ c.basin = none ∧ param c.desc 1 1 = 1 ∧ s.fnt.collect = none ∧ s.fnt.session = some (wSess 7 0) ∧ (wSess 7 0).purpose = param c.desc 0 1 ∧ (wSess 7 0).subject = paramBytes c.desc 0x10 48 ∧ param c.desc 2 1 = 1 ∧ (s.slot 1).st = 4 :=
  ⟨wNoCollect 7 1 4, 3, wC530 7 1, by decide +kernel⟩
theorem test_cardsAreBroughtUpAndSignOverTheBus_10e : ∃ (s : State) (e : Nat) (c : Cmd), s.ready e (· == 0x0530) = some c ∧ c.basin = none ∧ param c.desc 1 1 = 1 ∧ s.fnt.collect = none ∧ s.fnt.session = some (wSess 7 0) ∧ (wSess 7 0).purpose = param c.desc 0 1 ∧ (wSess 7 0).subject = paramBytes c.desc 0x10 48 ∧ 4 ≤ param c.desc 2 1 ∧ s.cls.mode ≠ 3 ∧ s.cls.extField = false :=
  ⟨wNoCollect 7 4 3, 3, wC530 7 4, by decide +kernel⟩
theorem test_cardsAreBroughtUpAndSignOverTheBus_10f : ∃ (s : State) (e : Nat) (c : Cmd), s.ready e (· == 0x0530) = some c ∧ c.basin = none ∧ param c.desc 1 1 = 1 ∧ s.fnt.collect = none ∧ s.fnt.session = some (wSess 6 0) ∧ (wSess 6 0).purpose = param c.desc 0 1 ∧ (wSess 6 0).subject = paramBytes c.desc 0x10 48 ∧ 4 ≤ param c.desc 2 1 :=
  ⟨wNoCollect 6 4 3, 3, wC530 6 4, by decide +kernel⟩
theorem test_cardsAreBroughtUpAndSignOverTheBus_10 : ∃ (s : State) (e : Nat) (c : Cmd), s.ready e (· == 0x0530) = some c ∧ c.basin = none ∧ param c.desc 1 1 = 1 ∧ s.fnt.collect = none :=
  ⟨wNoCollect 7 1 3, 3, wC530 7 1, by decide +kernel⟩

theorem test_badgesAreEnumeratedAndSignOverTheAntenna_1b : ∃ (s : State) (a n m : Nat), readerOn s = true ∧ s.fnt.collect = none ∧ (s.cls.pingEn = true ∨ s.fnt.session.isSome = true) ∧ (∀ t, s.cls.lastPing = some t → t + 1000000 * s.cls.pingPeriod ≤ s.tbs.now) ∧ n = s.cls.bursts.length ∧ m = s.cls.bursts.sum ∧ n ≠ 0 ∧ s.cls.pingThresh * m + 100 * m < 100 * (a * n) :=
  ⟨wCls { pingEn := true, bursts := [100, 100] }, 105, 2, 200, by decide⟩
theorem test_badgesAreEnumeratedAndSignOverTheAntenna_1c : ∃ (s : State) (a n m : Nat), readerOn s = true ∧ s.fnt.collect = none ∧ (s.cls.pingEn = true ∨ s.fnt.session.isSome = true) ∧ (∀ t, s.cls.lastPing = some t → t + 1000000 * s.cls.pingPeriod ≤ s.tbs.now) ∧ n = s.cls.bursts.length ∧ m = s.cls.bursts.sum ∧ n ≠ 0 ∧ 100 * (a * n) ≤ s.cls.pingThresh * m + 100 * m ∧ 100 * m ≤ s.cls.pingThresh * m + 100 * (a * n) :=
  ⟨wCls { pingEn := true, bursts := [100, 100] }, 104, 2, 200, by decide⟩
theorem test_badgesAreEnumeratedAndSignOverTheAntenna_1 : ∃ (s : State) (a n m : Nat), readerOn s = true ∧ s.fnt.collect = none ∧ (s.cls.pingEn = true ∨ s.fnt.session.isSome = true) ∧ (∀ t, s.cls.lastPing = some t → t + 1000000 * s.cls.pingPeriod ≤ s.tbs.now) ∧ n = s.cls.bursts.length ∧ m = s.cls.bursts.sum :=
  ⟨wCls { pingEn := true }, 5, 0, 0, by decide⟩
theorem test_badgesAreEnumeratedAndSignOverTheAntenna_2 : ∃ (s : State) (a : Nat), (readerOn s = false ∨ s.fnt.collect.isSome = true ∨ (s.cls.pingEn = false ∧ s.fnt.session = none)) :=
  ⟨State.reset, 5, by decide⟩
theorem test_badgesAreEnumeratedAndSignOverTheAntenna_4b : ∃ (s : State) (l : List (BitVec 80)) (k : Collect) (c : Cmd), readerOn s = true ∧ s.fnt.collect = some k ∧ k.stage = 10 ∧ (∀ u, s.cls.lastCycle = some u → u + 20000000 ≤ s.tbs.now) ∧ s.cmd k.entry = some c ∧ c.basin = none ∧ recorded l = [] ∧ k.since + 1000000000 ≤ s.tbs.now :=
  ⟨{ wReader {} (wKB 10) with tbs := { now := 1000000000 } }, [], wKB 10, wPf0 0x0530 [7, 1, 1], by and_intros <;> first | exact ⟨(fun u h => by cases h), by decide +kernel⟩ | decide +kernel | rfl⟩
theorem test_badgesAreEnumeratedAndSignOverTheAntenna_4c : ∃ (s : State) (l : List (BitVec 80)) (k : Collect) (c : Cmd), readerOn s = true ∧ s.fnt.collect = some k ∧ k.stage = 10 ∧ (∀ u, s.cls.lastCycle = some u → u + 20000000 ≤ s.tbs.now) ∧ s.cmd k.entry = some c ∧ c.basin = none ∧ recorded l = [5] :=
  ⟨wReader {} (wKB 10), [5, 5], wKB 10, wPf0 0x0530 [7, 1, 1], by and_intros <;> first | exact ⟨(fun u h => by cases h), by decide +kernel⟩ | decide +kernel | rfl⟩
theorem test_badgesAreEnumeratedAndSignOverTheAntenna_4d : ∃ (s : State) (l : List (BitVec 80)) (k : Collect) (c : Cmd), readerOn s = true ∧ s.fnt.collect = some k ∧ k.stage = 10 ∧ (∀ u, s.cls.lastCycle = some u → u + 20000000 ≤ s.tbs.now) ∧ s.cmd k.entry = some c ∧ c.basin = none ∧ 2 ≤ (recorded l).length :=
  ⟨wReader {} (wKB 10), [5, 4], wKB 10, wPf0 0x0530 [7, 1, 1], by and_intros <;> first | exact ⟨(fun u h => by cases h), by decide +kernel⟩ | decide +kernel | rfl⟩
theorem test_badgesAreEnumeratedAndSignOverTheAntenna_4 : ∃ (s : State) (l : List (BitVec 80)) (k : Collect) (c : Cmd), readerOn s = true ∧ s.fnt.collect = some k ∧ k.stage = 10 ∧ (∀ u, s.cls.lastCycle = some u → u + 20000000 ≤ s.tbs.now) ∧ s.cmd k.entry = some c ∧ c.basin = none :=
  ⟨wReader {} (wKB 10), [], wKB 10, wPf0 0x0530 [7, 1, 1], by and_intros <;> first | exact ⟨(fun u h => by cases h), by decide +kernel⟩ | decide +kernel | rfl⟩
theorem test_badgesAreEnumeratedAndSignOverTheAntenna_5 : ∃ (s : State) (l : List (BitVec 80)) (k : Collect) (u : Nat), s.fnt.collect = some k ∧ (k.stage ≠ 10 ∨ (s.cls.lastCycle = some u ∧ s.tbs.now < u + 20000000)) :=
  ⟨wReader { lastCycle := some 0 } (wKB 10), [], wKB 10, 0, by decide +kernel⟩
theorem test_badgesAreEnumeratedAndSignOverTheAntenna_6b : ∃ (s : State) (l : List (BitVec 80)), s.fnt.collect = none ∧ readerOn s = true ∧ s.cls.cycle = true :=
  ⟨wCls { cycle := true }, [1], by decide⟩
theorem test_badgesAreEnumeratedAndSignOverTheAntenna_6 : ∃ (s : State) (l : List (BitVec 80)), s.fnt.collect = none :=
  ⟨State.reset, [], by decide⟩
theorem test_badgesAreEnumeratedAndSignOverTheAntenna_7 : ∃ (s : State) (k : Collect) (c : Cmd), s.pwr.main = true ∧ s.fnt.op ≠ .halted ∧ s.fnt.collect = some k ∧ s.cmd k.entry = some c ∧ c.basin = none :=
  ⟨wReader {} (wKB 11), wKB 11, wPf0 0x0530 [7, 1, 1], by decide +kernel⟩
theorem test_badgesAreEnumeratedAndSignOverTheAntenna_8b : ∃ (s : State), s.pwr.main = true ∧ s.fnt.op ≠ .halted ∧ s.fnt.collect = none :=
  ⟨wCls {}, by decide⟩
theorem test_badgesAreEnumeratedAndSignOverTheAntenna_8c : ∃ (s : State), s.cls.mode = 3 ∧ s.cls.quietFrom = some 0 ∧ 0 + 1000000000 ≤ s.tbs.now ∧ s.psp.field = false :=
  ⟨{ wCls { mode := 3, quietFrom := some 0 } with tbs := { now := 1000000000 } }, by decide⟩
theorem test_badgesAreEnumeratedAndSignOverTheAntenna_8d : ∃ (s : State), s.cls.mode = 3 ∧ s.cls.quietFrom = some 0 ∧ s.tbs.now < 0 + 1000000000 :=
  ⟨wCls { mode := 3, quietFrom := some 0 }, by decide⟩
theorem test_badgesAreEnumeratedAndSignOverTheAntenna_9b : ∃ (s : State) (k : Collect) (c : Cmd), s.fnt.collect = some k ∧ 11 ≤ k.stage ∧ s.cmd k.entry = some c ∧ c.basin = none ∧ 0 < s.cls.rate ∧ k.retriedRate = false :=
  ⟨wReader { rate := 3 } (wKB 13), wKB 13, wPf0 0x0530 [7, 1, 1], by decide +kernel⟩
theorem test_badgesAreEnumeratedAndSignOverTheAntenna_9c : ∃ (s : State) (k : Collect) (c : Cmd), s.fnt.collect = some k ∧ 11 ≤ k.stage ∧ s.cmd k.entry = some c ∧ c.basin = none ∧ s.cls.rate = 0 ∧ 2 ≤ k.badFrames :=
  ⟨wReader {} { wKB 12 with badFrames := 2 }, { wKB 12 with badFrames := 2 }, wPf0 0x0530 [7, 1, 1], by decide +kernel⟩
theorem test_badgesAreEnumeratedAndSignOverTheAntenna_9d : ∃ (s : State) (k : Collect) (c : Cmd), s.fnt.collect = some k ∧ 11 ≤ k.stage ∧ s.cmd k.entry = some c ∧ c.basin = none ∧ s.cls.rate = 0 ∧ k.badFrames < 2 ∧ k.stage = 11 ∧ k.seq = 0 ∧ k.retriedRate = false :=
  ⟨wReader {} (wKB 11), wKB 11, wPf0 0x0530 [7, 1, 1], by decide +kernel⟩
theorem test_badgesAreEnumeratedAndSignOverTheAntenna_9 : ∃ (s : State) (k : Collect) (c : Cmd), s.fnt.collect = some k ∧ 11 ≤ k.stage ∧ s.cmd k.entry = some c ∧ c.basin = none :=
  ⟨wReader {} (wKB 12), wKB 12, wPf0 0x0530 [7, 1, 1], by decide +kernel⟩
theorem test_badgesAreEnumeratedAndSignOverTheAntenna_10b : ∃ (s : State) (k : Collect) (c : Cmd) (v : Session) (x d : Bytes), s.fnt.collect = some k ∧ s.cmd k.entry = some c ∧ c.basin = none ∧ s.fnt.session = some v ∧ d = k.data ++ padTo 256 x ∧ k.stage = 12 ∧ k.uid ≠ BitVec.ofNat 80 (field (padTo 16 x) 6 10) :=
  ⟨wReader {} (wKB 12), wKB 12, wPf0 0x0530 [7, 1, 1], wSess 7 0, [0, 0, 0, 0, 0, 0, 1], padTo 256 [0, 0, 0, 0, 0, 0, 1], by decide +kernel⟩
theorem test_badgesAreEnumeratedAndSignOverTheAntenna_10c : ∃ (s : State) (k : Collect) (c : Cmd) (v : Session) (x d : Bytes), s.fnt.collect = some k ∧ s.cmd k.entry = some c ∧ c.basin = none ∧ s.fnt.session = some v ∧ d = k.data ++ padTo 256 x ∧ k.stage = 13 ∧ k.blocksLeft < 25 :=
  ⟨wReader {} { wKB 13 with blocksLeft := 24 }, { wKB 13 with blocksLeft := 24 }, wPf0 0x0530 [7, 1, 1], wSess 7 0, [], padTo 256 [], by decide +kernel⟩
theorem test_badgesAreEnumeratedAndSignOverTheAntenna_10d : ∃ (s : State) (k : Collect) (c : Cmd) (v : Session) (x d : Bytes), s.fnt.collect = some k ∧ s.cmd k.entry = some c ∧ c.basin = none ∧ s.fnt.session = some v ∧ d = k.data ++ padTo 256 x ∧ k.stage = 13 ∧ k.blocksLeft = 25 :=
  ⟨wReader {} { wKB 13 with blocksLeft := 25 }, { wKB 13 with blocksLeft := 25 }, wPf0 0x0530 [7, 1, 1], wSess 7 0, [], padTo 256 [], by decide +kernel⟩
theorem test_badgesAreEnumeratedAndSignOverTheAntenna_10e : ∃ (s : State) (k : Collect) (c : Cmd) (v : Session) (x d : Bytes), s.fnt.collect = some k ∧ s.cmd k.entry = some c ∧ c.basin = none ∧ s.fnt.session = some v ∧ d = k.data ++ padTo 256 x ∧ k.stage = 14 :=
  ⟨wReader {} (wKB 14), wKB 14, wPf0 0x0530 [7, 1, 1], wSess 7 0, [], padTo 256 [], by decide +kernel⟩
theorem test_badgesAreEnumeratedAndSignOverTheAntenna_10f : ∃ (s : State) (k : Collect) (c : Cmd) (v : Session) (x d : Bytes), s.fnt.collect = some k ∧ s.cmd k.entry = some c ∧ c.basin = none ∧ s.fnt.session = some v ∧ d = k.data ++ padTo 256 x ∧ k.stage = 15 ∧ k.blocksLeft = 13 :=
  ⟨wReader {} { wKB 15 with blocksLeft := 13 }, { wKB 15 with blocksLeft := 13 }, wPf0 0x0530 [7, 1, 1], wSess 7 0, [], padTo 256 [], by decide +kernel⟩
theorem test_badgesAreEnumeratedAndSignOverTheAntenna_10 : ∃ (s : State) (k : Collect) (c : Cmd) (v : Session) (x d : Bytes), s.fnt.collect = some k ∧ s.cmd k.entry = some c ∧ c.basin = none ∧ s.fnt.session = some v ∧ d = k.data ++ padTo 256 x :=
  ⟨wReader {} (wKB 12), wKB 12, wPf0 0x0530 [7, 1, 1], wSess 7 0, [], padTo 256 [], by decide +kernel⟩
theorem test_badgesAreEnumeratedAndSignOverTheAntenna_11 : ∃ (s : State) (f : BadgeFrame), (∀ k, s.fnt.collect = some k → k.stage < 11) :=
  ⟨State.reset, .bad, by intro k h; cases h⟩

/-- The field is on; the passport otherwise as given. -/
def wPsp (p : PspState) : State := { State.reset with psp := { p with field := true } }
def wReq (m : TagMode) : TagReq := { mode := m, highRate := true, energy := true }
def wUid : BitVec 64 := 0xE000000000000000
def wStaged (t : Nat) (b : Bytes) : State := { State.reset with psp := { staged := [(t, true, true, b, 0)] } }
def wWrite (target op : Nat) : Cmd := { wPf0 0x0550 (natLe 1 target ++ natLe 1 op ++ natLe 2 0 ++ natLe 4 7 ++ natLe 8 9) with execStart := some 0 }

theorem test_passportTagAnswersAndWireWrites_1b : ∃ (s : State), s.psp.field = false ∧ s.pwr.main = true :=
  ⟨State.reset, by decide⟩
theorem test_passportTagAnswersAndWireWrites_1c : ∃ (s : State), s.psp.field = true :=
  ⟨wPsp {}, by decide⟩
theorem test_passportTagAnswersAndWireWrites_2b : ∃ (s : State) (r : TagReq) (b n c : Nat), tagHears s r = true ∧ b < 16 ∧ 1 ≤ n ∧ b + n ≤ 16 :=
  ⟨wPsp {}, wReq .nonAddressed, 15, 1, 0, by decide⟩
theorem test_passportTagAnswersAndWireWrites_2c : ∃ (s : State) (r : TagReq) (b n c : Nat), tagHears s r = true ∧ 16 ≤ b ∧ 16 < b + n :=
  ⟨wPsp {}, wReq .nonAddressed, 16, 1, 0, by decide⟩
theorem test_passportTagAnswersAndWireWrites_2d : ∃ (s : State) (r : TagReq) (b n c : Nat), tagHears s r = true ∧ r.mode ≠ .nonAddressed :=
  ⟨wPsp {}, wReq (.addressed wUid), 0, 0, 0, by decide⟩
theorem test_passportTagAnswersAndWireWrites_2 : ∃ (s : State) (r : TagReq) (b n c : Nat), tagHears s r = true :=
  ⟨wPsp {}, wReq .nonAddressed, 15, 1, 0, by decide⟩
theorem test_passportTagAnswersAndWireWrites_3 : ∃ (s : State) (r : TagReq) (m : BitVec 64) (k n c : Nat) (pw : Bytes), tagHears s r = false :=
  ⟨State.reset, wReq .nonAddressed, 0, 0, 0, 0, [], by decide⟩
theorem test_passportTagAnswersAndWireWrites_4b : ∃ (s : State) (r : TagReq) (u m : BitVec 64) (n : Nat), s.psp.field = true ∧ r.highRate = true ∧ n ≤ 64 ∧ (tagUid s).toNat % 2 ^ n ≠ m.toNat % 2 ^ n :=
  ⟨wPsp {}, wReq (.addressed wUid), wUid, 1, 64, by decide⟩
theorem test_passportTagAnswersAndWireWrites_4c : ∃ (s : State) (r : TagReq) (u m : BitVec 64) (n : Nat), s.psp.field = true ∧ r.highRate = true ∧ n ≤ 60 ∧ s.psp.quiet = false ∧ (tagUid s).toNat % 2 ^ n = m.toNat % 2 ^ n ∧ (tagUid s).toNat / 2 ^ n % 16 = 0 :=
  ⟨wPsp {}, wReq (.addressed wUid), wUid, 0, 4, by decide⟩
theorem test_passportTagAnswersAndWireWrites_4d : ∃ (s : State) (r : TagReq) (u m : BitVec 64) (n : Nat), s.psp.field = true ∧ r.highRate = true ∧ r.mode = .addressed u ∧ u = tagUid s :=
  ⟨wPsp {}, wReq (.addressed wUid), wUid, 0, 0, by decide⟩
theorem test_passportTagAnswersAndWireWrites_4e : ∃ (s : State) (r : TagReq) (u m : BitVec 64) (n : Nat), s.psp.field = true ∧ r.highRate = true ∧ r.mode = .addressed u ∧ u ≠ tagUid s :=
  ⟨wPsp {}, wReq (.addressed 1), 1, 0, 0, by decide⟩
theorem test_passportTagAnswersAndWireWrites_4 : ∃ (s : State) (r : TagReq) (u m : BitVec 64) (n : Nat), s.psp.field = true ∧ r.highRate = true :=
  ⟨wPsp {}, wReq (.addressed wUid), wUid, 0, 64, by decide⟩
theorem test_passportTagAnswersAndWireWrites_5b : ∃ (s : State) (r : TagReq) (k off len : Nat), customHears s r = true ∧ (48 ≤ k ∨ len = 0 ∨ 128 < len) :=
  ⟨wPsp {}, wReq (.addressed wUid), 0, 0, 129, by decide⟩
theorem test_passportTagAnswersAndWireWrites_5c : ∃ (s : State) (r : TagReq) (k off len : Nat), customHears s r = true ∧ k < 48 ∧ 1 ≤ len ∧ len ≤ 128 ∧ 2 ≤ k ∧ s.psp.view.getLsbD k = false :=
  ⟨wPsp {}, wReq (.addressed wUid), 47, 0, 4, by decide⟩
theorem test_passportTagAnswersAndWireWrites_5d : ∃ (s : State) (r : TagReq) (k off len : Nat), customHears s r = true ∧ k < 48 ∧ 1 ≤ len ∧ len ≤ 128 ∧ visible s k = true ∧ k ∈ s.psp.updating :=
  ⟨wPsp { updating := [1] }, wReq (.addressed wUid), 1, 0, 4, by decide⟩
theorem test_passportTagAnswersAndWireWrites_5e : ∃ (s : State) (r : TagReq) (k off len : Nat), customHears s r = true ∧ k < 48 ∧ 1 ≤ len ∧ len ≤ 128 ∧ visible s k = true ∧ k ∉ s.psp.updating ∧ off + len ≤ (recordContent s k).length :=
  ⟨wPsp {}, wReq (.addressed wUid), 1, 60, 4, by decide⟩
theorem test_passportTagAnswersAndWireWrites_5 : ∃ (s : State) (r : TagReq) (k off len : Nat), customHears s r = true :=
  ⟨wPsp {}, wReq (.addressed wUid), 0, 0, 64, by decide⟩
theorem test_passportTagAnswersAndWireWrites_6b : ∃ (s : State) (r : TagReq) (p n : Nat) (pw : Bytes), customHears s r = true ∧ n = tabGet s.psp.fails p 0 ∧ 2 ≤ p :=
  ⟨wPsp {}, wReq (.addressed wUid), 2, 0, [5], by decide⟩
theorem test_passportTagAnswersAndWireWrites_6c : ∃ (s : State) (r : TagReq) (p n : Nat) (pw : Bytes), customHears s r = true ∧ n = tabGet s.psp.fails p 0 ∧ (p < 2 ∧ (allZero (tabGet s.psp.pws p []) = true ∨ 8 ≤ n)) :=
  ⟨wPsp { pws := [(1, [5])], fails := [(1, 8)] }, wReq (.addressed wUid), 1, 8, [5], by decide⟩
theorem test_passportTagAnswersAndWireWrites_6d : ∃ (s : State) (r : TagReq) (p n : Nat) (pw : Bytes), customHears s r = true ∧ n = tabGet s.psp.fails p 0 ∧ p < 2 ∧ allZero (tabGet s.psp.pws p []) = false ∧ n < 8 ∧ r.energy = false :=
  ⟨wPsp { pws := [(1, [5])] }, { wReq (.addressed wUid) with energy := false }, 1, 0, [5], by decide⟩
theorem test_passportTagAnswersAndWireWrites_6e : ∃ (s : State) (r : TagReq) (p n : Nat) (pw : Bytes), customHears s r = true ∧ n = tabGet s.psp.fails p 0 ∧ p < 2 ∧ allZero (tabGet s.psp.pws p []) = false ∧ n < 8 ∧ r.energy = true ∧ pw = tabGet s.psp.pws p [] :=
  ⟨wPsp { pws := [(1, [5])] }, wReq (.addressed wUid), 1, 0, [5], by decide⟩
theorem test_passportTagAnswersAndWireWrites_6f : ∃ (s : State) (r : TagReq) (p n : Nat) (pw : Bytes), customHears s r = true ∧ n = tabGet s.psp.fails p 0 ∧ p < 2 ∧ allZero (tabGet s.psp.pws p []) = false ∧ n < 8 ∧ r.energy = true ∧ pw ≠ tabGet s.psp.pws p [] :=
  ⟨wPsp { pws := [(1, [5])], fails := [(1, 7)] }, wReq (.addressed wUid), 1, 7, [6], by decide⟩
theorem test_passportTagAnswersAndWireWrites_6 : ∃ (s : State) (r : TagReq) (p n : Nat) (pw : Bytes), customHears s r = true ∧ n = tabGet s.psp.fails p 0 :=
  ⟨wPsp { pws := [(0, [5])] }, wReq (.addressed wUid), 0, 0, [5], by decide⟩
theorem test_passportTagAnswersAndWireWrites_7b : ∃ (s : State) (r : TagReq) (k : Nat) (x : Bytes) (l : List (Nat × Bytes)), customHears s r = true ∧ l = tabGet s.psp.notes k [] ∧ 16 ≤ k ∧ k ≤ 31 ∧ s.psp.auth.getLsbD 0 = false :=
  ⟨wPsp {}, wReq (.addressed wUid), 16, [65], [], by decide⟩
theorem test_passportTagAnswersAndWireWrites_7c : ∃ (s : State) (r : TagReq) (k : Nat) (x : Bytes) (l : List (Nat × Bytes)), customHears s r = true ∧ l = tabGet s.psp.notes k [] ∧ 16 ≤ k ∧ k ≤ 31 ∧ s.psp.auth.getLsbD 0 = true ∧ k ∉ s.psp.updating ∧ 32 ≤ l.length :=
  ⟨wPsp { auth := 1, notes := [(16, List.replicate 32 (1, []))] }, wReq (.addressed wUid), 16, [65], List.replicate 32 (1, []), by decide⟩
theorem test_passportTagAnswersAndWireWrites_7d : ∃ (s : State) (r : TagReq) (k : Nat) (x : Bytes) (l : List (Nat × Bytes)), customHears s r = true ∧ l = tabGet s.psp.notes k [] ∧ 16 ≤ k ∧ k ≤ 31 ∧ s.psp.auth.getLsbD 0 = true ∧ k ∉ s.psp.updating ∧ l.length < 32 ∧ r.energy = false :=
  ⟨wPsp { auth := 1 }, { wReq (.addressed wUid) with energy := false }, 16, [65], [], by decide⟩
theorem test_passportTagAnswersAndWireWrites_7 : ∃ (s : State) (r : TagReq) (k : Nat) (x : Bytes) (l : List (Nat × Bytes)), customHears s r = true ∧ l = tabGet s.psp.notes k [] ∧ 16 ≤ k ∧ k ≤ 31 :=
  ⟨wPsp { auth := 1 }, wReq (.addressed wUid), 31, [65], [], by decide⟩
theorem test_passportTagAnswersAndWireWrites_8b : ∃ (s : State) (r : TagReq) (k a : Nat), customHears s r = true ∧ (∀ y, (counterOf s k).1 = some y ∨ (counterOf s k).2 = some y → y.seq < 65536) ∧ (k < 32 ∨ 47 < k ∨ a = 0 ∨ 255 < a) :=
  ⟨wPsp { auth := 2 }, wReq (.addressed wUid), 48, 255, by exact ⟨by decide, by (intro y h; cases h <;> contradiction), by decide⟩⟩
theorem test_passportTagAnswersAndWireWrites_8c : ∃ (s : State) (r : TagReq) (k a : Nat), customHears s r = true ∧ (∀ y, (counterOf s k).1 = some y ∨ (counterOf s k).2 = some y → y.seq < 65536) ∧ 32 ≤ k ∧ k ≤ 47 ∧ 1 ≤ a ∧ a ≤ 255 ∧ s.psp.auth.getLsbD 1 = false :=
  ⟨wPsp {}, wReq (.addressed wUid), 32, 1, by exact ⟨by decide, by (intro y h; cases h <;> contradiction), by decide⟩⟩
theorem test_passportTagAnswersAndWireWrites_8 : ∃ (s : State) (r : TagReq) (k a : Nat), customHears s r = true ∧ (∀ y, (counterOf s k).1 = some y ∨ (counterOf s k).2 = some y → y.seq < 65536) :=
  ⟨wPsp { auth := 2 }, wReq (.addressed wUid), 47, 255, by exact ⟨by decide, by intro y h; cases h <;> contradiction⟩⟩
theorem test_passportTagAnswersAndWireWrites_9b : ∃ (s : State) (e op : Nat) (c : Cmd), s.ready e (· == 0x0550) = some c ∧ param c.desc 1 1 = op ∧ wireUnderWay s (wireTarget c) = false ∧ 2 ≤ wireTarget c ∧ wireTarget c ≠ 66 ∧ op = 0 ∧ s.psp.fieldBusy = false ∧ stageFits s (wireTarget c) (wireContent c) = true :=
  ⟨wMgmt (wWrite 2 0), 3, 0, wWrite 2 0, by decide +kernel⟩
theorem test_passportTagAnswersAndWireWrites_9c : ∃ (s : State) (e op : Nat) (c : Cmd), s.ready e (· == 0x0550) = some c ∧ param c.desc 1 1 = op ∧ wireUnderWay s (wireTarget c) = false ∧ 2 ≤ wireTarget c ∧ wireTarget c ≠ 66 ∧ op = 1 ∧ s.psp.fieldBusy = true :=
  ⟨{ wMgmt (wWrite 16 1) with psp := { fieldBusy := true } }, 3, 1, wWrite 16 1, by decide +kernel⟩
theorem test_passportTagAnswersAndWireWrites_9d : ∃ (s : State) (e op : Nat) (c : Cmd), s.ready e (· == 0x0550) = some c ∧ param c.desc 1 1 = op ∧ wireUnderWay s (wireTarget c) = false ∧ 2 ≤ wireTarget c ∧ wireTarget c ≠ 66 ∧ op = 2 ∧ s.psp.fieldBusy = false ∧ stageFits s (wireTarget c) (wireContent c) = true :=
  ⟨wMgmt (wWrite 33 2), 3, 2, wWrite 33 2, by decide +kernel⟩
theorem test_passportTagAnswersAndWireWrites_9e : ∃ (s : State) (e op : Nat) (c : Cmd), s.ready e (· == 0x0550) = some c ∧ param c.desc 1 1 = op ∧ wireUnderWay s (wireTarget c) = false ∧ 2 ≤ wireTarget c ∧ wireTarget c ≠ 66 ∧ op = 3 ∧ s.psp.fieldBusy = false ∧ stageFits s (wireTarget c) (wireContent c) = true :=
  ⟨wMgmt (wWrite 1 3), 3, 3, wWrite 1 3, by decide +kernel⟩
theorem test_passportTagAnswersAndWireWrites_9 : ∃ (s : State) (e op : Nat) (c : Cmd), s.ready e (· == 0x0550) = some c ∧ param c.desc 1 1 = op ∧ wireUnderWay s (wireTarget c) = false ∧ 2 ≤ wireTarget c ∧ wireTarget c ≠ 66 :=
  ⟨wMgmt (wWrite 33 2), 3, 2, wWrite 33 2, by decide +kernel⟩
theorem test_passportTagAnswersAndWireWrites_10b : ∃ (s : State) (k : Nat) (fst lst : Bool) (x : Bytes) (t0 : Nat) (rest : List (Nat × Bool × Bool × Bytes × Nat)), s.psp.staged = (k, fst, lst, x, t0) :: rest ∧ s.psp.field = true ∧ t0 + 5000000 ≤ s.tbs.now :=
  ⟨{ wStaged 2 [1] with tbs := { now := 5000000 }, psp := { (wStaged 2 [1]).psp with field := true } }, 2, true, true, [1], 0, [], by decide⟩
theorem test_passportTagAnswersAndWireWrites_10c : ∃ (s : State) (k : Nat) (fst lst : Bool) (x : Bytes) (t0 : Nat) (rest : List (Nat × Bool × Bool × Bytes × Nat)), s.psp.staged = (k, fst, lst, x, t0) :: rest ∧ lst = true ∧ s.slu.mgmt.head? = some 3 ∧ s.ready 3 (· == 0x0550) = some (wWrite 65 0) ∧ 65 = k :=
  ⟨{ wMgmt (wWrite 65 0) with psp := (wStaged 65 [1]).psp }, 65, true, true, [1], 0, [], by decide +kernel⟩
theorem test_passportTagAnswersAndWireWrites_10d : ∃ (s : State) (k : Nat) (fst lst : Bool) (x : Bytes) (t0 : Nat) (rest : List (Nat × Bool × Bool × Bytes × Nat)), s.psp.staged = (k, fst, lst, x, t0) :: rest ∧ (s.psp.field = false ∨ s.tbs.now < t0 + 5000000) :=
  ⟨wStaged 2 [1], 2, true, true, [1], 0, [], by decide⟩
theorem test_passportTagAnswersAndWireWrites_10 : ∃ (s : State) (k : Nat) (fst lst : Bool) (x : Bytes) (t0 : Nat) (rest : List (Nat × Bool × Bool × Bytes × Nat)), s.psp.staged = (k, fst, lst, x, t0) :: rest :=
  ⟨wStaged 2 [1], 2, true, true, [1], 0, [], by decide⟩
theorem test_passportTagAnswersAndWireWrites_11b : ∃ (s : State) (k t0 : Nat) (x : Bytes) (rest : List (Nat × Bytes × Nat)), s.psp.busy = (k, x, t0) :: rest ∧ s.tbs.now < t0 :=
  ⟨{ State.reset with psp := { busy := [(2, [1], 1)] } }, 2, 1, [1], [], by decide⟩
theorem test_passportTagAnswersAndWireWrites_11c : ∃ (s : State) (k t0 : Nat) (x : Bytes) (rest : List (Nat × Bytes × Nat)), s.psp.busy = (k, x, t0) :: rest ∧ t0 ≤ s.tbs.now ∧ stageFits s k x = true ∧ 2 ≤ k ∧ k ≠ 66 :=
  ⟨{ State.reset with psp := { busy := [(2, [1], 0)] } }, 2, 0, [1], [], by decide⟩
theorem test_passportTagAnswersAndWireWrites_11 : ∃ (s : State) (k t0 : Nat) (x : Bytes) (rest : List (Nat × Bytes × Nat)), s.psp.busy = (k, x, t0) :: rest :=
  ⟨{ State.reset with psp := { busy := [(2, [1], 0)] } }, 2, 0, [1], [], by decide⟩

theorem test_registersAreReadLatchedAndWritten_1b : ∃ (s : State) (f : FnId) (off : Nat) (size : Nat) (v : BitVec 64) (arr : BitVec 64), barReached s f off = true ∧ (¬ (size = 4 ∧ off % 4 = 0 ∨ size = 8 ∧ off % 8 = 0)) ∧ (¬ (size = 4 ∧ off % 4 = 0 ∨ size = 8 ∧ off % 8 = 0)) :=
  ⟨wLinks {}, ⟨true, 0⟩, 0, 2, 0, 0, by decide⟩
theorem test_registersAreReadLatchedAndWritten_1 : ∃ (s : State) (f : FnId) (off : Nat) (size : Nat) (v : BitVec 64) (arr : BitVec 64), barReached s f off = true ∧ (¬ (size = 4 ∧ off % 4 = 0 ∨ size = 8 ∧ off % 8 = 0)) :=
  ⟨wLinks {}, ⟨false, 0⟩, 4, 8, 0, 0, by decide⟩
theorem test_registersAreReadLatchedAndWritten_2 : ∃ (s : State) (f : FnId) (off : Nat) (size : Nat) (v : BitVec 64) (arr : BitVec 64), barReached s f off = false :=
  ⟨State.reset, ⟨false, 40⟩, 4, 8, 0, 0, by decide⟩
theorem test_registersAreReadLatchedAndWritten_3b : ∃ (s : State) (f : FnId) (off : Nat) (b w v : Nat), barReached s f off = true ∧ off % 4 = 0 ∧ s.fnt.op ≠ .halted ∧ off < 0x1000000 ∧ (b ≠ 0x104410 ∨ s.vlt.rewrap = false) ∧ hostReg s f off = some (b, w, v) ∧ w ≤ 4 :=
  ⟨wLinks {}, ⟨false, 0⟩, 0, 0, 4, 0x4C48584F, by decide +kernel⟩
theorem test_registersAreReadLatchedAndWritten_3c : ∃ (s : State) (f : FnId) (off : Nat) (b w v : Nat), barReached s f off = true ∧ off % 4 = 0 ∧ s.fnt.op ≠ .halted ∧ off < 0x1000000 ∧ (b ≠ 0x104410 ∨ s.vlt.rewrap = false) ∧ hostReg s f off = some (b, w, v) ∧ 4 < w ∧ off = b :=
  ⟨wLinks {}, ⟨false, 0⟩, 0x102400, 0x102400, 8, 0, by decide +kernel⟩
theorem test_registersAreReadLatchedAndWritten_3d : ∃ (s : State) (f : FnId) (off : Nat) (b w v : Nat), barReached s f off = true ∧ off % 4 = 0 ∧ s.fnt.op ≠ .halted ∧ off < 0x1000000 ∧ (b ≠ 0x104410 ∨ s.vlt.rewrap = false) ∧ hostReg s f off = some (b, w, v) ∧ 4 < w ∧ off ≠ b ∧ tabFind (s.fn f).latch b = some 5 :=
  ⟨wLinks { latch := [(0x102400, 5)] }, ⟨false, 0⟩, 0x102404, 0x102400, 8, 0, by decide +kernel⟩
theorem test_registersAreReadLatchedAndWritten_3 : ∃ (s : State) (f : FnId) (off : Nat) (b w v : Nat), barReached s f off = true ∧ off % 4 = 0 ∧ s.fnt.op ≠ .halted ∧ off < 0x1000000 ∧ (b ≠ 0x104410 ∨ s.vlt.rewrap = false) ∧ hostReg s f off = some (b, w, v) :=
  ⟨wLinks {}, ⟨false, 0⟩, 0, 0, 4, 0x4C48584F, by decide +kernel⟩
theorem test_registersAreReadLatchedAndWritten_4b : ∃ (s : State) (f : FnId), barReached s f 0 = true ∧ f.vf = 0 :=
  ⟨wLinks {}, ⟨true, 0⟩, by decide⟩
theorem test_registersAreReadLatchedAndWritten_4 : ∃ (s : State) (f : FnId), barReached s f 0 = true :=
  ⟨wLinks {}, ⟨false, 0⟩, by decide⟩
theorem test_registersAreReadLatchedAndWritten_5b : ∃ (s : State) (f : FnId) (n : Nat) (v arr : BitVec 64) (x : FnState) (e : BitVec 64 × BitVec 32), barReached s f 0x1000000 = true ∧ s.fnt.op ≠ .halted ∧ n < 64 ∧ x = s.fn f ∧ e = tabGet x.table n (0, 0) ∧ v.getLsbD 0 = true :=
  ⟨wLinks { table := [(63, (0xFEE00000, 7))] }, ⟨false, 0⟩, 63, 1, 0, { table := [(63, (0xFEE00000, 7))] }, (0xFEE00000, 7), by decide +kernel⟩
theorem test_registersAreReadLatchedAndWritten_5c : ∃ (s : State) (f : FnId) (n : Nat) (v arr : BitVec 64) (x : FnState) (e : BitVec 64 × BitVec 32), barReached s f 0x1000000 = true ∧ s.fnt.op ≠ .halted ∧ n < 64 ∧ x = s.fn f ∧ e = tabGet x.table n (0, 0) ∧ v.getLsbD 0 = false ∧ x.vecPending = 0 :=
  ⟨wLinks { vecMask := 1 }, ⟨false, 0⟩, 0, 2, 0, { vecMask := 1 }, (0, 0), by decide +kernel⟩
theorem test_registersAreReadLatchedAndWritten_5 : ∃ (s : State) (f : FnId) (n : Nat) (v arr : BitVec 64) (x : FnState) (e : BitVec 64 × BitVec 32), barReached s f 0x1000000 = true ∧ s.fnt.op ≠ .halted ∧ n < 64 ∧ x = s.fn f ∧ e = tabGet x.table n (0, 0) :=
  ⟨wLinks { table := [(63, (0xFEE00000, 7))] }, ⟨false, 0⟩, 63, 1, 0, { table := [(63, (0xFEE00000, 7))] }, (0xFEE00000, 7), by decide +kernel⟩
theorem test_registersAreReadLatchedAndWritten_6 : ∃ (s : State) (f : FnId) (off : Nat) (size : Nat) (v : BitVec 64) (arr : BitVec 64), s.fnt.op = .halted ∧ off < 0x2000000 ∧ off % 8 = 0 ∧ (size = 4 ∨ size = 8) :=
  ⟨{ wLinks {} with fnt := { op := .halted } }, ⟨false, 0⟩, 8, 8, 0, 0, by decide⟩
theorem test_registersAreReadLatchedAndWritten_7 : ∃ (s : State) (f : FnId) (v : BitVec 64) (arr : BitVec 64), barReached s f 0x100004 = true ∧ s.fnt.op ≠ .halted :=
  ⟨wLinks {}, ⟨false, 0⟩, 1, 0x0302, by decide⟩
theorem test_registersAreReadLatchedAndWritten_8b : ∃ (s : State) (p : Bool) (v : BitVec 64) (arr : BitVec 64), barReached s ⟨p, 0⟩ 0x102420 = true ∧ s.fnt.op ≠ .halted ∧ ((s.lay.lock = false ∨ s.fnt.op = .maintenance) ∧ v.toNat % 2 ^ 30 ≤ 999999999) :=
  ⟨wLinks {}, true, 999999999, 0, by decide⟩
theorem test_registersAreReadLatchedAndWritten_8c : ∃ (s : State) (p : Bool) (v : BitVec 64) (arr : BitVec 64), barReached s ⟨p, 0⟩ 0x102420 = true ∧ s.fnt.op ≠ .halted ∧ s.lay.lock = true ∧ s.fnt.op ≠ .maintenance :=
  ⟨{ wLinks {} with lay := { lock := true } }, true, 7, 0, by decide⟩
theorem test_registersAreReadLatchedAndWritten_8 : ∃ (s : State) (p : Bool) (v : BitVec 64) (arr : BitVec 64), barReached s ⟨p, 0⟩ 0x102420 = true ∧ s.fnt.op ≠ .halted :=
  ⟨wLinks {}, true, 7, 0, by decide⟩

theorem test_powerOnWarmResetAndBoot_1b : ∃ (s : State) (rail : Nat) (x : Bool), 1 ≤ rail ∧ rail < 9 ∧ (rail ≠ 3 ∨ s.pwr.main = false) :=
  ⟨State.reset, 1, false, by decide⟩
theorem test_powerOnWarmResetAndBoot_1 : ∃ (s : State) (rail : Nat) (x : Bool), 1 ≤ rail ∧ rail < 9 :=
  ⟨State.reset, 8, true, by decide⟩
theorem test_powerOnWarmResetAndBoot_2 : ∃ (s : State) (rail : Nat) (x : Bool), (rail = 0 ∨ 9 ≤ rail) :=
  ⟨State.reset, 9, true, by decide⟩
theorem test_powerOnWarmResetAndBoot_3b : ∃ (s : State) (c : BitVec 32), s.fnt.pendingLc = none ∧ (c ≠ 0x57525354 ∨ s.pwr.main = false ∨ s.pwr.por = true ∨ s.pwr.bootStep < 2) :=
  ⟨State.reset, 0x57525354, by decide⟩
theorem test_powerOnWarmResetAndBoot_3c : ∃ (s : State) (c : BitVec 32), s.fnt.pendingLc = none ∧ c = 0x57525354 ∧ s.pwr.main = true ∧ s.pwr.por = false ∧ 2 ≤ s.pwr.bootStep :=
  ⟨{ State.reset with pwr := { bootStep := 2 } }, 0x57525354, by decide⟩
theorem test_powerOnWarmResetAndBoot_3 : ∃ (s : State) (c : BitVec 32), s.fnt.pendingLc = none :=
  ⟨{ State.reset with pwr := { bootStep := 13 } }, 0x57525354, by decide⟩
theorem test_powerOnWarmResetAndBoot_4b : ∃ (s : State), s.pwr.por = false ∧ s.pwr.main = true ∧ s.fnt.op ≠ .booting :=
  ⟨{ State.reset with fnt := { op := .serving } }, by decide⟩
theorem test_powerOnWarmResetAndBoot_4c : ∃ (s : State), s.pwr.por = false ∧ s.pwr.main = true ∧ s.fnt.op = .booting ∧ s.pwr.bootStep = 1 ∧ s.pwr.warm = false ∧ s.spg.seeded = false ∧ s.fnt.pendingLc = none ∧ s.life ≠ 5 ∧ s.life ≠ 0xF ∧ s.fnt.rbFnt ≤ s.fnt.runningRollback :=
  ⟨State.reset, by decide +kernel⟩
theorem test_powerOnWarmResetAndBoot_4d : ∃ (s : State), s.pwr.por = false ∧ s.pwr.main = true ∧ (s.fnt.op = .booting ∧ s.pwr.bootStep = 1 ∧ s.pwr.warm = false ∧ s.spg.seeded = false ∧ s.fnt.pendingLc = none ∧ (s.life = 5 ∨ s.life = 0xF)) :=
  ⟨{ State.reset with fnt := { lifeWord := 1 } }, by decide +kernel⟩
theorem test_powerOnWarmResetAndBoot_4 : ∃ (s : State), s.pwr.por = false ∧ s.pwr.main = true :=
  ⟨State.reset, by decide⟩
theorem test_powerOnWarmResetAndBoot_5 : ∃ (s : State), (s.pwr.por = true ∨ s.pwr.main = false) :=
  ⟨{ State.reset with pwr := { por := true } }, by decide⟩

def wKept : State := { State.reset with mem := memWriteN [] 0x10000010 [1, 0, 2], tbs := { now := 5, setReq := some 7 }, pending := [.nop 3] }
def wStepped : State := match step wKept with | .next t => t | _ => State.reset

theorem test_stepRunsTheFrontCommand_2b : ∃ (s : State), s.pending = [] ∧ s.pwr.por = false ∧ s.pwr.main = true ∧ s.tbs.frac < 2 ^ 32 ∧ s.tbs.now + 2 < 2 ^ 64 ∧ s.tbs.trim ≤ 1000000 ∧ -1000000 ≤ s.tbs.trim ∧ Quiet s :=
  ⟨State.reset, by exact ⟨by decide, by decide, by decide, by decide, by decide, by decide, by decide, fun i h => by simp [State.reset], (fun p h => by cases h), (fun k h => by cases h), by decide, (fun p h => by cases h), by decide⟩⟩
theorem test_stepRunsTheFrontCommand_2 : ∃ (s : State), s.pending = [] ∧ s.pwr.por = false ∧ s.pwr.main = true ∧ s.tbs.frac < 2 ^ 32 ∧ s.tbs.now + 2 < 2 ^ 64 ∧ s.tbs.trim ≤ 1000000 ∧ -1000000 ≤ s.tbs.trim :=
  ⟨State.reset, by decide⟩

theorem test_everyStepKeepsMemoryTimeAndTheQueue_1 : ∃ (s t : State), Kept s ∧ step s = .next t :=
  ⟨wKept, wStepped, by exact ⟨⟨by decide, by decide, by decide, by intro v h; cases h; decide⟩, by rfl⟩⟩

end Sys2Proof.Tests

end
end

section
/-! SUPPORT. O56: host accesses to BAR0 and BAR2 (R100, R101, R107, R480), and the W1C write of an event register (R8, R9). -/

namespace Sys2Proof.Machine

/-! ### Bits, fields and the bytes of an event count register -/

theorem testBit_bitsAt (v lo len k : Nat) : (bitsAt v lo len).testBit k = (decide (k < len) && v.testBit (lo + k)) := by
  rw [bitsAt, Nat.testBit_mod_two_pow, Nat.testBit_div_two_pow, Nat.add_comm]

/-- A field lies in the low bits that hold it. -/
theorem bitsAt_mod_two_pow {v lo len n : Nat} (h : lo + len ≤ n) : bitsAt (v % 2 ^ n) lo len = bitsAt v lo len := by
  refine Nat.eq_of_testBit_eq fun k => ?_
  simp only [testBit_bitsAt, Nat.testBit_mod_two_pow]
  by_cases hk : k < len
  · simp [show lo + k < n by omega]
  · simp [hk]

theorem getLsbD_ofNat_two_pow {w j : Nat} (i : Nat) (hj : j < w) : (BitVec.ofNat w (2 ^ i)).getLsbD j = decide (j = i) := by
  rw [BitVec.getLsbD_ofNat, Nat.testBit_two_pow]
  simp [hj, eq_comm]

theorem getLsbD_or_two_pow {w j : Nat} (x : BitVec w) (i : Nat) (hj : j < w) :
    (x ||| BitVec.ofNat w (2 ^ i)).getLsbD j = (x.getLsbD j || decide (j = i)) := by
  rw [BitVec.getLsbD_or, getLsbD_ofNat_two_pow i hj]

theorem getLsbD_and_not_two_pow {w j : Nat} (x : BitVec w) (i : Nat) (hj : j < w) :
    (x &&& ~~~ BitVec.ofNat w (2 ^ i)).getLsbD j = (x.getLsbD j && !decide (j = i)) := by
  rw [BitVec.getLsbD_and, BitVec.getLsbD_not, getLsbD_ofNat_two_pow i hj]
  simp [hj]

theorem Events.count_lt (e : Events) (i : Nat) : e.count i < 256 := Nat.mod_lt _ (by decide)

/-- A number with its byte at place p replaced, as the bytes above, the new byte, and those below. -/
theorem replaceByte_eq (p x b : Nat) :
    x - x / p % 2 ^ 8 * p + b * p = p * (2 ^ 8 * (x / p / 2 ^ 8) + b) + x % p := by
  have hx : p * (2 ^ 8 * (x / p / 2 ^ 8) + x / p % 2 ^ 8) + x % p = x := by
    rw [Nat.div_add_mod, Nat.div_add_mod]
  rw [Nat.mul_add, Nat.mul_comm p (x / p % 2 ^ 8)] at hx
  rw [Nat.mul_add, Nat.mul_comm p b]
  omega

/-- Replacing a byte stays below a bound p * (2 ^ 8 * q) that holds the number. -/
theorem replaceByte_lt {p q x b : Nat} (hp : 0 < p) (hx : x < p * (2 ^ 8 * q)) (hb : b < 2 ^ 8) :
    p * (2 ^ 8 * (x / p / 2 ^ 8) + b) + x % p < p * (2 ^ 8 * q) := by
  have htop : x / p / 2 ^ 8 < q := Nat.div_lt_of_lt_mul (Nat.div_lt_of_lt_mul hx)
  calc p * (2 ^ 8 * (x / p / 2 ^ 8) + b) + x % p
      < p * (2 ^ 8 * (x / p / 2 ^ 8) + b) + p := Nat.add_lt_add_left (Nat.mod_lt _ hp) _
    _ = p * (2 ^ 8 * (x / p / 2 ^ 8) + b + 1) := (Nat.mul_succ _ _).symm
    _ ≤ p * (2 ^ 8 * q) := Nat.mul_le_mul_left _ (by omega)

theorem putCount_toNat (c : BitVec 64) {i : Nat} (v : Nat) (hi : i < 8) :
    (putCount c i v).toNat = 2 ^ (8 * i) * (2 ^ 8 * (c.toNat / 2 ^ (8 * i) / 2 ^ 8) + v % 2 ^ 8) + c.toNat % 2 ^ (8 * i) := by
  have hsplit : 2 ^ 64 = 2 ^ (8 * i) * (2 ^ 8 * 2 ^ (56 - 8 * i)) := by
    rw [← Nat.pow_add, ← Nat.pow_add]; congr 1; omega
  have hc : c.toNat < 2 ^ (8 * i) * (2 ^ 8 * 2 ^ (56 - 8 * i)) := hsplit ▸ c.isLt
  have hlt := replaceByte_lt (Nat.two_pow_pos _) hc (Nat.mod_lt v (Nat.two_pow_pos 8))
  rw [putCount, BitVec.toNat_ofNat, bitsAt, replaceByte_eq, show v % 256 = v % 2 ^ 8 from rfl]
  exact Nat.mod_eq_of_lt (Nat.lt_of_lt_of_eq hlt hsplit.symm)

/-- A write of one byte of the count register leaves the others. -/
theorem bitsAt_putCount (c : BitVec 64) {i : Nat} (j v : Nat) (hi : i < 8) :
    bitsAt (putCount c i v).toNat (8 * j) 8 = if j = i then v % 256 else bitsAt c.toNat (8 * j) 8 := by
  refine Nat.eq_of_testBit_eq fun k => ?_
  rw [testBit_bitsAt, putCount_toNat c v hi, Nat.testBit_two_pow_mul_add _ (Nat.mod_lt _ (Nat.two_pow_pos _)),
    Nat.testBit_two_pow_mul_add _ (Nat.mod_lt _ (by decide))]
  by_cases hk : k < 8
  · rcases Nat.lt_trichotomy j i with h | h | h
    · rw [if_pos (show 8 * j + k < 8 * i by omega), if_neg (Nat.ne_of_lt h), testBit_bitsAt, Nat.testBit_mod_two_pow,
        decide_eq_true (show 8 * j + k < 8 * i by omega), Bool.true_and]
    · subst h
      rw [if_neg (show ¬ 8 * j + k < 8 * j by omega), if_pos (show 8 * j + k - 8 * j < 8 by omega), if_pos rfl,
        show 8 * j + k - 8 * j = k by omega, decide_eq_true hk, Bool.true_and]
    · rw [if_neg (show ¬ 8 * j + k < 8 * i by omega), if_neg (show ¬ 8 * j + k - 8 * i < 8 by omega), if_neg (Nat.ne_of_gt h), testBit_bitsAt,
        Nat.testBit_div_two_pow, Nat.testBit_div_two_pow, show 8 * j + k - 8 * i - 8 + 8 + 8 * i = 8 * j + k by omega]
  · have hb : (v % 256).testBit k = false := by
      rw [show v % 256 = v % 2 ^ 8 from rfl, Nat.testBit_mod_two_pow]
      simp [hk]
    by_cases h : j = i
    · rw [if_pos h, hb]; simp [hk]
    · rw [if_neg h, testBit_bitsAt]; simp [hk]

/-! ### The W1C write of an event register (R8, R9) -/

/-- A flag of an event register with its count. -/
def Events.flagCount (e : Events) (i : Nat) : Bool × Nat := (e.flags.getLsbD i, e.count i)

/-- What a W1C write leaves of a flag and its count when n sets arrive during the clear: written, they are what arrived (R8, R9);
not written, the sets count as usual. -/
def clearedFlag (written : Bool) (n : Nat) (x : Bool × Nat) : Bool × Nat :=
  if written then (n != 0, n) else (x.1 || n != 0, min 0xFF (x.2 + n))

/-- The part of a W1C write that concerns flag i. -/
def Events.clearOne (v : BitVec 8) (arrived : BitVec 64) (acc : Events) (i : Nat) : Events :=
  let n := bitsAt arrived.toNat (8 * i) 8
  if v.getLsbD i then
    { flags := if n = 0 then acc.flags &&& ~~~ BitVec.ofNat 8 (2 ^ i) else acc.flags ||| BitVec.ofNat 8 (2 ^ i)
      counts := putCount acc.counts i n }
  else acc.setN i n

theorem Events.clear_eq_foldl (e : Events) (v : BitVec 8) (arrived : BitVec 64) :
    e.clear v arrived = (List.range 8).foldl (Events.clearOne v arrived) e := rfl

theorem Events.flagCount_setN (e : Events) {i j : Nat} (n : Nat) (hi : i < 8) (hj : j < 8) :
    (e.setN i n).flagCount j = if j = i then clearedFlag false n (e.flagCount j) else e.flagCount j := by
  have hc := e.count_lt j
  unfold Events.setN
  split
  · next h => simp [h, clearedFlag, Events.flagCount, show min 255 (e.count j) = e.count j by omega]
  · next h =>
    simp only [Events.flagCount, Events.count, bitsAt_putCount _ _ _ hi, getLsbD_or_two_pow _ _ hj]
    by_cases hji : j = i
    · subst hji
      simp [clearedFlag, h, Nat.mod_eq_of_lt (show min 255 (bitsAt e.counts.toNat (8 * j) 8 + n) < 256 by omega)]
    · simp [hji]

theorem Events.flagCount_clearOne (e : Events) (v : BitVec 8) (arrived : BitVec 64) {i j : Nat} (hi : i < 8) (hj : j < 8) :
    (e.clearOne v arrived i).flagCount j =
      if j = i then clearedFlag (v.getLsbD j) (bitsAt arrived.toNat (8 * j) 8) (e.flagCount j) else e.flagCount j := by
  cases hv : v.getLsbD i with
  | false =>
    simp only [Events.clearOne, hv, Bool.false_eq_true, if_false, Events.flagCount_setN e _ hi hj]
    split
    · next h => subst h; rw [hv]
    · rfl
  | true =>
    have hn : bitsAt arrived.toNat (8 * i) 8 % 256 = bitsAt arrived.toNat (8 * i) 8 := Nat.mod_mod _ _
    simp only [Events.clearOne, hv, if_true, Events.flagCount, Events.count, bitsAt_putCount _ _ _ hi, hn]
    by_cases h0 : bitsAt arrived.toNat (8 * i) 8 = 0
    · rw [if_pos h0, getLsbD_and_not_two_pow _ _ hj]
      by_cases hji : j = i
      · subst hji; simp [clearedFlag, hv, h0]
      · simp [hji]
    · rw [if_neg h0, getLsbD_or_two_pow _ _ hj]
      by_cases hji : j = i
      · subst hji; simp [clearedFlag, hv, h0]
      · simp [hji]

/-- The flags are cleared one after the other, each apart from the others. -/
theorem Events.flagCount_foldl_clearOne (e : Events) (v : BitVec 8) (arrived : BitVec 64) {j : Nat} (hj : j < 8) :
    ∀ m, m ≤ 8 → ((List.range m).foldl (Events.clearOne v arrived) e).flagCount j =
      if j < m then clearedFlag (v.getLsbD j) (bitsAt arrived.toNat (8 * j) 8) (e.flagCount j) else e.flagCount j := by
  intro m
  induction m with
  | zero => intro _; simp
  | succ m ih =>
    intro hm
    rw [List.range_succ, List.foldl_append, List.foldl_cons, List.foldl_nil, Events.flagCount_clearOne _ _ _ (by omega) hj,
      ih (by omega)]
    by_cases h : j = m
    · subst h; simp
    · simp [h, show j < m + 1 ↔ j < m by omega]

/-- A W1C write of an event register of m flags, flag by flag. -/
theorem flagCount_clearEvents (e : Events) {m i : Nat} (v : Nat) (arr : BitVec 64) (hm : m ≤ 8) (hi : i < m) :
    (clearEvents e m v arr).flagCount i = clearedFlag (v.testBit i) (bitsAt arr.toNat (8 * i) 8) (e.flagCount i) := by
  have harr : (BitVec.ofNat 64 (arr.toNat % 2 ^ (8 * m))).toNat = arr.toNat % 2 ^ (8 * m) :=
    Nat.mod_eq_of_lt (Nat.lt_of_le_of_lt (Nat.mod_le _ _) arr.isLt)
  rw [clearEvents, Events.clear_eq_foldl, Events.flagCount_foldl_clearOne _ _ _ (by omega) 8 (Nat.le_refl 8), if_pos (by omega), harr,
    bitsAt_mod_two_pow (by omega)]
  rw [BitVec.getLsbD_ofNat, Nat.testBit_mod_two_pow]
  simp [hi, show i < 8 by omega]

/-! ### Which accesses are performed (R100, R480) -/

theorem aligned_iff (off size : Nat) : aligned off size = true ↔ (size = 4 ∧ off % 4 = 0 ∨ size = 8 ∧ off % 8 = 0) := by
  simp only [aligned, Bool.and_eq_true, Bool.or_eq_true, beq_iff_eq]
  constructor
  · rintro ⟨rfl | rfl, h⟩ <;> simp [h]
  · rintro (⟨rfl, h⟩ | ⟨rfl, h⟩) <;> simp [h]

/-- Once one access reaches a function, so does any access to its BAR0 or BAR2. -/
theorem barReached_bars {s : State} {f : FnId} {a off : Nat} (h : barReached s f a = true) (ho : off < 0x1004000) :
    barReached s f off = true := by
  simp only [barReached, Bool.and_eq_true] at h ⊢
  exact ⟨h.1, by simp [ho]⟩

theorem exec_read_unreached {s : State} {f : FnId} {off : Nat} (size : Nat) (h : barReached s f off = false) :
    exec (.wideRegisterRead f off size) s = .next s := by
  show execWideRegisterRead f off size s = _
  simp [execWideRegisterRead, h]

theorem exec_write_unreached {s : State} {f : FnId} {off : Nat} (size : Nat) (v arr : BitVec 64) (h : barReached s f off = false) :
    exec (.registerWrite f off size v arr) s = .next s := by
  show execRegisterWrite f off size v arr s = _
  simp [execRegisterWrite, h]

theorem exec_read_misaligned {s : State} {f : FnId} {off size : Nat} (h : barReached s f off = true) (ha : aligned off size = false) :
    exec (.wideRegisterRead f off size) s = .next (s.emit (.unsupportedRequest f off)) := by
  show execWideRegisterRead f off size s = _
  simp [execWideRegisterRead, h, ha]

theorem exec_write_misaligned {s : State} {f : FnId} {off size : Nat} (v arr : BitVec 64) (h : barReached s f off = true)
    (ha : aligned off size = false) :
    exec (.registerWrite f off size v arr) s = .next (s.emit (.unsupportedRequest f off)) := by
  show execRegisterWrite f off size v arr s = _
  simp [execRegisterWrite, h, ha]

theorem exec_write_halted {s : State} {f : FnId} {off size : Nat} (v arr : BitVec 64) (h : s.fnt.op = .halted) (ho : off < 0x2000000)
    (ha : aligned off size = true) : exec (.registerWrite f off size v arr) s = .next s := by
  show execRegisterWrite f off size v arr s = _
  simp [execRegisterWrite, h, ho, ha]

/-- An aligned read outside HALTED answers what readBar reads. -/
theorem exec_read_aligned {s : State} {f : FnId} {off size : Nat} (h : barReached s f off = true) (hop : s.fnt.op ≠ .halted)
    (ha : aligned off size = true) :
    exec (.wideRegisterRead f off size) s =
      .next ((s.readBar f off (size == 8)).2.emit (.readReply f off (BitVec.ofNat 64 (s.readBar f off (size == 8)).1))) := by
  show execWideRegisterRead f off size s = _
  simp [execWideRegisterRead, h, ha, hop]

/-- An aligned write outside HALTED is writeBar's. -/
theorem exec_write_aligned {s : State} {f : FnId} {off size : Nat} (v arr : BitVec 64) (h : barReached s f off = true)
    (hop : s.fnt.op ≠ .halted) (ha : aligned off size = true) :
    exec (.registerWrite f off size v arr) s = .next (s.writeBar f off (size == 8) v.toNat arr) := by
  show execRegisterWrite f off size v arr s = _
  simp [execRegisterWrite, h, ha, hop]

/-! ### Reads of a register, and the latch (R101) -/

/-- VLT_REWRAP alone takes a free value when it is read, while a re-wrap is under way. -/
theorem readPart_eq {s : State} {f : FnId} {off b w v : Nat} (n : Nat) (hr : b ≠ 0x104410 ∨ s.vlt.rewrap = false)
    (h : hostReg s f off = some (b, w, v)) :
    s.readPart f off n =
      if w ≤ n then (regPart b v off n, s)
      else if off = b then (v % 2 ^ (8 * n), s.setFn f { s.fn f with latch := tabSet (s.fn f).latch b v })
      else (regPart b ((tabFind (s.fn f).latch b).getD v) off n, s) := by
  have hs : (if b = 0x104410 && s.vlt.rewrap then { s with freeCtr := s.freeCtr + 1 } else s) = s := by
    rcases hr with hb | hv
    · simp [hb]
    · simp [hv]
  simp only [State.readPart, h, hs]

theorem readBar_word {s : State} {f : FnId} {off : Nat} (ho : off < 0x1000000) : s.readBar f off false = s.readPart f off 4 := by
  simp [State.readBar, Nat.not_le.mpr ho]

/-- A 32-bit read of a register of BAR0. -/
theorem exec_read_word {s : State} {f : FnId} {off : Nat} (h : barReached s f off = true) (hop : s.fnt.op ≠ .halted)
    (ha : off % 4 = 0) (ho : off < 0x1000000) :
    exec (.wideRegisterRead f off 4) s =
      .next ((s.readPart f off 4).2.emit (.readReply f off (BitVec.ofNat 64 (s.readPart f off 4).1))) := by
  rw [exec_read_aligned h hop ((aligned_iff off 4).mpr (.inl ⟨rfl, ha⟩)), show ((4 : Nat) == 8) = false from rfl, readBar_word ho]

/-! ### Where the registers lie -/

theorem hostReg_ident (s : State) (f : FnId) : hostReg s f 0 = some (0, 4, 0x4C48584F) := by
  simp [hostReg, blockRegs, headerRegs]

theorem hostReg_fnEvent (s : State) (f : FnId) : hostReg s f 0x100004 = some (0x100004, 4, (s.fn f).event.flags.toNat) := by
  simp [hostReg, blockRegs, welRegs]

/-- The Timebase block answers through either PF0 (R589). -/
theorem hostReg_tbs {s : State} {f : FnId} {off : Nat} (hf : f.vf = 0) (h0 : 0x102400 ≤ off) (h1 : off < 0x103000) :
    hostReg s f off = (tbsRegs s).find? (fun r => decide (r.1 ≤ off) && decide (off < r.1 + r.2.1)) := by
  simp [hostReg, blockRegs, isPf0, hf, h1, show ¬ off < 0x100 by omega, show ¬ off < 0x10000 by omega, show ¬ off < 0x101000 by omega,
    show ¬ off < 0x101800 by omega, show ¬ off < 0x101C00 by omega, show ¬ off < 0x102400 by omega, h0]

theorem hostReg_now {s : State} {f : FnId} {off : Nat} (hf : f.vf = 0) (h0 : 0x102400 ≤ off) (h1 : off < 0x102408) :
    hostReg s f off = some (0x102400, 8, s.tbs.now) := by
  rw [hostReg_tbs hf h0 (by omega)]
  simp [tbsRegs, h0, h1, State.now]

theorem hostReg_ppsOffset {s : State} {f : FnId} (hf : f.vf = 0) : hostReg s f 0x102420 = some (0x102420, 4, s.tbs.ppsOffset) := by
  rw [hostReg_tbs hf (by decide) (by decide)]
  simp [tbsRegs]

/-! ### Writes of a 32-bit register -/

/-- A 32-bit write of a register that is 32 bits wide, above the doorbells. -/
theorem exec_write_word {s : State} {f : FnId} {off b w p : Nat} (v arr : BitVec 64) (h : barReached s f off = true)
    (hop : s.fnt.op ≠ .halted) (ha : off % 4 = 0) (h0 : 0x100000 ≤ off) (h1 : off < 0x1000000) (hr : hostReg s f off = some (b, w, p))
    (hw : w ≤ 4) : exec (.registerWrite f off 4 v arr) s = .next (s.write32 f off (v.toNat % 2 ^ 32) arr) := by
  rw [exec_write_aligned v arr h hop ((aligned_iff off 4).mpr (.inl ⟨rfl, ha⟩))]
  simp [State.writeBar, State.writeWord, hr, hw, Nat.not_le.mpr h1, Nat.not_lt.mpr h0]

theorem write32_fnEvent (s : State) (f : FnId) (v : Nat) (arr : BitVec 64) :
    s.write32 f 0x100004 v arr = s.setFn f { s.fn f with event := clearEvents (s.fn f).event 5 v arr } := rfl

theorem write32_ppsOffset {s : State} {f : FnId} (v : Nat) (arr : BitVec 64) (hf : f.vf = 0) :
    s.write32 f 0x102420 v arr = s.writePpsOffset v := by
  simp [State.write32, State.writeEvent, State.writeDev32, isPf0, hf]

theorem State.fn_setFn_other (s : State) {f g : FnId} (x : FnState) (h : fnKey g ≠ fnKey f) : (s.setFn f x).fn g = s.fn g := by
  simp [State.fn, State.setFn, tabGet_tabSet_other _ _ _ h]

/-! ### The MSI-X table (R107) -/

/-- The words of an entry of the MSI-X table, k from 0 to 3. -/
theorem outerWord_msix (s : State) (f : FnId) {n k : Nat} (hn : n < 64) (hk : k < 4) :
    outerWord s f (0x1000000 + 16 * n + 4 * k) =
      if k = 0 then (tabGet (s.fn f).table n (0, 0)).1.toNat % 2 ^ 32
      else if k = 1 then (tabGet (s.fn f).table n (0, 0)).1.toNat / 2 ^ 32
      else if k = 2 then (tabGet (s.fn f).table n (0, 0)).2.toNat
      else bitNat ((s.fn f).vecMask.getLsbD n) := by
  have hdiv : (16 * n + 4 * k) / 16 = n := by omega
  have hlt : 0x1000000 + 16 * n + 4 * k < 0x1000400 := by omega
  have hsub : 0x1000000 + 16 * n + 4 * k - 0x1000000 = 16 * n + 4 * k := by omega
  simp only [outerWord, outerRegs, hlt, hsub, hdiv, if_true, msixEntry]
  obtain rfl | rfl | rfl | rfl : k = 0 ∨ k = 1 ∨ k = 2 ∨ k = 3 := by omega
  all_goals simp

/-- A write of a word of the table, k from 0 to 3. -/
theorem exec_write_msix {s : State} {f : FnId} {n k : Nat} (v arr : BitVec 64) (h : barReached s f 0x1000000 = true)
    (hop : s.fnt.op ≠ .halted) (hn : n < 64) (hk : k < 4) :
    exec (.registerWrite f (0x1000000 + 16 * n + 4 * k) 4 v arr) s =
      .next (s.writeTable f (0x1000000 + 16 * n + 4 * k) (v.toNat % 2 ^ 32)) := by
  rw [exec_write_aligned v arr (barReached_bars h (by omega)) hop ((aligned_iff _ 4).mpr (.inl ⟨rfl, by omega⟩))]
  simp [State.writeBar, State.writeOuter, show 0x1000000 ≤ 0x1000000 + 16 * n + 4 * k by omega,
    show 0x1000000 + 16 * n + 4 * k < 0x1000400 by omega]

theorem writeTable_data (s : State) (f : FnId) (n v : Nat) :
    s.writeTable f (0x1000000 + 16 * n + 4 * 2) v =
      s.setFn f { s.fn f with table := tabSet (s.fn f).table n ((tabGet (s.fn f).table n (0, 0)).1, BitVec.ofNat 32 v) } := by
  have hn : (0x1000000 + 16 * n + 4 * 2 - 0x1000000) / 16 = n := by omega
  have hk : (0x1000000 + 16 * n + 4 * 2) % 16 / 4 = 2 := by omega
  simp only [State.writeTable, hn, hk]
  rfl

theorem writeTable_mask (s : State) (f : FnId) (n v : Nat) :
    s.writeTable f (0x1000000 + 16 * n + 4 * 3) v =
      if bitAt v 0 then s.setFn f { s.fn f with vecMask := (s.fn f).vecMask ||| BitVec.ofNat 64 (2 ^ n) }
      else (s.setFn f { s.fn f with vecMask := (s.fn f).vecMask &&& ~~~ BitVec.ofNat 64 (2 ^ n) }).sendPending f := by
  have hn : (0x1000000 + 16 * n + 4 * 3 - 0x1000000) / 16 = n := by omega
  have hk : (0x1000000 + 16 * n + 4 * 3) % 16 / 4 = 3 := by omega
  simp only [State.writeTable, hn, hk]
  rfl

/-- A fold whose steps all leave its start (core Lean has no such lemma). -/
theorem foldl_of_fixed {α β : Type} {g : α → β → α} {a : α} (hg : ∀ b, g a b = a) (l : List β) : l.foldl g a = a := by
  induction l with
  | nil => rfl
  | cons b r ih => rw [List.foldl_cons, hg, ih]

/-- Without a pending message there is none to send. -/
theorem sendPending_of_none {s : State} {f : FnId} (h : (s.fn f).vecPending = 0) : s.sendPending f = s :=
  foldl_of_fixed (fun v => by simp [h]) _

/-- Bit 0 of a written word. -/
theorem bitAt_word_zero (v : BitVec 64) : bitAt (v.toNat % 2 ^ 32) 0 = v.getLsbD 0 := by
  rw [BitVec.getLsbD, Nat.testBit_eq_decide_div_mod_eq, bitAt, Bool.eq_iff_iff, beq_iff_eq, decide_eq_true_iff]
  omega

/-! ### The accesses of O56 -/

/-- R101: a 32-bit read of a register of BAR0, narrow, at the lowest word of a wide one, or at another word of a latched one. -/
theorem exec_read_register {s : State} {f : FnId} {off b w v : Nat} (h : barReached s f off = true) (ha : off % 4 = 0)
    (hop : s.fnt.op ≠ .halted) (ho : off < 0x1000000) (hr : b ≠ 0x104410 ∨ s.vlt.rewrap = false) (hv : hostReg s f off = some (b, w, v)) :
    (w ≤ 4 → exec (.wideRegisterRead f off 4) s =
        .next (s.emit (.readReply f off (BitVec.ofNat 64 (v / 2 ^ (8 * (off - b)) % 2 ^ 32))))) ∧
      (4 < w → off = b → exec (.wideRegisterRead f off 4) s =
        .next ((s.setFn f { s.fn f with latch := tabSet (s.fn f).latch b v }).emit (.readReply f off (BitVec.ofNat 64 (v % 2 ^ 32))))) ∧
      (∀ z, 4 < w → off ≠ b → tabFind (s.fn f).latch b = some z → exec (.wideRegisterRead f off 4) s =
        .next (s.emit (.readReply f off (BitVec.ofNat 64 (z / 2 ^ (8 * (off - b)) % 2 ^ 32))))) := by
  rw [exec_read_word h hop ha ho, readPart_eq 4 hr hv]
  refine ⟨fun hw => ?_, fun hw hb => ?_, fun z hw hb hz => ?_⟩
  · rw [if_pos hw]; rfl
  · rw [if_neg (Nat.not_le.mpr hw), if_pos hb]
  · rw [if_neg (Nat.not_le.mpr hw), if_neg hb, hz]; rfl

/-- A 32-bit read of the address and a 64-bit read of the data and the mask of an entry (R107). -/
theorem exec_read_msix {s : State} {f : FnId} {n : Nat} (h : barReached s f 0x1000000 = true) (hop : s.fnt.op ≠ .halted) (hn : n < 64) :
    exec (.wideRegisterRead f (0x1000000 + 16 * n) 4) s = .next (s.emit (.readReply f (0x1000000 + 16 * n)
        (BitVec.ofNat 64 ((tabGet (s.fn f).table n (0, 0)).1.toNat % 2 ^ 32)))) ∧
      exec (.wideRegisterRead f (0x1000008 + 16 * n) 8) s = .next (s.emit (.readReply f (0x1000008 + 16 * n)
        (BitVec.ofNat 64 ((tabGet (s.fn f).table n (0, 0)).2.toNat + bitNat ((s.fn f).vecMask.getLsbD n) * 2 ^ 32)))) := by
  have haddr : outerWord s f (0x1000000 + 16 * n) = _ := outerWord_msix s f hn (k := 0) (by decide)
  have hdata : outerWord s f (0x1000008 + 16 * n) = _ :=
    (congrArg (outerWord s f) (by omega)).trans (outerWord_msix s f hn (k := 2) (by decide))
  have hmask : outerWord s f (0x1000008 + 16 * n + 4) = _ :=
    (congrArg (outerWord s f) (by omega)).trans (outerWord_msix s f hn (k := 3) (by decide))
  constructor
  · rw [exec_read_aligned (barReached_bars h (by omega)) hop ((aligned_iff _ 4).mpr (.inl ⟨rfl, by omega⟩))]
    simp [State.readBar, haddr]
  · rw [exec_read_aligned (barReached_bars h (by omega)) hop ((aligned_iff _ 8).mpr (.inr ⟨rfl, by omega⟩))]
    simp [State.readBar, hdata, hmask, show 0x1000000 ≤ 0x1000008 + 16 * n by omega]

theorem exec_write_msix_data {s : State} {f : FnId} {n : Nat} (v arr : BitVec 64) (h : barReached s f 0x1000000 = true)
    (hop : s.fnt.op ≠ .halted) (hn : n < 64) :
    exec (.registerWrite f (0x1000008 + 16 * n) 4 v arr) s = .next (s.setFn f { s.fn f with
      table := tabSet (s.fn f).table n ((tabGet (s.fn f).table n (0, 0)).1, BitVec.ofNat 32 (v.toNat % 2 ^ 32)) }) := by
  rw [show 0x1000008 + 16 * n = 0x1000000 + 16 * n + 4 * 2 by omega, exec_write_msix v arr h hop hn (by decide), writeTable_data]

/-- The mask bit of a vector set, or cleared with no message pending (R107). -/
theorem exec_write_msix_mask {s : State} {f : FnId} {n : Nat} (v arr : BitVec 64) (h : barReached s f 0x1000000 = true)
    (hop : s.fnt.op ≠ .halted) (hn : n < 64) :
    (v.getLsbD 0 = true → exec (.registerWrite f (0x100000C + 16 * n) 4 v arr) s =
        .next (s.setFn f { s.fn f with vecMask := (s.fn f).vecMask ||| BitVec.ofNat 64 (2 ^ n) })) ∧
      (v.getLsbD 0 = false → (s.fn f).vecPending = 0 → exec (.registerWrite f (0x100000C + 16 * n) 4 v arr) s =
        .next (s.setFn f { s.fn f with vecMask := (s.fn f).vecMask &&& ~~~ BitVec.ofNat 64 (2 ^ n) })) := by
  rw [show 0x100000C + 16 * n = 0x1000000 + 16 * n + 4 * 3 by omega, exec_write_msix v arr h hop hn (by decide), writeTable_mask,
    bitAt_word_zero]
  refine ⟨fun hv => by rw [if_pos hv], fun hv hp => ?_⟩
  rw [if_neg (ne_true_of_eq_false hv), sendPending_of_none (by simpa using hp)]

/-- R8, R9: a W1C write of WEL_FN_EVENT. -/
theorem exec_write_fnEvent {s : State} {f : FnId} (v arr : BitVec 64) (h : barReached s f 0x100004 = true) (hop : s.fnt.op ≠ .halted) :
    exec (.registerWrite f 0x100004 4 v arr) s =
      .next (s.setFn f { s.fn f with event := clearEvents (s.fn f).event 5 (v.toNat % 2 ^ 32) arr }) := by
  rw [exec_write_word v arr h hop (by decide) (by decide) (by decide) (hostReg_fnEvent s f) (by decide), write32_fnEvent]

/-- Each of the 5 flags of WEL_FN_EVENT after a W1C write. -/
theorem flagCount_clearEvents_fn (e : Events) (v arr : BitVec 64) {i : Nat} {written : Bool} (hi : i < 5) (hw : v.getLsbD i = written) :
    (clearEvents e 5 (v.toNat % 2 ^ 32) arr).flagCount i = clearedFlag written (bitsAt arr.toNat (8 * i) 8) (e.flagCount i) := by
  rw [← hw, flagCount_clearEvents e _ arr (by decide) hi, Nat.testBit_mod_two_pow, BitVec.getLsbD, decide_eq_true (by omega : i < 32), Bool.true_and]

/-- TBS_PPS_OFFSET is lockable (R10) and either PF0 reaches it (R589). -/
theorem exec_write_ppsOffset {s : State} {p : Bool} (v arr : BitVec 64) (h : barReached s ⟨p, 0⟩ 0x102420 = true)
    (hop : s.fnt.op ≠ .halted) : exec (.registerWrite ⟨p, 0⟩ 0x102420 4 v arr) s = .next (s.writePpsOffset (v.toNat % 2 ^ 32)) := by
  rw [exec_write_word v arr h hop (by decide) (by decide) (by decide) (hostReg_ppsOffset rfl) (by decide), write32_ppsOffset _ _ rfl]

theorem lockable_iff (s : State) : s.lockable = true ↔ (s.lay.lock = false ∨ s.fnt.op = .maintenance) := by
  simp [State.lockable]

/-- Settles O56: the accesses that complete at once, then BAR0's reads, the MSI-X table, and the writes of each access code. -/
theorem registersAreReadLatchedAndWritten : Obligations.RegistersAreReadLatchedAndWritten := by
  unfold Obligations.RegistersAreReadLatchedAndWritten
  refine ⟨?misaligned, ?unreached, ?read, ?places, ?msix, ?halted, ?event, ?ppsOffset⟩
  case misaligned =>
    intro s f off size v arr h hna
    have ha : aligned off size = false := by rw [← Bool.not_eq_true, aligned_iff]; exact hna
    exact ⟨exec_read_misaligned h ha, exec_write_misaligned v arr h ha⟩
  case unreached =>
    exact fun s f off size v arr h => ⟨exec_read_unreached size h, exec_write_unreached size v arr h⟩
  case read =>
    exact fun s f off b w v h ha hop ho hr hv => exec_read_register h ha hop ho hr hv
  case places =>
    exact fun s f _ => ⟨hostReg_ident s f, fun hf => ⟨hostReg_now hf (by decide) (by decide), hostReg_now hf (by decide) (by decide)⟩⟩
  case msix =>
    rintro s f n v arr x e h hop hn rfl rfl
    obtain ⟨haddr, hdata⟩ := exec_read_msix h hop hn
    obtain ⟨hset, hclear⟩ := exec_write_msix_mask v arr h hop hn
    exact ⟨haddr, hdata, exec_write_msix_data v arr h hop hn, hset, hclear⟩
  case halted =>
    intro s f off size v arr h ho ha hsize
    refine exec_write_halted v arr h ho ((aligned_iff off size).mpr ?_)
    rcases hsize with rfl | rfl
    · exact .inl ⟨rfl, by omega⟩
    · exact .inr ⟨rfl, ha⟩
  case event =>
    intro s f v arr h hop
    refine ⟨_, exec_write_fnEvent v arr h hop, rfl, by rw [State.fn_setFn], fun g hg => State.fn_setFn_other s _ hg,
      fun i hi hw => ?written, fun i hi hw => ?kept⟩
    case written => rw [State.fn_setFn]; exact Prod.mk.inj (flagCount_clearEvents_fn _ v arr hi hw)
    case kept => rw [State.fn_setFn]; exact Prod.mk.inj (flagCount_clearEvents_fn _ v arr hi hw)
  case ppsOffset =>
    intro s p v arr h hop
    have hmod : v.toNat % 2 ^ 32 % 2 ^ 30 = v.toNat % 2 ^ 30 := Nat.mod_mod_of_dvd _ (by decide)
    rw [exec_write_ppsOffset v arr h hop, State.writePpsOffset, hmod]
    refine ⟨fun hl hv => ?_, fun hl hm => ?_⟩
    · rw [(lockable_iff s).mpr hl, decide_eq_true hv]; rfl
    · rw [Bool.eq_false_iff.mpr (mt (lockable_iff s).mp (by simp [hl, hm]))]; rfl

end Sys2Proof.Machine
end

section
/-! SUPPORT. O29: DIGEST and HMAC (R362, R363), RANDOM from the pool or from a reseed (R364, R366, R473), and the deadline of a
held command (R365, R472). -/

namespace Sys2Proof.Machine

open Sys2Proof.Claims

/-! ### The end of an execution on a basin -/

@[simp] theorem State.cmd_setBasin (s : State) (b : Nat) (y : Basin) (e : Nat) : (s.setBasin b y).cmd e = s.cmd e := rfl
theorem State.drbg_setDrbg_other (s : State) {n m : Nat} (y : Drbg) (h : m ≠ n) : (s.setDrbg n y).drbg m = s.drbg m := by
  simp [State.drbg, State.setDrbg, tabGet_tabSet_other _ _ _ h]

/-- A command that is ready stands in its entry. -/
theorem State.cmd_of_ready {s : State} {e : Nat} {ops : Nat → Bool} {c : Cmd} (h : s.ready e ops = some c) : s.cmd e = some c := by
  cases hs : s.cmd e with
  | none => simp [State.ready, hs] at h
  | some x =>
    simp only [State.ready, hs, Option.ite_none_right_eq_some] at h
    exact h.2

theorem State.run_of_ready {s : State} {e : Nat} {ops : Nat → Bool} {c : Cmd} (f : Cmd → Answer × State) (h : s.ready e ops = some c) :
    s.run e ops f = (f c).2.finish e (f c).1 := by
  simp [State.run, h]

/-- The entry of a command whose execution ended with an answer (R149). -/
def Cmd.answered (c : Cmd) (a : Answer) : Cmd :=
  { c with status := some a.status, result := a.result, output := a.output, extraOut := a.extra, effect := a.effect
           newRec := stored c.newRec a.newRec, phase := .done, onJets := false }

/-- The end of an execution on a basin writes the entry and that basin. -/
theorem State.finish_basin {s : State} {e b : Nat} {c : Cmd} (a : Answer) (hc : s.cmd e = some c) (hb : c.basin = some b) :
    ∃ y, s.finish e a = (s.setCmd e (c.answered a)).setBasin b y := by
  unfold State.finish
  rw [hc]
  dsimp only
  split
  · next b' hb' =>
    cases hb.symm.trans hb'
    exact ⟨_, rfl⟩
  · next hn => cases hb.symm.trans hn

@[simp] theorem State.finish_spg (s : State) (e : Nat) (a : Answer) : (s.finish e a).spg = s.spg := by rw [State.finish_frame]
@[simp] theorem State.finish_freeCtr (s : State) (e : Nat) (a : Answer) : (s.finish e a).freeCtr = s.freeCtr := by rw [State.finish_frame]
@[simp] theorem State.finish_drbg (s : State) (e n : Nat) (a : Answer) : (s.finish e a).drbg n = s.drbg n := by
  rw [State.drbg, State.finish_spg]; rfl

/-- An execution that changes Spring at most, and then ends, answers its command. -/
theorem State.finish_answered {s u : State} {e b : Nat} {c : Cmd} (a : Answer) (hu : u = { s with spg := u.spg }) (hc : s.cmd e = some c)
    (hb : c.basin = some b) : Answered s (u.finish e a) e c a := by
  have hcmd : ∀ k, u.cmd k = s.cmd k := fun k => by rw [hu]; rfl
  obtain ⟨y, hy⟩ := State.finish_basin a ((hcmd e).trans hc) hb
  rw [hy]
  refine ⟨?_, fun k hk => ?_, ?_, ?_⟩
  · rw [State.cmd_setBasin, State.cmd_setCmd]; rfl
  · rw [State.cmd_setBasin, State.cmd_setCmd_other _ _ hk, hcmd]
  · rw [hu]; rfl
  · rw [hu]; rfl

/-- A command that draws nothing and ends answers with the DRBGs as they were. -/
theorem State.finish_drewNothing (s : State) (e : Nat) (a : Answer) : DrewNothing s (s.finish e a) :=
  ⟨State.finish_spg s e a, State.finish_freeCtr s e a⟩

/-! ### DIGEST and HMAC -/

@[simp] theorem length_padTo (n : Nat) (bs : Bytes) : (padTo n bs).length = n := by simp [padTo]

theorem exec_digest {s : State} {e : Nat} {c : Cmd} (h : s.ready e (· == 0x0220) = some c) :
    exec (.digest e) s = .next (s.finish e { output := padTo (outLenOf c.desc) (Config.hash (param c.desc 0 1) (outLenOf c.desc) c.input) }) :=
  congrArg Host.Outcome.next (State.run_of_ready (digestRun s) h)

theorem exec_hmac {s : State} {e : Nat} {c : Cmd} (h : s.ready e (· == 0x0221) = some c) :
    exec (.hmac e) s = .next (s.finish e
      { output := (Config.hmac (param c.desc 0 1) (recOf s c (key1Of c.desc)).key c.input).take (param c.desc 1 1) }) :=
  congrArg Host.Outcome.next (State.run_of_ready (hmacRun s) h)

/-! ### Bytes of a DRBG -/

/-- 65,536 bytes come of each call (R466). -/
theorem length_genBytes (k : Nat) (d : Drbg) (n : Nat) (h : n ≤ 65536 * k) : (genBytes k d n).1.length = n := by
  induction k generalizing d n with
  | zero => simp [genBytes]; omega
  | succ k ih =>
    unfold genBytes
    split
    · next h0 => simp [h0]
    · dsimp only
      rw [List.length_append, length_padTo, ih _ _ (by omega)]
      omega

/-- Generation advances a DRBG's state and its count of calls. -/
theorem genBytes_frame (k : Nat) (d : Drbg) (n : Nat) :
    (genBytes k d n).2 = { d with state := (genBytes k d n).2.state, calls := (genBytes k d n).2.calls } := by
  induction k generalizing d n with
  | zero => rfl
  | succ k ih =>
    unfold genBytes
    split
    · rfl
    · dsimp only
      rw [ih]

/-! ### What a RANDOM draws -/

/-- The pool serves a request it holds whole (R364). -/
theorem State.drawFor_pool {s : State} {b n : Nat} (hn : 1 ≤ n) (h : n ≤ (s.drbg b).pool.length) :
    s.drawFor b n false = .got ((s.drbg b).pool.take n) (s.setDrbg b { s.drbg b with pool := (s.drbg b).pool.drop n }) := by
  have h0 : n ≠ 0 := by omega
  simp [State.drawFor, State.draw, h0, h]

/-- A request beyond the pool that its DRBG may not generate fails under the fatal alarm and waits without it (R366, R473). -/
theorem State.drawFor_short {s : State} {b n : Nat} (h : (s.drbg b).pool.length < n) (hg : canGenerate s b = false) :
    s.drawFor b n false = if s.spg.fatal then .failed else .wait := by
  have h0 : n ≠ 0 := by omega
  have hlt : ¬ n ≤ (s.drbg b).pool.length := by omega
  simp [State.drawFor, State.draw, h0, hlt, hg]

theorem State.drawFor_fresh_fatal {s : State} {b n : Nat} (hn : 1 ≤ n) (h : s.spg.fatal = true) : s.drawFor b n true = .failed := by
  have h0 : n ≠ 0 := by omega
  simp [State.drawFor, h0, h]

/-- A fresh request waits for a seed (R472). -/
theorem State.drawFor_fresh_empty {s : State} {b n : Nat} (hn : 1 ≤ n) (hf : s.spg.fatal = false) (h : s.spg.buffer = []) :
    s.drawFor b n true = .wait := by
  have h0 : n ≠ 0 := by omega
  have hd : s.drawFresh b n = none := by simp [State.drawFresh, h]
  simp [State.drawFor, h0, hf, hd]

/-- A fresh request reseeds the DRBG with the oldest seed, where that may be taken, and generates (R472). -/
theorem State.drawFor_fresh_seed {s : State} {b n : Nat} {x : Seed} {rest : List Seed} (hn : 1 ≤ n) (hb : s.spg.buffer = x :: rest)
    (hx : seedFresh s x = true) (hi : (s.drbg b).inst = true) (hf : s.spg.fatal = false) :
    s.drawFor b n true = .got (genBytes (n / 65536 + 1) (reseeded s (s.drbg b) x) n).1
      { s with spg := { s.spg with
          drbgs := tabSet s.spg.drbgs b (genBytes (n / 65536 + 1) (reseeded s (s.drbg b) x) n).2, buffer := rest } } := by
  have h0 : n ≠ 0 := by omega
  have hd : s.drawFresh b n = some ((genBytes (n / 65536 + 1) (reseeded s (s.drbg b) x) n).1,
      { s with spg := { s.spg with
          drbgs := tabSet s.spg.drbgs b (genBytes (n / 65536 + 1) (reseeded s (s.drbg b) x) n).2, buffer := rest } }) := by
    simp [State.drawFresh, hb, hx, hi, hf, State.setDrbg]
  simp [State.drawFor, h0, hf, hd]

theorem exec_random_got {s t : State} {e b : Nat} {c : Cmd} {bs : Bytes} (h : s.ready e (· == 0x0230) = some c) (hb : c.basin = some b)
    (hd : s.drawFor b (outLenOf c.desc) (bitAt (param c.desc 0 1) 0) = .got bs t) :
    exec (.random e) s = .next (t.finish e { output := bs }) := by
  show execRandom e s = _
  simp [execRandom, State.runRandom, h, Cmd.on, hb, hd]

theorem exec_random_failed {s : State} {e b : Nat} {c : Cmd} (h : s.ready e (· == 0x0230) = some c) (hb : c.basin = some b)
    (hd : s.drawFor b (outLenOf c.desc) (bitAt (param c.desc 0 1) 0) = .failed) : exec (.random e) s = .next (s.endLate e 0x0502) := by
  show execRandom e s = _
  simp [execRandom, State.runRandom, h, Cmd.on, hb, hd]

theorem exec_random_wait {s : State} {e b : Nat} {c : Cmd} (h : s.ready e (· == 0x0230) = some c) (hb : c.basin = some b)
    (hd : s.drawFor b (outLenOf c.desc) (bitAt (param c.desc 0 1) 0) = .wait) : exec (.random e) s = .next s := by
  show execRandom e s = _
  simp [execRandom, State.runRandom, h, Cmd.on, hb, hd]

/-! ### A status that arises in execution -/

/-- The work buffer of an entry is given up: the entry and Vault change. -/
theorem State.freeWork_frame (s : State) (e : Nat) : s.freeWork e = { s with slu := (s.freeWork e).slu, vlt := (s.freeWork e).vlt } := by
  unfold State.freeWork
  split
  · rfl
  · split
    · rfl
    · dsimp only
      split <;> rfl

theorem State.cmd_freeWork {s : State} {e : Nat} {c : Cmd} (h : s.cmd e = some c) : (s.freeWork e).cmd e = some { c with work := none } := by
  unfold State.freeWork
  simp only [h]
  split
  · next hw => rw [h, ← hw]
  · rw [State.cmd_setCmd]

/-- The entry of a command whose attempt was removed (R184). -/
def Cmd.cleared (c : Cmd) : Cmd :=
  { c with
      input := [], inList := [], outList := [], output := [], extraOut := [], newRec := none, bufs := [], effect := .none
      nonce := none, status := none, result := [], window := 0, onJets := false, onCascade := false, segs := c.segsAll
      written := [], waitsFill := false, waitsWork := false, wantsBlock := false }

theorem State.when_irq_frame (s : State) (d : Bool) (b i : Nat) :
    s.when d (fun a => a.irq b i) = { s with pairs := (s.when d (fun a => a.irq b i)).pairs } := by
  unfold State.when
  split <;> rfl

/-- The removal of an attempt clears its entry, takes it off its basin, zeroises its buffers and frees its work buffer. -/
theorem State.clearAttempt_eq {s : State} {e : Nat} {c : Cmd} (h : s.cmd e = some c) :
    ∃ m bs ps, s.clearAttempt e = ({ s.setCmd e c.cleared with mem := m, basins := bs, pairs := ps } : State).freeWork e := by
  unfold State.clearAttempt
  simp only [h]
  split
  · rw [State.when_irq_frame, State.when_irq_frame]
    split <;> exact ⟨_, _, _, rfl⟩
  · exact ⟨_, _, _, rfl⟩

theorem State.cmd_clearAttempt {s : State} {e : Nat} {c : Cmd} (h : s.cmd e = some c) :
    (s.clearAttempt e).cmd e = some { c.cleared with work := none } := by
  obtain ⟨m, bs, ps, heq⟩ := State.clearAttempt_eq h
  rw [heq]
  exact State.cmd_freeWork (State.cmd_setCmd s e c.cleared)

theorem State.clearAttempt_frame (s : State) (e : Nat) : s.clearAttempt e = { s with
    slu := (s.clearAttempt e).slu, vlt := (s.clearAttempt e).vlt, mem := (s.clearAttempt e).mem, basins := (s.clearAttempt e).basins
    pairs := (s.clearAttempt e).pairs } := by
  cases h : s.cmd e with
  | none => simp [State.clearAttempt, h]
  | some c =>
    obtain ⟨m, bs, ps, heq⟩ := State.clearAttempt_eq h
    rw [heq, State.freeWork_frame]
    rfl

theorem State.leftBasin_frame (s : State) (c : Cmd) : s.leftBasin c = { s with basins := (s.leftBasin c).basins } := by
  unfold State.leftBasin
  split <;> rfl

/-- A copy and its counter given up change the basins and the counters of keys. -/
theorem State.unpin_frame (s : State) (c : Cmd) : s.unpin c = { s with
    basins := (s.unpin c).basins
    cis := { s.cis with counters := (s.unpin c).cis.counters, persisted := (s.unpin c).cis.persisted, reserving := (s.unpin c).cis.reserving } } := by
  unfold State.unpin
  generalize c.kept = l
  induction l generalizing s with
  | nil => rfl
  | cons p r ih =>
    rw [List.foldl_cons, ih]
    split
    · unfold State.dropCounter
      split <;> rfl
    · rfl

/-- Reads are sent; the entries stay. -/
theorem State.cmd_readAll (s : State) (c : Cmd) (l : List (Nat × Nat)) (k : Nat) : (s.readAll c l).cmd k = s.cmd k := by
  rw [State.readAll_frame]; rfl

theorem State.cmd_startReads_other (s : State) {e k : Nat} (h : k ≠ e) : (s.startReads e).cmd k = s.cmd k := by
  unfold State.startReads
  split
  · rfl
  · dsimp only
    split <;> rw [State.cmd_readAll, State.cmd_setCmd_other _ _ h]

/-- The management command that begins is one of those in order. -/
theorem State.cmd_beginMgmt_other {s : State} {k : Nat} (h : k ∉ s.slu.mgmt) : s.beginMgmt.cmd k = s.cmd k := by
  unfold State.beginMgmt
  split
  · rfl
  · next e r hm =>
    have hk : k ≠ e := fun hke => h (by simp [hm, hke])
    split
    · rfl
    · split
      · rw [State.cmd_startReads_other _ hk, State.cmd_setCmd_other _ _ hk]
      · rfl

theorem State.cmd_leaveMgmt (s : State) (e : Nat) : (s.leaveMgmt e).cmd e = s.cmd e := by
  unfold State.leaveMgmt
  split
  · dsimp only
    rw [State.cmd_beginMgmt_other (by simp)]
    rfl
  · rfl

/-- The entry of a command that ended with a status of its own: its verdict stands or its denial is recorded (R149). -/
def Cmd.endedLate (c : Cmd) (st : Nat) : Cmd :=
  if c.verdict = .open then { c.cleared with work := none, readsStopped := true, status := some st, phase := .done }
  else { c.cleared with work := none, phase := .squashed, verdict := .deny st, kept := [], readsStopped := true }

@[simp] theorem State.cmd_leftBasin (s : State) (c : Cmd) (e : Nat) : (s.leftBasin c).cmd e = s.cmd e := by
  rw [State.leftBasin_frame]; rfl

@[simp] theorem State.cmd_unpin (s : State) (c : Cmd) (e : Nat) : (s.unpin c).cmd e = s.cmd e := by
  rw [State.unpin_frame]; rfl

@[simp] theorem State.cmd_freeReserved (s : State) (e k : Nat) : (s.freeReserved k).cmd e = s.cmd e := rfl

theorem State.cmd_endCmd {s : State} {e : Nat} {c : Cmd} (st : Nat) (h : s.cmd e = some c) :
    (s.endCmd e st).cmd e = some { c.cleared with work := none, phase := .squashed, verdict := .deny st, kept := [], readsStopped := true } := by
  simp only [State.endCmd, State.cmd_freeReserved, State.cmd_clearAttempt h, State.cmd_unpin, State.cmd_leftBasin, State.cmd_leaveMgmt,
    State.cmd_setCmd]

theorem State.cmd_endLate {s : State} {e : Nat} {c : Cmd} (st : Nat) (h : s.cmd e = some c) :
    (s.endLate e st).cmd e = some (c.endedLate st) := by
  unfold State.endLate Cmd.endedLate
  by_cases hv : c.verdict = .open
  · simp [h, hv, State.cmd_clearAttempt h]
  · simp [h, hv, State.cmd_endCmd st h]

theorem Cmd.endsWith_endedLate (c : Cmd) (st : Nat) : EndsWith c (c.endedLate st) st := by
  unfold EndsWith Cmd.endedLate
  split
  · next hv => exact ⟨rfl, hv, rfl, rfl⟩
  · exact ⟨rfl, rfl, rfl⟩

theorem Cmd.endedLate_basin (c : Cmd) (st : Nat) : (c.endedLate st).basin = c.basin := by
  unfold Cmd.endedLate
  split <;> rfl

/-- What the end of a command with a status of its own leaves: Spring and the key records. -/
theorem State.endLate_leaves (s : State) (e st : Nat) : (s.endLate e st).spg = s.spg ∧ (s.endLate e st).cis.records = s.cis.records := by
  unfold State.endLate State.endCmd
  split
  · exact ⟨rfl, rfl⟩
  · split
    · dsimp only
      split
      · rw [State.clearAttempt_frame]; exact ⟨rfl, rfl⟩
      · rw [State.unpin_frame, State.leftBasin_frame, State.leaveMgmt_frame, State.clearAttempt_frame]; exact ⟨rfl, rfl⟩
    · dsimp only
      split
      · rw [State.clearAttempt_frame]; exact ⟨rfl, rfl⟩
      · rw [State.leftBasin_frame, State.clearAttempt_frame]; exact ⟨rfl, rfl⟩

/-- A held command ends once its deadline instant has passed, and not before (R365, R472). -/
theorem exec_notSeededDeadline {s : State} {e : Nat} {c : Cmd} (hc : s.cmd e = some c) (hheld : heldForSeed s c = true) :
    exec (.randomNotSeededDeadline e) s =
      .next (if c.deadlineAt ≠ 0 ∧ c.deadlineAt ≤ s.now then s.endLate e 0x0501 else s) := by
  show execRandomNotSeededDeadline e s = _
  unfold execRandomNotSeededDeadline
  simp only [hc, hheld, Bool.true_and, Bool.and_eq_true, bne_iff_ne, decide_eq_true_eq]
  split <;> rfl

/-- Settles O29: DIGEST, HMAC, RANDOM from the pool, RANDOM with FRESH, and the deadline of a held command. -/
theorem digestsMacsAndRandomBytes : Obligations.DigestsMacsAndRandomBytes := by
  unfold Obligations.DigestsMacsAndRandomBytes
  refine ⟨?digest, ?hmac, ?pool, ?fresh, ?deadline⟩
  case digest =>
    intro s e b c h hb
    exact ⟨_, _, exec_digest h, State.finish_drewNothing s e _, length_padTo _ _, rfl,
      State.finish_answered _ rfl (State.cmd_of_ready h) hb⟩
  case hmac =>
    intro s e b c h hb
    exact ⟨_, _, exec_hmac h, State.finish_drewNothing s e _, List.length_take_le _ _, rfl,
      State.finish_answered _ rfl (State.cmd_of_ready h) hb⟩
  case pool =>
    rintro s e b n c h hb rfl hn hp
    have hcmd := State.cmd_of_ready h
    have hnew : bitAt (param c.desc 0 1) 0 = false := by rw [hp]; rfl
    refine ⟨fun hlen => ?_, fun hlen hf => ?_, fun hlen hf hi => ?_⟩
    · refine ⟨_, exec_random_got h hb (hnew ▸ State.drawFor_pool hn hlen), ⟨?_, fun k hk => ?_, ?_, ?_⟩,
        State.finish_answered _ rfl hcmd hb⟩
      · rw [State.finish_drbg, State.drbg_setDrbg]
      · rw [State.finish_drbg, State.drbg_setDrbg_other _ _ hk]
      · rw [State.finish_spg]; rfl
      · rw [State.finish_freeCtr, State.setDrbg_freeCtr]
    · have hd := State.drawFor_short hlen (show canGenerate s b = false by simp [canGenerate, hf])
      rw [if_pos hf] at hd
      exact ⟨_, _, exec_random_failed h hb (hnew ▸ hd), State.cmd_endLate _ hcmd, c.endsWith_endedLate _, (State.endLate_leaves s e _).1⟩
    · have hd := State.drawFor_short hlen (show canGenerate s b = false by simp [canGenerate, hi])
      rw [if_neg (by simp [hf])] at hd
      exact exec_random_wait h hb (hnew ▸ hd)
  case fresh =>
    rintro s e b n c h hb rfl hn hp
    have hcmd := State.cmd_of_ready h
    have hnew : bitAt (param c.desc 0 1) 0 = true := by rw [hp]; rfl
    refine ⟨fun x rest hbuf hx hi hf => ?_, fun hf => ?_, fun hf hbuf => ?_⟩
    · refine ⟨_, _, exec_random_got h hb (hnew ▸ State.drawFor_fresh_seed hn hbuf hx hi hf), length_genBytes _ _ _ (by omega),
        State.finish_answered _ rfl hcmd hb, ?_, ?_, ?_, fun k hk => ?_⟩
      · rw [State.finish_spg]
      · rw [State.finish_drbg, State.drbg, tabGet_tabSet_same, genBytes_frame]; rfl
      · rw [State.finish_drbg, State.drbg, tabGet_tabSet_same, genBytes_frame]; rfl
      · rw [State.finish_drbg, State.drbg, tabGet_tabSet_other _ _ _ hk]; rfl
    · exact ⟨_, _, exec_random_failed h hb (hnew ▸ State.drawFor_fresh_fatal hn hf), State.cmd_endLate _ hcmd, c.endsWith_endedLate _,
        (State.endLate_leaves s e _).1⟩
    · exact exec_random_wait h hb (hnew ▸ State.drawFor_fresh_empty hn hf hbuf)
  case deadline =>
    intro s e c hc hheld
    rw [exec_notSeededDeadline hc hheld]
    refine ⟨fun h0 hle => ?_, fun hnot => ?_⟩
    · rw [if_pos ⟨h0, hle⟩]
      exact ⟨_, _, rfl, State.cmd_endLate _ hc, c.endsWith_endedLate _, c.endedLate_basin _, (State.endLate_leaves s e _).2⟩
    · rw [if_neg fun ⟨h0, hle⟩ => hnot.elim h0 (Nat.not_lt.mpr hle)]

end Sys2Proof.Machine
end

section
/-! SUPPORT. O4: the doorbells and the ERROR causes of a queue (R123, R125, R129), the descriptor read (R131), and a read that fails (R24, R99). -/

namespace Sys2Proof.Machine

/-! ### Doorbells -/

/-- Steps of a ring of d slots from one slot up to another. -/
def ringSteps (d i j : Nat) : Nat := (j + d - i) % d

theorem ringSteps_lt {d : Nat} (i j : Nat) (hd : 0 < d) : ringSteps d i j < d := Nat.mod_lt _ hd

/-- So many steps on from a slot of the ring lead to the other. -/
theorem add_ringSteps_mod {d i j : Nat} (hi : i < d) (hj : j < d) : (i + ringSteps d i j) % d = j := by
  rw [ringSteps, Nat.add_mod_mod, show i + (j + d - i) = j + d by omega, Nat.add_mod_right, Nat.mod_eq_of_lt hj]

/-- A queue that takes no doorbells, one in ERROR and a repeated tail: no effect (R123, R125). -/
theorem exec_submissionTail_ignored {s : State} {f : FnId} {q : Nat} (v : BitVec 32)
    (h : s.queueLive f q = false ∨ (s.queue f q).errorCause ≠ 0 ∨ v.toNat % 65536 = (s.queue f q).sqTail) :
    exec (.submissionTailDoorbell f q v) s = .next s := by
  refine if_pos ?_
  simp only [Bool.or_eq_true, Bool.not_eq_true', decide_eq_true_eq, or_assoc]
  exact h

/-- A new tail that is no slot of the ring: ERROR cause 1. -/
theorem exec_submissionTail_beyond {s : State} {f : FnId} {q : Nat} {v : BitVec 32} (hl : s.queueLive f q = true)
    (he : (s.queue f q).errorCause = 0) (ht : v.toNat % 65536 ≠ (s.queue f q).sqTail) (hd : (s.queue f q).depth ≤ v.toNat % 65536) :
    exec (.submissionTailDoorbell f q v) s = .next (s.setQueue f q { s.queue f q with errorCause := 1 }) := by
  show execSubmissionTailDoorbell f q v s = _
  unfold execSubmissionTailDoorbell
  rw [if_neg (by simp [hl, he, ht]), if_pos hd]

/-- A new tail in the ring: the descriptors up to it start at this instant (R123, R129). -/
theorem exec_submissionTail_new {s : State} {f : FnId} {q : Nat} {v : BitVec 32} (hl : s.queueLive f q = true)
    (he : (s.queue f q).errorCause = 0) (ht : v.toNat % 65536 ≠ (s.queue f q).sqTail) (hd : v.toNat % 65536 < (s.queue f q).depth) :
    exec (.submissionTailDoorbell f q v) s = .next (s.setQueue f q { s.queue f q with
      sqTail := v.toNat % 65536
      starts := (s.queue f q).starts ++ List.replicate (ringSteps (s.queue f q).depth (s.queue f q).sqTail (v.toNat % 65536)) s.tbs.now }) := by
  show execSubmissionTailDoorbell f q v s = _
  unfold execSubmissionTailDoorbell
  rw [if_neg (by simp [hl, he, ht]), if_neg (Nat.not_le.mpr hd)]
  rfl

theorem exec_completionHead_ignored {s : State} {f : FnId} {q : Nat} (v : BitVec 32) (h : s.queueLive f q = false) :
    exec (.completionHeadDoorbell f q v) s = .next s :=
  if_pos (by simp [h])

/-- A new head that is no slot of the ring or passes the tail: ERROR cause 2, unless another cause stands. -/
theorem exec_completionHead_past {s : State} {f : FnId} {q : Nat} {v : BitVec 32} (hl : s.queueLive f q = true)
    (hh : v.toNat % 65536 ≠ (s.queue f q).cqHead)
    (hp : (s.queue f q).depth ≤ v.toNat % 65536 ∨ ringSteps (s.queue f q).depth (s.queue f q).cqHead (s.queue f q).cqTail <
      ringSteps (s.queue f q).depth (s.queue f q).cqHead (v.toNat % 65536)) :
    exec (.completionHeadDoorbell f q v) s =
      .next (s.setQueue f q { s.queue f q with errorCause := if (s.queue f q).errorCause = 0 then 2 else (s.queue f q).errorCause }) := by
  show execCompletionHeadDoorbell f q v s = _
  unfold execCompletionHeadDoorbell
  rw [if_neg (by simp [hl, hh]), if_pos (by simpa [ringSteps] using hp)]

/-- A new head in the ring and not past the tail moves the head. -/
theorem exec_completionHead_new {s : State} {f : FnId} {q : Nat} {v : BitVec 32} (hl : s.queueLive f q = true)
    (hh : v.toNat % 65536 ≠ (s.queue f q).cqHead) (hd : v.toNat % 65536 < (s.queue f q).depth)
    (hp : ringSteps (s.queue f q).depth (s.queue f q).cqHead (v.toNat % 65536) ≤
      ringSteps (s.queue f q).depth (s.queue f q).cqHead (s.queue f q).cqTail) :
    exec (.completionHeadDoorbell f q v) s = .next (s.setQueue f q { s.queue f q with cqHead := v.toNat % 65536 }) := by
  show execCompletionHeadDoorbell f q v s = _
  unfold execCompletionHeadDoorbell
  rw [if_neg (by simp [hl, hh]), if_neg (by simpa [ringSteps] using ⟨hd, hp⟩)]

/-! ### The descriptor read -/

/-- A queue that takes no doorbells or is in ERROR fetches nothing (R123, R125). -/
theorem mayFetch_eq_false {s : State} {f : FnId} {q : Nat} (h : s.queueLive f q = false ∨ (s.queue f q).errorCause ≠ 0) :
    s.mayFetch f q = false := by
  rcases h with h | h <;> simp [State.mayFetch, h]

theorem exec_descriptorFetch_held {s : State} {f : FnId} {q : Nat} (h : s.mayFetch f q = false) : exec (.descriptorFetch f q) s = .next s :=
  if_pos (by simp [h])

/-- The read of the 128 bytes of the slot at the head (R131). -/
theorem exec_descriptorFetch {s : State} {f : FnId} {q : Nat} (h : s.mayFetch f q = true) (hp : (s.queue f q).parkedDesc = none)
    (hne : (s.queue f q).sqHead ≠ (s.queue f q).sqTail) :
    exec (.descriptorFetch f q) s = .next ((s.setQueue f q { s.queue f q with fetching := some (s.queue f q).sqHead }).readHost f
      ((s.queue f q).sqBase.toNat + 128 * (s.queue f q).sqHead) 128) := by
  show execDescriptorFetch f q s = _
  simp [execDescriptorFetch, h, hp, hne]

/-- An aligned 128-byte read crosses no multiple of a Max Read Request Size (R94). -/
theorem pieces_aligned {a : Nat} (m : Nat) (hm : 0 < m) (ha : a % 128 = 0) : pieces (128 * m) a 128 = [(a, 128)] := by
  have hrest : 128 * m - a % (128 * m) ≥ 128 := by
    obtain ⟨c, rfl⟩ := Nat.dvd_of_mod_eq_zero ha
    rw [Nat.mul_mod_mul_left, ← Nat.mul_sub]
    have := Nat.mod_lt c hm
    omega
  simp [pieces, piecesFrom, Nat.min_eq_left hrest]

theorem State.readHost_aligned (s : State) (f : FnId) {a : Nat} (ha : a % 128 = 0) :
    s.readHost f a 128 = { s with out := s.out ++ [.hostRead f.port f a 128] } := by
  rw [State.readHost, State.maxRead, pieces_aligned _ (Nat.two_pow_pos _) ha]
  rfl

/-! ### A reply to a descriptor read -/

/-- With no launch due, none is applied first (R87). -/
theorem State.fireDue_of_none {s : State} (n : Nat) (h : dueInstant s = none) : s.fireDue n = s := by
  cases n with
  | zero => rfl
  | succ n => simp [State.fireDue, h]

/-- A reply of an older generation of the function is discarded (R24, R99). -/
theorem exec_admission_stale {s : State} {f : FnId} {q slot : Nat} {r : FetchReply} (hd : dueInstant s = none)
    (hf : (s.queue f q).fetching = some slot) (hg : r.gen ≠ (s.fn f).generation) : exec (.admission f q r) s = .next s := by
  show execAdmission f q r s = _
  simp [execAdmission, State.fireDue_of_none _ hd, hf, hg]

/-- The status bit of the uncorrectable AER error that a failed read reports: 20 for an unsupported request, 12 for a poisoned reply. -/
def failedBit (r : ReadResult) : Nat := if r = .unsupported then 20 else 12

/-- A failed read is ERROR cause 3, reported through AER (R125). -/
theorem exec_admission_failed {s : State} {f : FnId} {q slot : Nat} {r : ReadResult} (hd : dueInstant s = none)
    (hf : (s.queue f q).fetching = some slot) (hr : r = .unsupported ∨ r = .poisoned) :
    exec (.admission f q ⟨(s.fn f).generation, r⟩) s =
      .next ((s.setQueue f q { s.queue f q with fetching := none, errorCause := 3 }).aerError f (failedBit r)) := by
  show execAdmission f q _ s = _
  rcases hr with rfl | rfl <;> simp [execAdmission, State.fireDue_of_none _ hd, hf, failedBit]

/-- An AER report changes the function's AER registers, the port's error count and the output, and takes a free value for its header. -/
theorem State.aerError_frame (s : State) (f : FnId) (bit : Nat) : s.aerError f bit = { s with
    fns := (s.aerError f bit).fns, gau := (s.gauLink f.port 1).gau, out := s.out ++ [.aer f.port], freeCtr := s.freeCtr + 1 } := rfl

theorem State.aerError_aerStatus (s : State) (f : FnId) (bit : Nat) :
    ((s.aerError f bit).fn f).aerStatus = (s.fn f).aerStatus ||| BitVec.ofNat 32 (2 ^ bit) :=
  congrArg FnState.aerStatus (State.fn_setFn s f _)

/-- Settles O4: both doorbells, the queue that takes none or is in ERROR, the descriptor read, and its failed or outdated reply. -/
theorem doorbellsFetchesAndQueueErrors : Obligations.DoorbellsFetchesAndQueueErrors := by
  unfold Obligations.DoorbellsFetchesAndQueueErrors
  refine ⟨?tail, ?head, ?ignored, ?fetch, ?failed⟩
  case tail =>
    rintro s f q v x t hl rfl he rfl
    refine ⟨fun hlt hne => ⟨_, exec_submissionTail_new hl he hne hlt, fun hin => ?_⟩,
      fun hge hne => exec_submissionTail_beyond hl he hne hge, fun heq => exec_submissionTail_ignored v (.inr (.inr heq))⟩
    exact ⟨add_ringSteps_mod hin hlt, ringSteps_lt _ _ (Nat.zero_lt_of_lt hlt)⟩
  case head =>
    rintro s f q v x h hl rfl rfl hne _ _
    exact ⟨exec_completionHead_new hl hne, exec_completionHead_past hl hne⟩
  case ignored =>
    intro s f q v h
    exact ⟨exec_submissionTail_ignored v (h.imp_right .inl), exec_descriptorFetch_held (mayFetch_eq_false h), exec_completionHead_ignored v⟩
  case fetch =>
    intro s f q h hp hne
    have hread := exec_descriptorFetch h hp hne
    refine ⟨hread, fun ha => hread.trans ?_⟩
    rw [State.readHost_aligned _ f (by omega)]
    rfl
  case failed =>
    intro s f q slot g r hf hr hd
    refine ⟨?_, fun hg => ⟨exec_admission_stale hd hf hg, fun d => exec_admission_stale hd hf hg⟩⟩
    rintro rfl
    refine ⟨_, exec_admission_failed hd hf hr, rfl, rfl, ?_, rfl, State.aerError_frame _ _ _⟩
    rw [State.aerError_aerStatus]
    rcases hr with rfl | rfl <;> rfl

end Sys2Proof.Machine
end

section
/-! SUPPORT. O5: the descriptor that arrives is refused, answered as a duplicate or enters the retire buffer (R141, R143, R145, R151, R153). -/

namespace Sys2Proof.Machine

/-! ### Waking parked basins (R173) -/

/-- From s to t, parked basins begin to wake, and nothing else changes. -/
def OnlyWakes (s t : State) : Prop :=
  t = { s with basins := t.basins } ∧ ∀ b, t.basin b = { s.basin b with waking := (t.basin b).waking }

theorem OnlyWakes.refl (s : State) : OnlyWakes s s := ⟨rfl, fun _ => rfl⟩

theorem OnlyWakes.trans {s t u : State} (h1 : OnlyWakes s t) (h2 : OnlyWakes t u) : OnlyWakes s u := by
  obtain ⟨hst, hbst⟩ := h1
  obtain ⟨htu, hbtu⟩ := h2
  refine ⟨?_, fun b => ?_⟩
  · rw [htu, hst]
  · rw [hbtu b, hbst b]

theorem State.wake_onlyWakes (s : State) (b : Nat) : OnlyWakes s (s.wake b) := by
  unfold State.wake
  split
  · refine ⟨rfl, fun k => ?_⟩
    by_cases hk : k = b
    · subst hk; rw [State.basin_setBasin]
    · rw [State.basin_setBasin_other _ _ hk]
  · exact OnlyWakes.refl s

theorem OnlyWakes.foldl {α : Type} {g : State → α → State} (hg : ∀ s x, OnlyWakes s (g s x)) (s : State) (l : List α) :
    OnlyWakes s (l.foldl g s) := by
  induction l generalizing s with
  | nil => exact OnlyWakes.refl s
  | cons x r ih => exact (hg s x).trans (ih _)

theorem State.wakeForBacklog_onlyWakes (s : State) : OnlyWakes s s.wakeForBacklog := by
  unfold State.wakeForBacklog
  split
  · exact OnlyWakes.refl s
  · refine OnlyWakes.foldl (fun a m => ?_) s _
    dsimp only
    split
    · exact OnlyWakes.refl a
    · split
      · exact State.wake_onlyWakes a _
      · exact OnlyWakes.refl a

@[simp] theorem State.wakeForBacklog_slu (s : State) : s.wakeForBacklog.slu = s.slu := by rw [s.wakeForBacklog_onlyWakes.1]

@[simp] theorem State.queue_wakeForBacklog (s : State) (f : FnId) (q : Nat) : s.wakeForBacklog.queue f q = s.queue f q := by
  rw [s.wakeForBacklog_onlyWakes.1]; rfl

@[simp] theorem State.cmd_wakeForBacklog (s : State) (e : Nat) : s.wakeForBacklog.cmd e = s.cmd e := by
  rw [s.wakeForBacklog_onlyWakes.1]; rfl

/-- What wakes after a change of queues and of Sluice leaves the rest. -/
theorem OnlyWakes.frame {s t u : State} (hst : t = { s with queues := t.queues, slu := t.slu }) (h : OnlyWakes t u) :
    u = { s with queues := u.queues, slu := u.slu, basins := u.basins } := by
  rw [h.1, hst]

/-! ### What retirement from a queue's order changes (R141) -/

/-- A counted completion: of Sluice only the LATE count, and no queue (R516). -/
theorem State.noteCompletion_frame (s : State) (c : Completion) : s.noteCompletion c = { s with
    slu := { s.slu with late := (s.noteCompletion c).slu.late }, gau := (s.noteCompletion c).gau, bsn := (s.noteCompletion c).bsn
    pairs := (s.noteCompletion c).pairs, fns := (s.noteCompletion c).fns, out := (s.noteCompletion c).out } := by
  unfold State.noteCompletion
  dsimp only
  split
  · rw [State.bsnEvent_frame]
    split <;> split <;> rfl
  · split <;> split <;> rfl

@[simp] theorem State.queue_noteCompletion (s : State) (c : Completion) (f : FnId) (q : Nat) : (s.noteCompletion c).queue f q = s.queue f q := by
  rw [State.noteCompletion_frame]; rfl

/-- From s to t, items of one queue's order retired: the queue keeps all but its order, its completions and its last RETIRE, and Sluice
all but the LATE count. -/
def OnlyRetires (f : FnId) (q : Nat) (s t : State) : Prop :=
  t.slu = { s.slu with late := t.slu.late } ∧
  t.queue f q = { s.queue f q with order := (t.queue f q).order, toPost := (t.queue f q).toPost, lastRetire := (t.queue f q).lastRetire }

theorem OnlyRetires.refl (f : FnId) (q : Nat) (s : State) : OnlyRetires f q s s := ⟨rfl, rfl⟩

theorem OnlyRetires.trans {f : FnId} {q : Nat} {s t u : State} (h1 : OnlyRetires f q s t) (h2 : OnlyRetires f q t u) : OnlyRetires f q s u := by
  obtain ⟨hst, hqst⟩ := h1
  obtain ⟨htu, hqtu⟩ := h2
  exact ⟨by rw [htu, hst], by rw [hqtu, hqst]⟩

theorem OnlyRetires.setQueue (f : FnId) (q : Nat) (s : State) (o : List QItem) (p : List Completion) (l : Nat) :
    OnlyRetires f q s (s.setQueue f q { s.queue f q with order := o, toPost := p, lastRetire := l }) :=
  ⟨rfl, by rw [State.queue_setQueue]⟩

theorem State.noteCompletion_onlyRetires (f : FnId) (q : Nat) (s : State) (c : Completion) : OnlyRetires f q s (s.noteCompletion c) :=
  ⟨by rw [State.noteCompletion_frame], by rw [State.queue_noteCompletion]⟩

theorem State.drainOrder_onlyRetires (f : FnId) (q n : Nat) (s : State) : OnlyRetires f q s (s.drainOrder f q n) := by
  induction n generalizing s with
  | zero => exact OnlyRetires.refl f q s
  | succ n ih =>
    unfold State.drainOrder
    dsimp only
    split
    · exact ((OnlyRetires.setQueue f q s _ _ _).trans (State.noteCompletion_onlyRetires f q _ _)).trans (ih _)
    · exact (OnlyRetires.setQueue f q s _ _ _).trans (ih _)
    · exact (OnlyRetires.setQueue f q s _ _ _).trans (ih _)
    · exact OnlyRetires.refl f q s

/-- A host woken for a completion changes no queue and not Sluice. -/
theorem State.drain_eq_drainOrder (s : State) (f : FnId) (q : Nat) :
    (s.drain f q).queue f q = (s.drainOrder f q (s.queue f q).order.length).queue f q ∧
      (s.drain f q).slu = (s.drainOrder f q (s.queue f q).order.length).slu := by
  unfold State.drain State.wakeFor
  dsimp only
  split
  · exact ⟨rfl, rfl⟩
  · split <;> exact ⟨rfl, rfl⟩

theorem State.enqueue_onlyRetires (s : State) (f : FnId) (q : Nat) (it : QItem) : OnlyRetires f q s (s.enqueue f q it) := by
  obtain ⟨hq, hslu⟩ := State.drain_eq_drainOrder (s.setQueue f q { s.queue f q with order := (s.queue f q).order ++ [it] }) f q
  refine (OnlyRetires.setQueue f q s ((s.queue f q).order ++ [it]) (s.queue f q).toPost (s.queue f q).lastRetire).trans ?_
  obtain ⟨hs, hx⟩ := State.drainOrder_onlyRetires f q
    ((s.setQueue f q { s.queue f q with order := (s.queue f q).order ++ [it] }).queue f q).order.length
    (s.setQueue f q { s.queue f q with order := (s.queue f q).order ++ [it] })
  exact ⟨by rw [State.enqueue, hslu, hs], by rw [State.enqueue, hq, hx]⟩

/-! ### An item behind a command, and an item alone in its queue -/

/-- Behind a command an item waits. -/
theorem State.queue_enqueue_behind {s : State} {f : FnId} {q e : Nat} {r : List QItem} (it : QItem) (h : (s.queue f q).order = .cmd e :: r) :
    (s.enqueue f q it).queue f q = { s.queue f q with order := (s.queue f q).order ++ [it] } := by
  rw [State.enqueue, (State.drain_eq_drainOrder _ f q).1]
  simp [h, State.drainOrder]

/-- A refusal with nothing before it retires at once. -/
theorem State.queue_enqueue_refused {s : State} {f : FnId} {q : Nat} (c : Completion) (h : (s.queue f q).order = []) :
    (s.enqueue f q (.refused c)).queue f q =
      { s.queue f q with toPost := (s.queue f q).toPost ++ [c.retireAt s.now], lastRetire := s.now } := by
  rw [State.enqueue, (State.drain_eq_drainOrder _ f q).1]
  simp [h, State.drainOrder, answerDups, State.now]

/-- A copy with nothing before it is posted at once. -/
theorem State.queue_enqueue_copy {s : State} {f : FnId} {q : Nat} (c : Completion) (h : (s.queue f q).order = []) :
    (s.enqueue f q (.copy c)).queue f q = { s.queue f q with toPost := (s.queue f q).toPost ++ [c] } := by
  rw [State.enqueue, (State.drain_eq_drainOrder _ f q).1]
  simp [h, State.drainOrder]

/-- A duplicate whose command left without a completion is answered DUPLICATE_EXPIRED. -/
theorem State.queue_enqueue_dup {s : State} {f : FnId} {q : Nat} (slot : Nat) (tag : BitVec 64) (own : Nat) (h : (s.queue f q).order = []) :
    (s.enqueue f q (.dup slot tag own)).queue f q = { s.queue f q with
      toPost := (s.queue f q).toPost ++ [{ status := 0x0240, epoch := s.lay.epoch, slot := slot, tag := tag, retire := s.now }] } := by
  rw [State.enqueue, (State.drain_eq_drainOrder _ f q).1]
  simp [h, State.drainOrder, State.now]

/-! ### The ways a descriptor goes that arrives -/

/-- The queue once the descriptor of a slot has arrived: the head is past the slot (R131). -/
def Queue.fetched (x : Queue) (slot : Nat) : Queue := { x with fetching := none, sqHead := (slot + 1) % x.depth, starts := x.starts.drop 1 }

def State.fetched (s : State) (f : FnId) (q slot : Nat) : State := s.setQueue f q ((s.queue f q).fetched slot)

@[simp] theorem State.queue_fetched (s : State) (f : FnId) (q slot : Nat) : (s.fetched f q slot).queue f q = (s.queue f q).fetched slot :=
  State.queue_setQueue s f q _

theorem State.formStatus_fetched (s : State) (f g : FnId) (q slot p : Nat) (d : Bytes) :
    formStatus (s.fetched f q slot) g p d = formStatus s g p d := rfl

theorem State.deviceStatus_fetched (s : State) (f g : FnId) (q slot : Nat) (d : Bytes) :
    deviceStatus (s.fetched f q slot) g d = deviceStatus s g d := rfl

theorem State.freeEntry_fetched (s : State) (f : FnId) (q slot : Nat) : (s.fetched f q slot).freeEntry = s.freeEntry := rfl

/-- The descriptor of a slot as Sluice takes it, with the doorbell's instant as its start (R129). -/
def Queue.descriptor (x : Queue) (slot now : Nat) (d : Bytes) : Fetched := { slot := slot, desc := padTo 128 d, start := x.starts.headD now }

/-- The read of a descriptor answers with its bytes. -/
theorem exec_admission_data {s : State} {f : FnId} {q slot : Nat} (d : Bytes) (hd : dueInstant s = none)
    (hf : (s.queue f q).fetching = some slot) :
    exec (.admission f q ⟨(s.fn f).generation, .data d⟩) s =
      .next ((s.fetched f q slot).arrive f q ((s.queue f q).descriptor slot s.tbs.now d)).wakeForBacklog := by
  show execAdmission f q _ s = _
  simp only [execAdmission, State.fireDue_of_none _ hd, hf, ne_eq, not_true_eq_false, if_false]
  rfl

/-- A TAG in the window (R145). -/
theorem State.arrive_duplicate {s : State} {f : FnId} {q : Nat} {y : Fetched} {ts : TagState} (hb : (s.queue f q).batchId = 0)
    (hw : windowFind (s.queue f q).window (tagOf y.desc) = some ts) :
    s.arrive f q y = s.enqueue f q (dupItem s (s.queue f q) y.slot y.desc y.start ts) := by
  simp [State.arrive, hb, hw]

theorem dupItem_retained (s : State) (x : Queue) (slot start till : Nat) (d : Bytes) (k : Completion) :
    dupItem s x slot d start (.retained k till) = .copy (dupCopy k slot) := rfl

theorem dupItem_expired (s : State) (x : Queue) (slot start : Nat) (d : Bytes) :
    dupItem s x slot d start .expired = .refused (refusal s slot d start 0x0240) := rfl

/-- A duplicate waits for a command that has no completion to copy. -/
theorem dupItem_live (s : State) {x : Queue} (slot start own : Nat) {d : Bytes} (h : ∀ k ∈ x.toPost, k.tag ≠ tagOf d) :
    dupItem s x slot d start (.live own) = .dup slot (tagOf d) own := by
  have hnone : x.toPost.find? (fun c => c.windowed && c.tag == tagOf d && c.slot == own) = none :=
    List.find?_eq_none.mpr fun k hk => by simp [h k hk]
  simp [dupItem, hnone]

/-- What a duplicate's completion is when nothing stands before it: the copy of one that is retained, else DUPLICATE_EXPIRED. -/
theorem State.queue_enqueue_dupItem {s : State} {f : FnId} {q : Nat} (slot start : Nat) (d : Bytes) (ts : TagState)
    (ho : (s.queue f q).order = []) (hp : (s.queue f q).toPost = []) :
    ∃ c : Completion, ((s.enqueue f q (dupItem s (s.queue f q) slot d start ts)).queue f q).toPost = [c] ∧
      c.slot = slot ∧ c.windowed = false ∧ (ts = .expired → c.status = 0x0240) ∧ ∀ k till, ts = .retained k till → c = dupCopy k slot := by
  cases ts with
  | live own =>
    rw [dupItem_live s slot start own (by simp [hp]), State.queue_enqueue_dup _ _ _ ho, hp]
    exact ⟨_, rfl, rfl, rfl, nofun, nofun⟩
  | retained k till =>
    rw [dupItem_retained, State.queue_enqueue_copy _ ho, hp]
    exact ⟨_, rfl, rfl, rfl, nofun, fun k' till' h => by cases h; rfl⟩
  | expired =>
    rw [dupItem_expired, State.queue_enqueue_refused _ ho, hp]
    exact ⟨_, rfl, rfl, rfl, fun _ => rfl, nofun⟩

/-- Behind a command a duplicate is the copy of a retained completion, waits for its own command, or is refused as expired. -/
theorem State.queue_enqueue_dupItem_behind {s : State} {f : FnId} {q e : Nat} {r : List QItem} (slot start : Nat) (d : Bytes) (ts : TagState)
    (ho : (s.queue f q).order = .cmd e :: r) :
    ∃ it : QItem, ((s.enqueue f q (dupItem s (s.queue f q) slot d start ts)).queue f q).order = (s.queue f q).order ++ [it] ∧
      (∀ k till, ts = .retained k till → it = .copy (dupCopy k slot)) ∧
      (∀ own, ts = .live own → (∀ k ∈ (s.queue f q).toPost, k.tag ≠ tagOf d) → it = .dup slot (tagOf d) own) ∧
      (ts = .expired → ∃ c, it = .refused c ∧ c.slot = slot ∧ c.status = 0x0240) := by
  refine ⟨_, congrArg Queue.order (State.queue_enqueue_behind _ ho), ?_, ?_, ?_⟩
  · rintro k till rfl
    exact dupItem_retained ..
  · rintro own rfl hk
    exact dupItem_live s slot start own hk
  · rintro rfl
    exact ⟨_, dupItem_expired .., rfl, rfl⟩

/-- A failed form check (step 1 of R151). -/
theorem State.arrive_malformed {s : State} {f : FnId} {q st : Nat} {y : Fetched} (hb : (s.queue f q).batchId = 0)
    (hw : windowFind (s.queue f q).window (tagOf y.desc) = none) (hform : formStatus s f q y.desc = some st) :
    s.arrive f q y = s.refuseWith f q y st := by
  simp [State.arrive, hb, hw, hform]

/-- A sound descriptor without HOLD goes on to steps 2 to 5 of R151. -/
theorem State.arrive_sound {s : State} {f : FnId} {q : Nat} {y : Fetched} (hb : (s.queue f q).batchId = 0)
    (hw : windowFind (s.queue f q).window (tagOf y.desc) = none) (hform : formStatus s f q y.desc = none) (hh : holdOf y.desc = false) :
    s.arrive f q y = s.admitCmd f q y := by
  simp [State.arrive, hb, hw, hform, hh]

/-! ### A refusal -/

/-- The capacity refusals are counted (SLU_REFUSED_DEADLINE, SLU_REFUSED_QUOTA). -/
def State.countRefusal (s : State) (st : Nat) : State :=
  if st = 0x0101 then { s with slu := { s.slu with refusedDeadline := s.slu.refusedDeadline + 1 } }
  else if st = 0x0102 then { s with slu := { s.slu with refusedQuota := s.slu.refusedQuota + 1 } } else s

theorem State.countRefusal_frame (s : State) (st : Nat) : s.countRefusal st = { s with slu := { s.slu with
    refusedDeadline := (s.countRefusal st).slu.refusedDeadline, refusedQuota := (s.countRefusal st).slu.refusedQuota } } := by
  unfold State.countRefusal
  split
  · rfl
  · split <;> rfl

/-- The completion of a refused descriptor; only one of a released batch is in the tag window (R143). -/
def Fetched.refusal (y : Fetched) (s : State) (st : Nat) : Completion :=
  { Machine.refusal s y.slot y.desc y.start st with windowed := y.held }

theorem State.refuseWith_eq (s : State) (f : FnId) (q : Nat) (y : Fetched) (st : Nat) :
    s.refuseWith f q y st = (s.countRefusal st).enqueue f q (.refused (y.refusal s st)) := by
  have hc : y.refusal (s.countRefusal st) st = y.refusal s st := by rw [State.countRefusal_frame]; rfl
  rw [← hc]
  rfl

/-- A refusal with nothing before it: its completion is the next to post. -/
theorem State.queue_refuseWith {s : State} {f : FnId} {q : Nat} (y : Fetched) (st : Nat) (h : (s.queue f q).order = []) :
    (s.refuseWith f q y st).queue f q =
      { s.queue f q with toPost := (s.queue f q).toPost ++ [{ y.refusal s st with retire := s.tbs.now }], lastRetire := s.tbs.now } := by
  have hq : (s.countRefusal st).queue f q = s.queue f q := by rw [State.countRefusal_frame]; rfl
  have hn : (s.countRefusal st).now = s.tbs.now := by rw [State.countRefusal_frame]; rfl
  rw [State.refuseWith_eq, State.queue_enqueue_refused _ (hq.symm ▸ h), hq, hn]
  rfl

theorem State.refuseWith_entries (s : State) (f : FnId) (q : Nat) (y : Fetched) (st : Nat) :
    (s.refuseWith f q y st).slu.retire = s.slu.retire ∧ (s.refuseWith f q y st).slu.admitted = s.slu.admitted := by
  rw [State.refuseWith_eq, (State.enqueue_onlyRetires _ f q _).1, State.countRefusal_frame]
  exact ⟨rfl, rfl⟩

/-! ### A command that enters -/

theorem State.cmd_enter (s : State) (e : Nat) (c : Cmd) (held : Bool) : (s.enter e c held).cmd e = some c := State.cmd_setCmd _ e c

theorem State.cmd_enter_other (s : State) {e k : Nat} (c : Cmd) (held : Bool) (h : k ≠ e) : (s.enter e c held).cmd k = s.cmd k :=
  State.cmd_setCmd_other _ c h

/-- The command takes its place in the order, and its TAG enters the window. -/
theorem State.queue_enter (s : State) (e : Nat) {c : Cmd} {f : FnId} {q : Nat} (hf : c.fn = f) (hq : c.q = q) :
    (s.enter e c false).queue f q = { s.queue f q with
      order := (s.queue f q).order ++ [.cmd e], window := windowEnter (s.queue f q).window (tagOf c.desc) c.slot } := by
  subst hf hq
  exact State.queue_setQueue _ c.fn c.q _

/-- The entry of a queue-control command: it runs at once, with nothing to read (R153). -/
def controlCmd (s : State) (f : FnId) (q : Nat) (y : Fetched) (e : Nat) : Cmd :=
  { newCmd s f q y e with execStart := some s.now, phase := .running, estRet := s.now, listsDone := true, inputDone := true }

theorem State.admitCmd_control {s : State} {f : FnId} {q e : Nat} {y : Fetched} (he : s.freeEntry = some e)
    (hdev : deviceStatus s f y.desc = none) (hctl : isQueueControl (opcodeOf y.desc) = true) :
    s.admitCmd f q y = s.enter e (controlCmd s f q y e) y.held := by
  simp [State.admitCmd, he, hdev, hctl, controlCmd]

/-! ### The arrival of a descriptor -/

theorem exec_admission_malformed {s : State} {f : FnId} {q slot st : Nat} {d : Bytes} (hd : dueInstant s = none)
    (hf : (s.queue f q).fetching = some slot) (hb : (s.queue f q).batchId = 0)
    (hw : windowFind (s.queue f q).window (tagOf (padTo 128 d)) = none) (hform : formStatus s f q (padTo 128 d) = some st) :
    exec (.admission f q ⟨(s.fn f).generation, .data d⟩) s =
      .next ((s.fetched f q slot).refuseWith f q ((s.queue f q).descriptor slot s.tbs.now d) st).wakeForBacklog := by
  rw [exec_admission_data d hd hf, State.arrive_malformed (by rwa [State.queue_fetched]) (by rwa [State.queue_fetched])
    (by rwa [State.formStatus_fetched])]

theorem exec_admission_duplicate {s : State} {f : FnId} {q slot : Nat} {d : Bytes} {ts : TagState} (hd : dueInstant s = none)
    (hf : (s.queue f q).fetching = some slot) (hb : (s.queue f q).batchId = 0)
    (hw : windowFind (s.queue f q).window (tagOf (padTo 128 d)) = some ts) :
    exec (.admission f q ⟨(s.fn f).generation, .data d⟩) s =
      .next ((s.fetched f q slot).enqueue f q (dupItem (s.fetched f q slot) ((s.fetched f q slot).queue f q) slot (padTo 128 d)
        ((s.queue f q).starts.headD s.tbs.now) ts)).wakeForBacklog := by
  rw [exec_admission_data d hd hf, State.arrive_duplicate (by rwa [State.queue_fetched]) (by rwa [State.queue_fetched])]
  rfl

theorem exec_admission_control {s : State} {f : FnId} {q slot e : Nat} {d : Bytes} (hd : dueInstant s = none)
    (hf : (s.queue f q).fetching = some slot) (hb : (s.queue f q).batchId = 0)
    (hw : windowFind (s.queue f q).window (tagOf (padTo 128 d)) = none) (hform : formStatus s f q (padTo 128 d) = none)
    (hdev : deviceStatus s f (padTo 128 d) = none) (hh : holdOf (padTo 128 d) = false)
    (hctl : isQueueControl (opcodeOf (padTo 128 d)) = true) (he : s.freeEntry = some e) :
    exec (.admission f q ⟨(s.fn f).generation, .data d⟩) s =
      .next ((s.fetched f q slot).enter e
        (controlCmd (s.fetched f q slot) f q ((s.queue f q).descriptor slot s.tbs.now d) e) false).wakeForBacklog := by
  have harrive := State.arrive_sound (s := s.fetched f q slot) (f := f) (q := q) (y := (s.queue f q).descriptor slot s.tbs.now d)
    (by rwa [State.queue_fetched]) (by rwa [State.queue_fetched]) ((s.formStatus_fetched f f q slot q _).trans hform) hh
  have hadmit := State.admitCmd_control (s := s.fetched f q slot) (f := f) (q := q) (y := (s.queue f q).descriptor slot s.tbs.now d)
    ((s.freeEntry_fetched f q slot).trans he) ((s.deviceStatus_fetched f f q slot _).trans hdev) hctl
  rw [exec_admission_data d hd hf, harrive, hadmit]
  rfl

/-- What the retirement of items leaves once a descriptor has arrived: the tag window, the entries, the rules and the quota. -/
theorem OnlyRetires.keeps {s t : State} {f : FnId} {q slot : Nat} (h : OnlyRetires f q (s.fetched f q slot) t) :
    (t.queue f q).window = (s.queue f q).window ∧ (t.queue f q).sqHead = (slot + 1) % (s.queue f q).depth ∧
      t.slu.retire = s.slu.retire ∧ t.slu.admitted = s.slu.admitted ∧ t.slu.rules = s.slu.rules ∧
      (t.queue f q).cmdBal = (s.queue f q).cmdBal := by
  obtain ⟨hslu, hqueue⟩ := h
  rw [hslu, hqueue, State.queue_fetched]
  exact ⟨rfl, rfl, rfl, rfl, rfl, rfl⟩

/-- Settles O5: the refusal, the duplicate, and the queue-control command that enters. -/
theorem admissionRefusesAnswersOrEnters : Obligations.AdmissionRefusesAnswersOrEnters := by
  unfold Obligations.AdmissionRefusesAnswersOrEnters
  refine ⟨?refused, ?duplicate, ?enters⟩
  case refused =>
    rintro s f q slot st d x rfl hf hb ho hw hform hd
    refine ⟨_, { ((s.queue f q).descriptor slot s.tbs.now d).refusal s st with retire := s.tbs.now },
      exec_admission_malformed hd hf hb hw hform, ?_, rfl, rfl, rfl, rfl, rfl, rfl, ?_⟩
    · rw [State.queue_wakeForBacklog, State.queue_refuseWith _ _ (by rwa [State.queue_fetched]), State.queue_fetched]
      rfl
    · rw [State.wakeForBacklog_slu]
      exact State.refuseWith_entries _ f q _ st
  case duplicate =>
    rintro s f q slot d x ts rfl hf hb hw hd
    rw [exec_admission_duplicate hd hf hb hw]
    refine ⟨_, rfl, ?_⟩
    rw [State.queue_wakeForBacklog, State.wakeForBacklog_slu]
    obtain ⟨hwindow, hhead, hretire, hadmitted, hrules, hbal⟩ := OnlyRetires.keeps (State.enqueue_onlyRetires (s.fetched f q slot) f q
      (dupItem (s.fetched f q slot) ((s.fetched f q slot).queue f q) slot (padTo 128 d) ((s.queue f q).starts.headD s.tbs.now) ts))
    refine ⟨hwindow, hhead, hretire, hadmitted, hrules, hbal, fun e r ho => ?behind, fun ho hp => ?alone⟩
    case behind =>
      have hbehind := State.queue_enqueue_dupItem_behind slot ((s.queue f q).starts.headD s.tbs.now) (padTo 128 d) ts
        (show ((s.fetched f q slot).queue f q).order = .cmd e :: r by rwa [State.queue_fetched])
      rwa [State.queue_fetched] at hbehind ⊢
    case alone =>
      exact State.queue_enqueue_dupItem _ _ _ _ (by rwa [State.queue_fetched]) (by rwa [State.queue_fetched])
  case enters =>
    rintro s f q slot e d x rfl hf hb hw hform hdev hhold hctl he hd
    have hwakes := State.wakeForBacklog_onlyWakes ((s.fetched f q slot).enter e
      (controlCmd (s.fetched f q slot) f q ((s.queue f q).descriptor slot s.tbs.now d) e) false)
    refine ⟨_, controlCmd (s.fetched f q slot) f q ((s.queue f q).descriptor slot s.tbs.now d) e,
      exec_admission_control hd hf hb hw hform hdev hhold hctl he, ?_, rfl, rfl, rfl, rfl, rfl, rfl, rfl, rfl, rfl, ?_, fun k hk => ?_, ?_,
      hwakes.2, hwakes.frame rfl⟩
    · rw [State.cmd_wakeForBacklog, State.cmd_enter]
    · rw [State.wakeForBacklog_slu]; rfl
    · rw [State.cmd_wakeForBacklog, State.cmd_enter_other _ _ _ hk]; rfl
    · rw [State.queue_wakeForBacklog, State.queue_enter (f := f) (q := q) _ e rfl rfl, State.queue_fetched]
      rfl

end Sys2Proof.Machine
end

section
/-! SUPPORT. O7: the write of SLU_CTRL, an idle basin that parks, and a parked basin that serves again (R59, R171 to R173, R468). -/

namespace Sys2Proof.Machine

/-! ### Waking basins of a list (R173) -/

@[simp] theorem State.asleep_wake (s : State) (n b : Nat) : ((s.wake n).basin b).asleep = (s.basin b).asleep := by
  rw [(State.wake_onlyWakes s n).2 b]; rfl

theorem State.waking_wake (s : State) (n b : Nat) :
    ((s.wake n).basin b).waking = ((s.basin b).waking || ((s.basin b).asleep && b == n)) := by
  by_cases hb : b = n
  · subst hb
    unfold State.wake
    split
    · next h => simp [(Bool.and_eq_true_iff.mp h).1]
    · next h => simpa using h
  · have hkeep : (s.wake n).basin b = s.basin b := by
      unfold State.wake
      split
      · exact State.basin_setBasin_other _ _ hb
      · rfl
    simp [hkeep, hb]

theorem State.waking_foldl_wake (s : State) (l : List Nat) (b : Nat) :
    ((l.foldl (fun a n => a.wake n) s).basin b).waking = ((s.basin b).waking || ((s.basin b).asleep && l.contains b)) := by
  induction l generalizing s with
  | nil => simp
  | cons n r ih => rw [List.foldl_cons, ih, State.waking_wake, State.asleep_wake, Bool.or_assoc, ← Bool.and_or_distrib_left, List.contains_cons]

theorem State.foldl_wake_onlyWakes (s : State) (l : List Nat) : OnlyWakes s (l.foldl (fun a n => a.wake n) s) :=
  OnlyWakes.foldl State.wake_onlyWakes s l

/-! ### Credits before a basin joins or leaves the device pace (R156) -/

theorem State.accrueDerated_frame (s : State) : s.accrueDerated = { s with queues := s.accrueDerated.queues } := by
  unfold State.accrueDerated State.when
  split <;> rfl

theorem State.accrueDerated_of_not_derated {s : State} (h : s.bsn.derated = false) : s.accrueDerated = s := by
  simp [State.accrueDerated, State.when, h]

@[simp] theorem State.basin_accrueDerated (s : State) (b : Nat) : s.accrueDerated.basin b = s.basin b := by
  rw [State.accrueDerated_frame]; rfl

@[simp] theorem State.drbg_accrueDerated (s : State) (b : Nat) : s.accrueDerated.drbg b = s.drbg b := by
  rw [State.accrueDerated_frame]; rfl

/-! ### A basin that begins to serve (R59, R164) -/

/-- The return of virtual times to 0 changes nothing else of the basin. -/
theorem State.basin_resetVirtual {s : State} {b : Nat} {x : Basin} (h : s.basin b = x) :
    ∃ vJ tJ vK tK, (s.resetVirtual b).basin b = { x with vJ := vJ, tagsJ := tJ, vK := vK, tagsK := tK } := by
  subst h
  unfold State.resetVirtual
  dsimp only
  rw [State.basin_setBasin]
  split <;> split <;> exact ⟨_, _, _, _, rfl⟩

theorem State.basin_resetVirtual_other (s : State) {b c : Nat} (h : c ≠ b) : (s.resetVirtual b).basin c = s.basin c :=
  State.basin_setBasin_other _ _ h

/-- A basin as it begins to serve. -/
def Basin.begun (x : Basin) (r : Option Nat) (t : Nat) : Basin :=
  { x with
      st := .serving, role := r, sinceServe := 0, waking := false, idleSince := t, testFor := 0, subFor := none
      drainFrom := none, diagOk := false, vJ := 0, vK := 0 }

theorem State.beginServing_eq (s : State) (b : Nat) (r : Option Nat) : s.beginServing b r =
    ({ s.accrueDerated.setBasin b ((s.basin b).begun r s.now) with bsn := { s.bsn with loopOn := true } } : State).resetVirtual b := by
  unfold State.beginServing
  rw [State.accrueDerated_frame]
  rfl

/-- A basin that begins to serve changes the basins, the voltage loop's enable and the queues' credits. -/
theorem State.beginServing_frame (s : State) (b : Nat) (r : Option Nat) : s.beginServing b r = { s with
    queues := s.accrueDerated.queues, basins := (s.beginServing b r).basins, bsn := { s.bsn with loopOn := true } } := by
  rw [State.beginServing_eq, State.accrueDerated_frame]
  rfl

theorem State.basin_beginServing (s : State) (b : Nat) (r : Option Nat) :
    ∃ vJ tJ vK tK, (s.beginServing b r).basin b =
      { (s.basin b).begun r s.now with vJ := vJ, tagsJ := tJ, vK := vK, tagsK := tK } := by
  rw [State.beginServing_eq]
  exact State.basin_resetVirtual (State.basin_setBasin _ _ _)

theorem State.basin_beginServing_other (s : State) {b c : Nat} (r : Option Nat) (h : c ≠ b) :
    (s.beginServing b r).basin c = s.basin c :=
  calc (s.beginServing b r).basin c = (s.accrueDerated.setBasin b ((s.basin b).begun r s.now)).basin c := by
        rw [State.beginServing_eq, State.basin_resetVirtual_other _ h]; rfl
    _ = s.accrueDerated.basin c := State.basin_setBasin_other _ _ h
    _ = s.basin c := State.basin_accrueDerated s c

/-! ### The write of SLU_CTRL (R171, R173) -/

/-- SLU_CTRL's fields as a write leaves them. -/
def State.sluCtrl (s : State) (v : BitVec 32) : State :=
  { s with slu := { s.slu with suspend := v.extractLsb' 0 3, parkEn := v.getLsbD 3 } }

theorem exec_sluCtrlWrite_pf0 {s : State} {f : FnId} (v : BitVec 32) (hf : f.vf = 0) (hx : s.fnExists f = true) :
    exec (.sluCtrlWrite f v) s =
      .next (if v.getLsbD 3 then s.sluCtrl v else basinNums.foldl (fun a n => a.wake n) (s.sluCtrl v)) := by
  show execSluCtrlWrite f v s = _
  simp [execSluCtrlWrite, isPf0, hf, hx, State.sluCtrl]

/-- Every parked basin begins to wake where PARK_EN is written clear, and none where it is written set. -/
theorem exec_sluCtrlWrite_wakes {s : State} {f : FnId} (v : BitVec 32) (hf : f.vf = 0) (hx : s.fnExists f = true) :
    ∃ t, exec (.sluCtrlWrite f v) s = .next t ∧ OnlyWakes (s.sluCtrl v) t ∧
      ∀ b ∈ basinNums, (t.basin b).waking = ((s.basin b).waking || (!v.getLsbD 3 && (s.basin b).asleep)) := by
  refine ⟨_, exec_sluCtrlWrite_pf0 v hf hx, ?_⟩
  cases v.getLsbD 3 with
  | true => exact ⟨OnlyWakes.refl _, fun b _ => (Bool.or_false _).symm⟩
  | false =>
    refine ⟨State.foldl_wake_onlyWakes _ _, fun b hb => ?_⟩
    rw [if_neg Bool.false_ne_true, State.waking_foldl_wake, List.contains_iff_mem.mpr hb, Bool.and_true]
    rfl

theorem exec_sluCtrlWrite_vf {s : State} {f : FnId} (v : BitVec 32) (hf : f.vf ≠ 0) : exec (.sluCtrlWrite f v) s = .next s := by
  show execSluCtrlWrite f v s = _
  simp [execSluCtrlWrite, isPf0, hf]

/-! ### Parking (R172) -/

/-- The state in which basin b has parked. -/
def State.park (s : State) (b : Nat) : State :=
  ((s.accrueDerated.setBasin b { s.basin b with st := .parked, sinceStart := 0 }).setDrbg b { reseeds := (s.drbg b).reseeds }).sluEvent 0

/-- Sluice may park basin b, but for R172's condition on pools and reservations. -/
def State.idleLong (s : State) (b : Nat) : Prop :=
  s.slu.parkEn = true ∧ (s.basin b).st = .serving ∧ s.onBasin b = [] ∧ (s.basin b).idleSince + 1000 * s.slu.parkIdle ≤ s.tbs.now

theorem exec_parkBasin_idle {s : State} {b : Nat} (h : s.idleLong b) (hp : parkable s b = true) :
    exec (.parkBasin b) s = .next (s.park b) := by
  obtain ⟨hen, hst, hon, hidle⟩ := h
  show execParkBasin b s = _
  simp [execParkBasin, Basin.serving, State.now, hen, hst, hon, hidle, hp, State.park]

theorem exec_parkBasin_busy {s : State} {b : Nat} (h : ¬ s.idleLong b) : exec (.parkBasin b) s = .next s := by
  show execParkBasin b s = _
  refine if_neg fun hc => h ?_
  simp only [Bool.and_eq_true, Basin.serving, beq_iff_eq, List.isEmpty_iff, decide_eq_true_eq] at hc
  obtain ⟨⟨⟨⟨hen, hst⟩, hon⟩, hidle⟩, -⟩ := hc
  exact ⟨hen, hst, hon, hidle⟩

theorem State.basin_park (s : State) (b : Nat) : (s.park b).basin b = { s.basin b with st := .parked, sinceStart := 0 } :=
  State.basin_setBasin _ _ _

theorem State.basin_park_other (s : State) {b c : Nat} (h : c ≠ b) : (s.park b).basin c = s.basin c :=
  (State.basin_setBasin_other _ _ h).trans (State.basin_accrueDerated s c)

theorem State.drbg_park (s : State) (b : Nat) : (s.park b).drbg b = { reseeds := (s.drbg b).reseeds } :=
  State.drbg_setDrbg _ _ _

theorem State.drbg_park_other (s : State) {b c : Nat} (h : c ≠ b) : (s.park b).drbg c = s.drbg c :=
  (State.drbg_setDrbg_other _ _ h).trans (State.drbg_accrueDerated s c)

theorem State.park_frame (s : State) (b : Nat) : s.park b = { s with
    slu := { s.slu with event := s.slu.event.set 0 }, basins := (s.park b).basins, spg := (s.park b).spg
    queues := s.accrueDerated.queues } := by
  unfold State.park
  rw [State.accrueDerated_frame]
  rfl

/-! ### The end of a wake (R173, R468) -/

theorem exec_wakeComplete_seeded {s : State} {b : Nat} (hst : (s.basin b).st = .parked) (hw : (s.basin b).waking = true)
    (hd : (s.drbg b).inst = true) : exec (.wakeComplete b) s = .next ((s.beginServing b (s.basin b).role).sluEvent 1) := by
  show execWakeComplete b s = _
  simp [execWakeComplete, Basin.asleep, hst, hw, hd]

theorem exec_wakeComplete_unseeded {s : State} {b : Nat} (hd : (s.drbg b).inst = false) : exec (.wakeComplete b) s = .next s := by
  show execWakeComplete b s = _
  simp [execWakeComplete, hd]

/-- Settles O7: SLU_CTRL's write, parking with its refusals, and the end of a wake. -/
theorem parkingWakingAndSuspendBits : Obligations.ParkingWakingAndSuspendBits := by
  unfold Obligations.ParkingWakingAndSuspendBits
  refine ⟨?pf0, ?vf, ?parks, ?stays, ?wakes⟩
  case pf0 =>
    intro s f v hf hx
    obtain ⟨t, hexec, ⟨hframe, hbasin⟩, hwaking⟩ := exec_sluCtrlWrite_wakes v hf hx
    refine ⟨t, hexec, by rw [hframe]; rfl, fun b hb => ⟨by rw [hbasin b]; rfl, hwaking b hb⟩, ?_⟩
    rw [hframe]
    rfl
  case vf =>
    exact fun s f v hf => exec_sluCtrlWrite_vf v hf
  case parks =>
    intro s b hen hst hon hidle hp
    refine ⟨_, exec_parkBasin_idle ⟨hen, hst, hon, hidle⟩ hp, by rw [State.basin_park], by rw [State.basin_park],
      by rw [State.drbg_park], by rw [State.park_frame], fun c hc => ⟨State.basin_park_other s hc, State.drbg_park_other s hc⟩,
      fun hder => ?_, by rw [State.park_frame]⟩
    rw [State.park_frame, State.accrueDerated_of_not_derated hder]
  case stays =>
    intro s b h
    refine exec_parkBasin_busy ?_
    rintro ⟨hen, hst, hon, hidle⟩
    rcases h with h | h | h | h
    · simp [hen] at h
    · exact h hst
    · exact h hon
    · omega
  case wakes =>
    intro s b hst hw
    refine ⟨fun hd => ?_, exec_wakeComplete_unseeded⟩
    obtain ⟨vJ, tJ, vK, tK, hbegun⟩ := State.basin_beginServing s b (s.basin b).role
    refine ⟨_, exec_wakeComplete_seeded hst hw hd, (congrArg Basin.st hbegun :), (congrArg Basin.role hbegun :),
      (congrArg Basin.sinceServe hbegun :), (congrArg Basin.sinceStart hbegun :), (congrArg Basin.waking hbegun :), ?slu, ?bsn,
      fun c hc => State.basin_beginServing_other s _ hc, fun hder => ?queues, ?frame⟩
    case queues => rw [State.sluEvent_queues, State.beginServing_frame, State.accrueDerated_of_not_derated hder]
    case slu | bsn | frame => rw [State.beginServing_frame]; rfl

end Sys2Proof.Machine
end
